-- ==== Sys2Proof/Word.lean ====
section
/-! DEFINITION. The data words of the OTZ8648: 16-bit registers (R7, R389) and the bytes of its frames, images and
NVS pages. -/
namespace Sys2Proof

/-- A register's data word (R389: bits 15:0 of the access word). -/
abbrev Word := BitVec 16

/-- A byte of a frame, an image or an NVS page. -/
abbrev Byte := BitVec 8

end Sys2Proof
end

