-- ==== Sys2Proof/Syntax.lean ====
section
/-! DEFINITION. The commands the module takes (one constructor of Instr per row of the table of operations and events) and
what they carry: bytes of frames, stamps, sensor readings, and the writer, mask and data of a register write. -/
namespace Sys2Proof
/-- The transaction contexts of R414, which are also the writers and readers of the register file. -/
inductive Ctx where
  | spi | i2c | hildo | seq | cas
  deriving DecidableEq, Repr, Inhabited

/-- Temperatures as measured, in 0.01 °C, the oven power in mW, and the seven die sensors SYN0 to SYN5 and SYNS. -/
structure Temps where
  res : Int
  oven : Int
  case : Int
  power : Nat
  dies : List Int
  deriving DecidableEq, Repr, Inhabited

/-- The input as measured: VIN in 10 mV, input current in mA, input power in mW (R534, R556). -/
structure Supply where
  vin : Nat
  iin : Nat
  pin : Nat
  deriving DecidableEq, Repr, Inhabited

/-- Sensor readings that come with an event: an accelerometer sample (mg), temperatures and the input, each if there is one. -/
structure Sense where
  acc : Option (Int × Int × Int)
  temps : Option Temps
  supply : Option Supply
  deriving DecidableEq, Repr, Inhabited

/-- The tracked edges that reached one tracker in an epoch: how many, and the first and last stamp in ps. -/
structure EdgeIn where
  trk : Nat
  n : Nat
  first : Nat
  last : Nat
  deriving DecidableEq, Repr, Inhabited

/-- A complete message at TOD_RX, byte by byte as the UART received it (R91 to R97). -/
abbrev TodMsg := List Byte

/-- The reading of a synthesiser's LOCKA comparator (R201): whether the pin is on its low side, and for how many ns it has been
there. -/
structure Comparator where
  low : Bool
  held : Nat
  deriving DecidableEq, Repr, Inhabited

/-- A received PTP message: the frame round it (R294), as the bytes in front of the message, the length of the frame with its
FCS, and whether the FCS is correct; and what its header and its AUTHENTICATION TLV carry (R304, R321): `good` says that its
length and field checks hold; `auth` is SPP, keyID, the key its ICV was made with, and whether delayed processing is
asked for. -/
structure PtpHdr where
  wrap : List Byte
  len : Nat
  fcs : Bool
  domain : Nat
  seq : Nat
  srcId : Nat
  srcPort : Nat
  corr : Int
  twoStep : Bool
  logInt : Int
  good : Bool
  auth : Option (Nat × Nat × Nat × Bool)
  deriving DecidableEq, Repr, Inhabited

/-- A clock dataset as Announce carries it (R303, R316, R317). -/
structure Dataset where
  gmId : Nat
  gmClass : Nat
  accuracy : Nat
  variance : Nat
  prio1 : Nat
  prio2 : Nat
  steps : Nat
  senderId : Nat
  senderPort : Nat
  utcOfs : Int
  flags : Nat
  timeSource : Nat
  timeBase : Nat
  deriving DecidableEq, Repr, Inhabited

/-- What a management message asks for (R319). -/
inductive MgmtAsk where
  | null | clockDescription | defaultDs | currentDs | parentDs | timeProperties | portDs | other
  deriving DecidableEq, Repr, Inhabited

/-- Why the MAC discards a received frame (R294). -/
inductive Discard where
  | outside | fcs | oversize | wrongDomain
  deriving DecidableEq, Repr, Inhabited

/-- The configuration flash as the module reads it at a start (R426, R432): the bytes that each of the two passes returns,
and whether the firmware patch's internal check passes (R431). -/
structure Flash where
  pass1 : List Byte
  pass2 : List Byte
  patchOk : Bool
  deriving DecidableEq, Repr, Inhabited

/-- How a self-test ended (R502 to R510): the unit, the applied count, whether the signature matched, whether the window
tested again after a spare column passes (R506), and the sequencer's stalls during the test with the longest in cycles. -/
structure TestResult where
  unit : Nat
  applied : Nat
  sigOk : Bool
  repairOk : Bool
  stalls : Nat
  longest : Nat
  deriving DecidableEq, Repr, Inhabited

/-- The commands of the module, one per row of the table of operations and events.  A command that is a register write
carries the writer, what it writes to, the mask and the data of its access word (R389). -/
inductive Instr where
  /-- The MTB counter reaches a multiple of 25,000. Every tracker and PTP estimator closes the epoch and presents its result. (R34) -/
  | epochEdge (edges : List EdgeIn) (x : Sense)
  /-- The collector entries of an epoch are released 4 µs after its edge. (R117) -/
  | collectorRelease
  /-- An on-time edge of a pulse reference is the evaluation step of its monitor. (R81) -/
  | pulseOnTimeEdge (k stamp : Nat)
  /-- WTR_LEFT reaches 0, or the two-epoch rule is met, and the reference enters VALID or SUSPECT. (R81) -/
  | wtrExpire (k : Nat)
  /-- A Windsock interval ends, and a sample and DRIFT are formed unless the interval saw LOS or a re-anchor. (R65) -/
  | windsockSample (k : Nat)
  /-- A TDC calibration completes every 1 ms. It is accepted, or it is discarded with CAL_OK cleared and source 31 WARN. (R105) -/
  | tdcCalibrationDone (k fs : Nat)
  /-- No edge arrives within the loss-of-signal time, and a VALID or SUSPECT reference enters FAILED with cause LOS. (R54) -/
  | losDetect (k : Nat)
  /-- The first edge after a loss clears LOS and re-seeds the Gust filter. (R56) -/
  | losClear (k stamp : Nat)
  /-- A write to MON_EN or to the configuration takes the monitor to ABSENT or brings it out of ABSENT at the write. (R81) -/
  | inCfgWrite (c : Ctx) (k : Nat) (i : Nat) (mask data : Nat)
  /-- A change of INM.IN_CFG.ROLE to or from OUTPUT stops or starts the output and the monitor, the receiver and the capture source. (R231) -/
  | roleWrite (c : Ctx) (k : Nat) (mask data : Nat)
  /-- A write of the highest nominal register applies the nominal. The reference goes to WAIT and the Windsock record clears. (R53) -/
  | nominalWrite (c : Ctx) (k : Nat) (mask data : Nat)
  /-- A write of the highest register of a multi-register setting applies the whole staged value. (R53) -/
  | stagedSettingApply (c : Ctx) (a : Nat) (mask data : Nat)
  /-- Writing REQUAL puts the reference into WAIT with a full WTR. (R81) -/
  | requal (c : Ctx) (k : Nat) (mask data : Nat)
  /-- Setting FORCE_FAIL fails the reference with cause SW. Clearing it returns the reference to WAIT when no other failing condition holds. (R90) -/
  | forceFailWrite (c : Ctx) (k : Nat) (mask data : Nat)
  /-- A write to WTR during WAIT recomputes WTR_LEFT at once. (R80) -/
  | wtrWrite (c : Ctx) (k : Nat) (mask data : Nat)
  /-- Writing 1 to a W1C flag clears it, or is refused with CLEAR_REFUSED while its condition holds. (R88) -/
  | w1cClear (c : Ctx) (a : Nat) (mask data : Nat)
  /-- A write to an index or selector register copies the selected item into its data registers in the same cycle. (R100) -/
  | selectCopy (c : Ctx) (a : Nat) (mask data : Nat)
  /-- A read of the lowest register of a multi-register value latches the higher registers into the reader's shadow. (R39) -/
  | latchingRead (c : Ctx) (a : Nat)
  /-- A complete ToD message on TOD_RX is paired, checked and accepted, rejected or ignored. (R93) -/
  | todMessage (m : TodMsg) (stamp : Nat)
  /-- LOSS_S seconds pass without an accepted message, and TOD_STAT.VALID clears. (R94) -/
  | todLoss
  /-- Writing TOD_CFG.EN clears VALID and CONFIRMED, or restarts the confirmation. (R94) -/
  | todEnableWrite (c : Ctx) (mask data : Nat)
  /-- A write of IN_DELAY takes effect at the next epoch close. (R112) -/
  | inDelayWrite (c : Ctx) (k : Nat) (mask data : Nat)
  /-- Writing TRK.CTRL.ARM arms a snapshot of the next epoch's result of SNAP_SRC. (R120) -/
  | snapshotArm (c : Ctx) (mask data : Nat)
  /-- Writing a PEAK_CLR bit resets a peak-occupancy or peak-value record. (R120) -/
  | peakClr (c : Ctx) (a : Nat) (mask data : Nat)
  /-- Writing a block's CNT_CLR clears that block's counters together in one cycle. (R245) -/
  | cntClr (c : Ctx) (a : Nat) (mask data : Nat)
  /-- At 2 µs after the epoch edge each domain reads its configuration, the qualification states and the results, and processes the epoch. (R125) -/
  | domainSnapshot
  /-- A write that changes PREF_SLOT switches, sets MAN_PEND or clears it. (R129) -/
  | manualSelection (c : Ctx) (d : Nat) (mask data : Nat)
  /-- A write that disables or re-targets the selected slot makes the domain reselect with cause MANUAL. (R130) -/
  | slotWrite (c : Ctx) (d : Nat) (i : Nat) (mask data : Nat)
  /-- A write of SEL_CTRL.MODE moves the domain to AUTO, FORCED, HOLD or FREERUN behaviour. (R127) -/
  | modeWrite (c : Ctx) (d : Nat) (mask data : Nat)
  /-- Writing BO_RESET starts a slew of BO_OFS to zero without a switch. (R144) -/
  | boReset (c : Ctx) (d : Nat) (mask data : Nat)
  /-- A write of OFFSET2 applies the software offset from the next epoch. (R160) -/
  | offsetWrite (c : Ctx) (d : Nat) (mask data : Nat)
  /-- A whole MTB second ends, and a qualified second's INTEG mean enters the holdover history. (R178) -/
  | holdoverSecond
  /-- At each whole second of HO_TIME the holdover time-error estimate is recomputed. (R180) -/
  | hoBudgetUpdate (d : Nat)
  /-- The oven moves between COLD, WARMING and SETTLED and raises source 16. (R169) -/
  | ovenStateChange (x : Sense)
  /-- Writing OVEN_CTRL.EN turns the oven off to COLD or starts warm-up. (R169) -/
  | ovenEnWrite (c : Ctx) (mask data : Nat)
  /-- An out-of-range or frozen accelerometer drops the g term and raises source 17. (R176) -/
  | accelerometerFault
  /-- 8,000 consecutive good accelerometer samples set ACC_OK again. (R176) -/
  | accRecovery
  /-- Writing LOAD_FACTORY copies the FACTORY model bank into ACTIVE. (R173) -/
  | loadFactory (c : Ctx) (mask data : Nat)
  /-- Writing APPLY_STAGED copies STAGED into ACTIVE, refused outside FAB, PROVISION and RETURN. (R173) -/
  | applyStaged (c : Ctx) (mask data : Nat)
  /-- A change of COMP_EN slews the model term in use between 0 and the model value. (R559) -/
  | compEnWrite (c : Ctx) (mask data : Nat)
  /-- The sequencer writes a learned update into the ACTIVE bank. (R175) -/
  | modelLearnUpdate (ps : List (Nat × Int))
  /-- EN written 1 on an OFF synthesiser puts the shadows in force, selects a band and enters LOCKING. (R558) -/
  | synEnable (c : Ctx) (k : Nat) (mask data : Nat)
  /-- EN written 0 gates the outputs and stops the VCO. (R214) -/
  | synDisable (c : Ctx) (k : Nat) (mask data : Nat)
  /-- Writing CTRL.UPDATE sends the update strobe that transfers all shadows, or holds it while the synthesiser is unlocked. (R205) -/
  | update (c : Ctx) (k : Nat) (mask data : Nat)
  /-- The strobe reaches the tree, fixes the apply instant A and loads the dividers. (R206) -/
  | applyInstant (k : Nat)
  /-- N_cur reaches N_new, and the synthesiser returns to LOCKED. (R209) -/
  | glideComplete (k : Nat)
  /-- Writing CTRL.RECAL reselects the band as a relock and ends any glide on its target. (R211) -/
  | recal (c : Ctx) (k : Nat) (mask data : Nat)
  /-- The lock detector declares lock, and outputs resume or a held strobe applies. (R214) -/
  | lockDeclared (k : Nat) (counts : List Nat) (ind : Comparator)
  /-- Loss of lock gates the tree's outputs, freezes the domain and raises a WARN event. (R215) -/
  | lossOfLock (k : Nat) (counts : List Nat) (ind : Comparator)
  /-- A relock exceeds its timed bound and becomes a loss of lock with BAND_FAULT set. (R213) -/
  | relockOverrun (k : Nat)
  /-- No lock within the LOCKING timeout sets BAND_FAULT, reselects the band and restarts the attempt. (R214) -/
  | lockTimeout (k : Nat)
  /-- After BYP_WAIT of gating, an output with a bypass transfers to SYNS or the LOA. (R216) -/
  | bypassTransfer (n : Nat)
  /-- Writing BT_DATA2 stores the three data registers into the selected band-table entry. (R193) -/
  | bandTableStore (c : Ctx) (k : Nat) (mask data : Nat)
  /-- Writing BT_CTRL.INDEX copies the selected entry into BT_DATA0 to BT_DATA2. (R193) -/
  | bandTableIndex (c : Ctx) (k : Nat) (mask data : Nat)
  /-- A change of LOCKA_SEL moves the analogue lock detector between synthesisers. (R203) -/
  | lockaSelWrite (c : Ctx) (mask data : Nat)
  /-- EN written 1 with a valid configuration puts the output into ALIGNING. (R238) -/
  | outputEnable (c : Ctx) (n : Nat) (mask data : Nat)
  /-- EN written 0 ends the output at its next low phase. (R238) -/
  | outputDisable (c : Ctx) (n : Nat) (mask data : Nat)
  /-- An aligning output reaches its grid start edge and enters RUN with a full-width cycle. (R248) -/
  | startEdge (n : Nat)
  /-- Writing OUT.STEP replaces the pending phase steps. (R240) -/
  | stepWrite (c : Ctx) (n : Nat) (mask data : Nat)
  /-- Writing OUT.DLY commands whole steps and a fine delay. (R243) -/
  | dlyWrite (c : Ctx) (n : Nat) (mask data : Nat)
  /-- Writing DIV1 completes the shadow divider; the value 1 is refused. (R234) -/
  | divWrite (c : Ctx) (n : Nat) (mask data : Nat)
  /-- Writing BYP_DIV1 applies the bypass divider, or holds it during BYPASS. (R250) -/
  | bypDivWrite (c : Ctx) (n : Nat) (mask data : Nat)
  /-- An excess leg current or a disagreeing level for 1 µs makes the legs high-impedance and raises source 90. (R264) -/
  | driverFault (n : Nat)
  /-- Writing 1 to EVT.DRV_FAULT re-enables the driver for a 1 µs probe. (R264) -/
  | driverProbe (c : Ctx) (n : Nat) (mask data : Nat)
  /-- The probe ends, and the output returns or the clear is refused. (R264) -/
  | driverProbeEnd (n : Nat) (persists : Bool)
  /-- Enabling a pulse generator starts its frames, or is refused for an invalid period. (R255) -/
  | pgEnable (c : Ctx) (p : Nat) (mask data : Nat)
  /-- Writing PER_DEN applies a new frame period as a grid change. (R254) -/
  | pgPeriodWrite (c : Ctx) (p : Nat) (mask data : Nat)
  /-- Writing OFFSET2 applies a new offset as a grid change. (R258) -/
  | pgOffsetWrite (c : Ctx) (p : Nat) (mask data : Nat)
  /-- Writing ALIGN arms alignment to a capture source, or is refused with ALIGN_ERR. (R257) -/
  | pgAlign (c : Ctx) (p : Nat) (mask data : Nat)
  /-- The bound time keeper reaches a frame edge E_k, and the pulse is emitted or withheld and counted. (R259) -/
  | pgFrameEdge (p : Nat)
  /-- EN written 1 takes a STOPPED time keeper to FREE and arms BUDGET. (R274) -/
  | tkEnable (c : Ctx) (t : Nat) (mask data : Nat)
  /-- EN written 0 stops the time keeper and clears the servo. (R274) -/
  | tkDisable (c : Ctx) (t : Nat) (mask data : Nat)
  /-- LOSS_S seconds pass without a valid measurement, and the time keeper enters HOLDOVER. (R279) -/
  | tkInputLoss (t : Nat)
  /-- CLIPPED has held for CLIP_S seconds, and CLIP is set. (R280) -/
  | tkClipAlarm (t : Nat)
  /-- Writing REARM arms the step budget. (R275) -/
  | tkRearm (c : Ctx) (t : Nat) (mask data : Nat)
  /-- Writing LOAD sets the time to LD_SEC and LD_NS, or is refused. (R281) -/
  | tkLoad (c : Ctx) (t : Nat) (mask data : Nat)
  /-- Writing TK_CTRL.CAPTURE produces one capture of the time keeper's time. (R282) -/
  | tkCapture (c : Ctx) (t : Nat) (mask data : Nat)
  /-- Writing INC_FRAC2 applies the base increment at the next epoch edge. (R272) -/
  | tkIncrementWrite (c : Ctx) (t : Nat) (mask data : Nat)
  /-- Setting SRC to NONE returns the time keeper to FREE. (R274) -/
  | tkSrcWrite (c : Ctx) (t : Nat) (mask data : Nat)
  /-- At the UTC day end a pending leap changes UTC_OFS and clears its flag. (R284) -/
  | leapSecond (t : Nat)
  /-- An Ethernet link comes up, and LINK_UP and an INFO event are set. (R290) -/
  | linkUp (n sqi : Nat)
  /-- A link failure clears LINK, is counted and raises a WARN event. (R290) -/
  | linkFailure (n : Nat)
  /-- A change of SPEED or PHY_ROLE while the link is up drops the link and restarts training. (R290) -/
  | ethSpeedRoleWrite (c : Ctx) (n : Nat) (mask data : Nat)
  /-- Writing SLEEP_REQ starts a TC10 sleep request to the partner. (R292) -/
  | tc10SleepReq (c : Ctx) (n : Nat) (mask data : Nat)
  /-- The partner's answer to a sleep request puts the port to sleep, or leaves the link up. (R292) -/
  | tc10SleepAcceptRx (n : Nat) (accepted : Bool)
  /-- A sleep request from the partner is accepted or rejected. (R292) -/
  | tc10SleepRx (n : Nat)
  /-- Writing WAKE_REQ sends a wake-up on the link. (R292) -/
  | tc10WakeReq (c : Ctx) (n : Nat) (mask data : Nat)
  /-- A received wake-up wakes the port and forwards the wake-up to the ports in WAKE_FWD. (R292) -/
  | tc10WakeRx (n : Nat)
  /-- A received frame outside the accepted set, or with an FCS or size error, is discarded and counted. (R294) -/
  | frameDiscard (n : Nat) (bs : List Byte)
  /-- A Sync accepted on an UNCALIBRATED or SLAVE port gives an offset measurement. (R312) -/
  | ptpSyncReceive (n stamp : Nat) (h : PtpHdr) (origin : Int)
  /-- A Follow_Up is matched to its Sync, or is discarded as late. (R307) -/
  | ptpFollowUpReceive (n : Nat) (h : PtpHdr) (origin : Int) (timeBase : Nat)
  /-- A Delay_Req received on a master port is answered. (R304) -/
  | ptpDelayReqReceive (n stamp : Nat) (h : PtpHdr)
  /-- A Delay_Resp completes an E2E path-delay sample. (R309) -/
  | ptpDelayRespReceive (n : Nat) (h : PtpHdr) (reqId reqPort : Nat) (recv : Int)
  /-- A Pdelay_Req received on an enabled port is answered. (R304) -/
  | ptpPdelayReqReceive (n stamp out : Nat) (h : PtpHdr)
  /-- A Pdelay_Resp is processed by the requester. (R310) -/
  | ptpPdelayRespReceive (n stamp : Nat) (h : PtpHdr) (reqId reqPort : Nat) (recv : Int)
  /-- A Pdelay_Resp_Follow_Up completes a peer-delay sample and NRR. (R310) -/
  | ptpPdelayRespFupReceive (n : Nat) (h : PtpHdr) (reqId reqPort : Nat) (origin : Int)
  /-- An Announce is passed to the BMCA and may trigger a run. (R314) -/
  | ptpAnnounceReceive (n : Nat) (h : PtpHdr) (d : Dataset)
  /-- A message interval request changes the port's intervals; other Signaling is discarded. (R306) -/
  | ptpSignalingReceive (n : Nat) (h : PtpHdr) (ask : Option (Int × Int × Int))
  /-- A management GET is answered, or the message is discarded and counted. (R319) -/
  | ptpManagementReceive (n : Nat) (h : PtpHdr) (get : Bool) (ask : MgmtAsk) (target : Option Nat)
  /-- A master port sends Sync at its sync interval. (R304) -/
  | syncTx (n stamp : Nat)
  /-- A master port sends Announce at its announce interval. (R304) -/
  | announceTx (n : Nat)
  /-- The E2E slave port sends Delay_Req at its request interval. (R306) -/
  | delayReqTx (n stamp : Nat)
  /-- A port sends Pdelay_Req at its peer-delay interval. (R304) -/
  | pdelayReqTx (n stamp : Nat)
  /-- No Sync arrives within SYNC_TO intervals, and the timeout is flagged and counted. (R308) -/
  | syncReceiptTimeout (n : Nat)
  /-- No Announce arrives within ANN_TO intervals, and the timeout is flagged and counted. (R308) -/
  | announceReceiptTimeout (n : Nat)
  /-- A Sync's Follow_Up fails to arrive within one sync interval, and FUP_MISS_CNT counts it. (R307) -/
  | followUpMissing (n : Nat)
  /-- A Delay_Req goes unanswered within one request interval, and DRESP_MISS_CNT counts it. (R307) -/
  | delayRespMissing (n : Nat)
  /-- The sequencer runs the BMCA and applies the port states. (R314) -/
  | bmcaRun (i us : Nat)
  /-- Enabling a PTP instance is accepted, or refused with CFG_ERR. (R302) -/
  | ptpInstanceEnable (c : Ctx) (i : Nat) (mask data : Nat)
  /-- A change of PORT_CFG.INST restarts the port in INITIALIZING at the next epoch. (R325) -/
  | portInstanceChange (c : Ctx) (n : Nat) (mask data : Nat)
  /-- Writing PD_RESTART discards the held path-delay samples. (R311) -/
  | pdRestart (c : Ctx) (n : Nat) (mask data : Nat)
  /-- Writing KEY_CTRL.SLOT selects a key slot and resets PTR. (R322) -/
  | keySlotSelect (c : Ctx) (mask data : Nat)
  /-- A KEY_DATA write stores a key word and advances PTR up to 16. (R322) -/
  | keyDataWrite (c : Ctx) (mask data : Nat)
  /-- Writing COMMIT stores the key when PTR is 16, and is refused otherwise or in SEALED and END. (R322) -/
  | keyCommit (c : Ctx) (mask data : Nat)
  /-- Writing ERASE empties the selected key slot. (R322) -/
  | keyErase (c : Ctx) (mask data : Nat)
  /-- A kept edge or internal event on an enabled capture source is stamped. (R329) -/
  | edgeCapture (i : Nat) (rising : Bool) (stamp : Nat)
  /-- A record in flight is written to its ring when a credit is free, and counts as DELIVERED. (R337) -/
  | ringWrite (k : Nat) (bad : Bool)
  /-- A read of RD_DATA returns the next halfword; the first read retires the head record. (R347) -/
  | ringRead (c : Ctx) (k : Nat)
  /-- Writing RD_RESTART discards the reader's part-read record. (R347) -/
  | ringReadRestart (c : Ctx) (k : Nat) (mask data : Nat)
  /-- A write of RCFG applies SIZE and BASE, or starts a resize, or sets CFG_ERR. (R341) -/
  | ringConfigWrite (c : Ctx) (k : Nat) (mask data : Nat)
  /-- Writing FLUSH discards every record in the ring in one cycle. (R342) -/
  | ringFlush (c : Ctx) (k : Nat) (mask data : Nat)
  /-- RCFG.CNT_CLR loads WRITTEN with USED and clears TAKEN and FLUSHED. (R344) -/
  | ringCntClr (c : Ctx) (k : Nat) (mask data : Nat)
  /-- CAP_CTRL.CNT_CLR clears every capture counter and starts a new counting period. (R338) -/
  | captureCntClr (c : Ctx) (mask data : Nat)
  /-- Writing SEQ_CLR sets the next sequence number of every source to 0. (R332) -/
  | seqClr (c : Ctx) (mask data : Nat)
  /-- Enabling an export channel starts it, or sets EXPc_ERR. (R349) -/
  | exportEnable (c : Ctx) (x : Nat) (mask data : Nat)
  /-- A running export channel takes one record from its next ring into a free frame buffer. (R349) -/
  | exportTake (x : Nat)
  /-- FLUSH_US after a frame's first record, the partial frame is sent. (R351) -/
  | exportFlushTimeout (x : Nat)
  /-- At its chain instant a module sends the forward marker and frame on its DN end. (R364) -/
  | casChainInstant (stamp : Nat)
  /-- A forward frame received on the UP end is checked, stamped and its content acted on. (R367) -/
  | casForwardFrame (stamp : Nat) (bs : List Byte)
  /-- A return frame received on the DN end gives a round-trip sample and the slave reports. (R370) -/
  | casReturnFrame (stamp : Nat) (bs : List Byte)
  /-- Frame F_a − 20 passes without GO, and the master sends ABORT with cause late. (R381) -/
  | bcastDeadline
  /-- At its commit instant a module holding GO applies the broadcast transaction. (R382) -/
  | bcastApply
  /-- Three frame times without a marker, or 16 CRC failures, take the link end DOWN. (R368) -/
  | casLinkDown (up : Bool)
  /-- A change of role or ROLE_SRC applies at the next epoch edge and retrains both links. (R360) -/
  | casRoleWrite (c : Ctx) (mask data : Nat)
  /-- Writing RECAL discards the held delay-calibration samples. (R371) -/
  | casRecal (c : Ctx) (mask data : Nat)
  /-- A deputy whose UP end stays down for TAKEOVER × 10 ms becomes master. (R376) -/
  | casTakeover
  /-- Writing YIELD returns an acting deputy master to slave. (R377) -/
  | casYield (c : Ctx) (mask data : Nat)
  /-- REF_LEFT reaches 0, and reference 32 leaves WAIT. (R374) -/
  | casRefWtrExpire
  /-- A WRITE frame with a good CRC presents its masked access words to the register file. (R397) -/
  | spiWrite (bs : List Byte)
  /-- A READ frame returns the 32-bit access words of LEN registers. (R393) -/
  | spiRead (bs : List Byte)
  /-- A READ16 frame returns bits 15:0 of LEN registers. (R393) -/
  | spiRead16 (bs : List Byte)
  /-- A frame with LEN 0 has no effect and returns STATUS. (R392) -/
  | spiPing (bs : List Byte)
  /-- A frame with an unknown command, bad length or overflow applies nothing and is counted. (R398) -/
  | frameError (i2c : Bool) (bs : List Byte)
  /-- A frame with a CRC error applies nothing, is counted and raises source 13. (R397) -/
  | frameCrcError (i2c : Bool) (bs : List Byte)
  /-- An I2C write frame is judged at its stop condition and applied. (R399) -/
  | i2cWrite (addr : Nat) (bs : List Byte)
  /-- An I2C read frame returns STATUS and data after a repeated start. (R399) -/
  | i2cRead (addr : Nat) (bs : List Byte)
  /-- SCL held low beyond I2C_TOUT ends the frame as incomplete. (R400) -/
  | i2cTimeout
  /-- A Hildo register request is checked, executed and answered. (R401) -/
  | hildoRequest (n : Nat) (bs : List Byte)
  /-- A write to a register without a row of its own reaches the register file and acts. (R405) -/
  | registerWrite (c : Ctx) (a : Nat) (mask data : Nat)
  /-- The scrubber visits a 3× field and repairs a single disagreeing copy. (R408) -/
  | scrubVisit (a lo : Nat) (copies : Option (Nat × Nat × Nat)) (passUs : Option Nat)
  /-- Writing TXN_CTRL.OPEN opens a transaction in the interface's context. (R415) -/
  | txnOpen (c : Ctx) (mask data : Nat)
  /-- Writing COMMIT applies the transaction at once or places it in a wait slot. (R417) -/
  | txnCommit (c : Ctx) (mask data : Nat)
  /-- Writing ABORT cancels the open transaction. (R421) -/
  | txnAbort (c : Ctx) (mask data : Nat)
  /-- A waiting transaction's point arrives, and its entries are checked and applied in one cycle. (R419) -/
  | txnApply (w : Nat)
  /-- A waiting transaction's timeout expires or its point becomes impossible, and it aborts LATE. (R418) -/
  | txnLate (w : Nat)
  /-- VIN rises through turn-on, and the module starts. (R453) -/
  | powerUp (fl : Flash) (id role : Nat)
  /-- RESET_N held low discards transactions and holds the module in reset. (R424) -/
  | resetNAssert
  /-- Release of RESET_N starts the module and samples the strap pads. (R453) -/
  | resetNRelease (fl : Flash) (id role : Nat)
  /-- A WAIT record's delay ends, and the next record is applied. (R429) -/
  | recordWaitExpire
  /-- The load ends with the NVS step, sets LOADED and raises source 8. (R434) -/
  | imageLoadDone
  /-- Start-up BIST ends, and monitors, synthesisers, domains and outputs start. (R499) -/
  | startupBistDone (rs : List TestResult)
  /-- Writing BRZ_CTRL.STOP stops every Breeze driver at full width. (R459) -/
  | breezeStop (c : Ctx) (mask data : Nat)
  /-- Writing CFG_CTRL.STORE is accepted or refused and starts writing the changed pages. (R440) -/
  | store (c : Ctx) (mask data : Nat)
  /-- A page write completes its program and verify phases, or fails verify twice. (R437) -/
  | pageWriteDone (ok : Bool)
  /-- A STORE ends, STORE_RES is set and source 11 raises its event. (R440) -/
  | storeDone
  /-- PAGE_READ copies the active slot of a page into the page buffer. (R444) -/
  | pageRead (c : Ctx) (mask data : Nat)
  /-- PAGE_WRITE writes the page buffer to a user page, or is refused. (R444) -/
  | pageWrite (c : Ctx) (mask data : Nat)
  /-- A write-once write of PROTECT.BP sets NVS block protection. (R443) -/
  | protectWrite (c : Ctx) (mask data : Nat)
  /-- Writing NVS_CTRL.CNT_INC increments a user spread counter. (R448) -/
  | cntInc (c : Ctx) (mask data : Nat)
  /-- A spread-counter increment is programmed, verified and acknowledged. (R446) -/
  | counterIncrementAck (ok : Bool)
  /-- Every 168 powered hours, or on SCRUB_NOW, the margin scrubber refreshes weak pages and cells. (R439) -/
  | marginScrub (pages cells : List Nat)
  /-- Writing PS_CTRL.GO moves the module towards TARGET, or defers the move. (R464) -/
  | powerGo (c : Ctx) (mask data : Nat)
  /-- A WAKE pad level held 10 µs returns the module to RUN. (R468) -/
  | wakePad (high : Bool)
  /-- The RTC alarm expires and wakes the module. (R468) -/
  | rtcAlarm
  /-- In NAP and DORMANT each RTC tick advances the MTB counter. (R33) -/
  | rtcTick
  /-- An explicit bank request is applied or refused with COMPAT_IGN. (R470) -/
  | pmReqWrite (c : Ctx) (i : Nat) (mask data : Nat)
  /-- VIN falls below UVW_TH, and UV_WARN is set with source 4. (R534) -/
  | uvWarning (vin : Nat)
  /-- VIN falls through 35 V, and hold-up engages. (R537) -/
  | inputUv (vin : Nat)
  /-- VIN falls through 32 V, and the main converter stops. (R534) -/
  | turnOff (vin : Nat)
  /-- VIN rises through 77 V, and OV is set with source 5. (R534) -/
  | overvoltage (vin : Nat)
  /-- An internal rail leaves ±5 % for 10 µs and raises source 7. (R555) -/
  | railFault (r : Nat)
  /-- The last started NVS operation ends, and the module goes off. (R537) -/
  | holdupEnd (collapsed torn : Bool)
  /-- After at least 10 ms off, with VIN above turn-on for 1 ms, the module starts as at power-up. (R539) -/
  | holdupRestart (fl : Flash) (id role : Nat)
  /-- The case or a die reaches its warning threshold and raises source 20. (R543) -/
  | tempWarning (x : Temps)
  /-- The case or a die reaches its limit and raises source 21. (R543) -/
  | tempLimit (x : Temps)
  /-- A die at 155 °C for 1 ms sets TRIP and moves the module to KEEP. (R543) -/
  | thermalTrip (x : Temps)
  /-- Every die falls below 140 °C, and TRIP clears. (R543) -/
  | tripClear (x : Temps)
  /-- Writing FLT_SRC.SEVERE clears the latch, or is refused while the hold condition holds. (R487) -/
  | severeLatchClear (c : Ctx) (mask data : Nat)
  /-- Writing FLT_SRC.PEND clears the selected source's pending bit. (R482) -/
  | pendClear (c : Ctx) (mask data : Nat)
  /-- Writing FLT_CTRL.PEND_CLR clears all 128 pending bits. (R482) -/
  | pendClr (c : Ctx) (mask data : Nat)
  /-- FLT_CTRL.CNT_CLR clears the WARN count of every source. (R479) -/
  | faultCountClear (c : Ctx) (mask data : Nat)
  /-- A change of THRESH_N, WINDOW, ROUTE or INJ_REACT clears the count or re-evaluates pads and latches. (R479) -/
  | evtClassWrite (c : Ctx) (src : Nat) (i : Nat) (mask data : Nat)
  /-- Writing EVT_CLASS.FORCE injects one WARN event on the source. (R492) -/
  | forceInject (c : Ctx) (src : Nat) (mask data : Nat)
  /-- SAFE_N held low for 20 ns covers every output. (R484) -/
  | safeNFall
  /-- SAFE_N rises, and outputs that no latch covers return. (R484) -/
  | safeNRise
  /-- The sequencer watchdog expires, raises source 2 and restarts the sequencer. (R480) -/
  | watchdogExpire
  /-- The sequencer restart from ROM ends, and the paused tasks resume. (R480) -/
  | sequencerRestartDone
  /-- The MTB deviates or stops, and the clock fault raises source 3 or forces the drivers LOW. (R481) -/
  | clockFault (stopped : Bool)
  /-- A stopped MTB runs again, and source 3 records cause STOPPED. (R481) -/
  | mtbRestart
  /-- Writing BIST_CTRL.RUN requests a test of a unit, which starts, waits or is refused. (R507) -/
  | bistRequest (c : Ctx) (mask data : Nat)
  /-- Writing ABORT ends every requested and background test as ABORTED. (R507) -/
  | bistAbort (c : Ctx) (mask data : Nat)
  /-- Every PERIOD_H hours a background pass tests the idle masked units. (R508) -/
  | backgroundPass
  /-- A test ends with its verdict, and the unit rejoins service. (R502) -/
  | bistTestEnd (r : TestResult)
  /-- A confirmed GO starts a life-cycle transition, or sets BAD_REQ. (R514) -/
  | lcGo (c : Ctx) (mask data : Nat)
  /-- Fuse programming ends, and the state changes or FUSE_ERR is set. (R514) -/
  | lcTransitionDone (ok : Bool)
  /-- Writing KEY_COMMIT stores one half of the unseal key. (R515) -/
  | unsealKeyCommit (c : Ctx) (mask data : Nat)
  /-- Writing CLOSE with KEY_OK completes the transition to SEALED. (R515) -/
  | sealClose (c : Ctx) (mask data : Nat)
  /-- The 60 s sealing window ends without CLOSE, and sealing is abandoned. (R515) -/
  | sealingWindowExpire
  /-- Writing UNSEAL_REQ provides a fresh nonce. (R516) -/
  | unsealReq (c : Ctx) (mask data : Nat)
  /-- Writing UNSEAL_GO checks the HMAC response and unseals, or sets UNSEAL_FAIL. (R516) -/
  | unsealGo (c : Ctx) (mask data : Nat)
  /-- TAMPER_N low for 1 µs wipes the secure bank and counts a TAMPER. (R518) -/
  | tamper
  /-- Writing MEM.WIPE_CTRL.WIPE overwrites the secure bank and empties its shadow. (R517) -/
  | wipe (c : Ctx) (mask data : Nat)
  /-- The SRAM scrubber reads every word of every bank once per second. (R519) -/
  | sramScrubPass (ms corrected : Nat) (bad : List (Nat × Nat)) (shares : List Nat)
  /-- The PHY of ETHn raises or drops its own fault indication, which sets ETH_STAT.PHY_FAULT and ETH_EVT.PHY_FAULT and raises a WARN event on source 100 + n. (R324) -/
  | phyFault (n : Nat) (on : Bool)
  /-- Each hour with VIN above turn-off, in any power state, the POWERED_HOURS spread counter increments, which also advances the model's ageing term. (R447) -/
  | poweredHour
  /-- VIN rises 1.0 V above UVW_TH, and the UV warning condition clears. (R534) -/
  | uvWarnClear (vin : Nat)
  /-- After a start, VIN first reaches 36.0 V and input UV is armed, so that a later fall through 35 V engages hold-up. (R539) -/
  | inputUvArm (vin : Nat)
  /-- VIN falls through 76.0 V, and the OV condition clears, which lifts the refusal of the source 5 latch clear. (R534) -/
  | ovClear (vin : Nat)
  /-- An internal rail returns within ±5 % of nominal, and RAIL_FAULT clears, which lifts the refusal of the source 7 latch clear. (R555) -/
  | railRecovery (r : Nat)
  /-- The case or a die falls below its limit, or 2 K below its warning threshold, which clears the live limit condition or re-arms the warning. (R543) -/
  | tempRecovery (x : Temps)
  /-- The MTB returns within 5 % of the RC oscillator while running, and the clock fault is no longer declared, which lifts the refusal of the latch clear. (R481) -/
  | clockFaultEnd
  deriving DecidableEq, Repr, Inhabited

end Sys2Proof
end

