-- ==== Sys2Proof/Decode.lean ====
section
/-! DEFINITION. The words of the table of operations and events.  No row of that table has bits, so no word spells a command;
the frames that reach the register file as bytes are read by the commands of the host interfaces (Machine/Host.lean). -/
namespace Sys2Proof

/-- The command a word spells by the table's bits: none, since no row gives any. -/
def decodeTableWord (_nbits _w : Nat) : Option Instr := none

end Sys2Proof
end

