-- ==== Sys2Proof/Config.lean ====
section
/-! DEFINITION. What the spec leaves open and this model fixes nowhere: the free values.  Each is a constant with no body,
so that no proof can see its value. -/
namespace Sys2Proof

/-- Which way an inexact quotient is rounded where the spec states no rounding: the value shown is one of the two
integers next to the exact one, and which of them is free (log entry 3).  `site` names the place that rounds. -/
opaque Config.roundUp (site : Nat) (num den : Int) : Bool

/-- A value the spec calls undefined or does not state, drawn fresh at the count `n` of State.free (log entry 4). -/
opaque Config.freeNat (n : Nat) : Nat

/-- The expected count of a unit's logic self-test, which the spec does not state (log entry 4). -/
opaque Config.bistExpected (unit : Nat) : Nat

end Sys2Proof
end

