-- ==== Sys2Proof/Machine/Bits.lean ====
section
/-! DEFINITION. Bit fields, signed fields, saturation, rounding and the check codes of the spec's frames and records. -/
namespace Sys2Proof.Machine

/-- Bits hi..lo of a number. -/
def bitsOf (n hi lo : Nat) : Nat := (n / 2 ^ lo) % 2 ^ (hi + 1 - lo)

/-- The number with bits hi..lo replaced by the low bits of v. -/
def setBits (n hi lo v : Nat) : Nat :=
  n - bitsOf n hi lo * 2 ^ lo + (v % 2 ^ (hi + 1 - lo)) * 2 ^ lo

/-- The mask of bits hi..lo. -/
def maskOf (hi lo : Nat) : Nat := (2 ^ (hi + 1 - lo) - 1) * 2 ^ lo

/-- Two's complement reading of a w-bit number (R17). -/
def toSigned (w n : Nat) : Int :=
  let m := n % 2 ^ w
  if 2 ^ (w - 1) ≤ m then (m : Int) - (2 ^ w : Nat) else m

/-- The w-bit two's complement pattern of an integer, wrapping. -/
def ofSigned (w : Nat) (i : Int) : Nat := (i % ((2 ^ w : Nat) : Int)).toNat

/-- Saturation to the range of a w-bit two's complement number. -/
def satSigned (w : Nat) (i : Int) : Int :=
  max (-((2 ^ (w - 1) : Nat) : Int)) (min i ((2 ^ (w - 1) : Nat) - 1))

/-- Saturation to ±(2^(w-1) - 1). -/
def satSym (w : Nat) (i : Int) : Int :=
  max (-(((2 ^ (w - 1) : Nat) : Int) - 1)) (min i ((2 ^ (w - 1) : Nat) - 1))

/-- Saturation of a count to w bits. -/
def satNat (w n : Nat) : Nat := min n (2 ^ w - 1)

/-- A quotient whose rounding the spec does not state: exact where it is exact, else one of its two neighbours, which
one being free (log entry 3). -/
def rdiv (site : Nat) (num den : Int) : Int :=
  if num.fmod den = 0 then num.fdiv den
  else num.fdiv den + (if Config.roundUp site num den then 1 else 0)

/-- The nearest integer to a quotient; which way an exact half goes is free (log entry 3). -/
def rnear (site : Nat) (num den : Int) : Int :=
  if (2 * num + den).fmod (2 * den) = 0 then
    (2 * num + den).fdiv (2 * den) - (if Config.roundUp site num den then 0 else 1)
  else (2 * num + den).fdiv (2 * den)

/-- Division rounding up, for the estimates the spec rounds up (R180). -/
def cdiv (num den : Nat) : Nat := (num + den - 1) / den

/-- The integer square root by bisection: the largest r ≤ hi with r² ≤ n (fuel bits). -/
def isqrtAux (n : Nat) : Nat → Nat → Nat
  | 0, r => r
  | b + 1, r =>
    let c := r + 2 ^ b
    if c * c ≤ n then isqrtAux n b c else isqrtAux n b r

def isqrt (n : Nat) : Nat := isqrtAux n 96 0

def sumInt (l : List Int) : Int := l.foldl (· + ·) 0

def sumNat (l : List Nat) : Nat := l.foldl (· + ·) 0

def insertInt (x : Int) : List Int → List Int
  | [] => [x]
  | y :: ys => if x ≤ y then x :: y :: ys else y :: insertInt x ys

def sortInt (l : List Int) : List Int := l.foldl (fun acc x => insertInt x acc) []

/-- Twice the median: with an even number of values the median is the mean of the two middle values (R70). -/
def median2 (l : List Int) : Int :=
  let s := sortInt l
  let n := s.length
  if n % 2 = 1 then 2 * s.getD (n / 2) 0 else s.getD (n / 2 - 1) 0 + s.getD (n / 2) 0

/-- Least-squares slope of points (x, y), as numerator and denominator. -/
def lsqSlope (pts : List (Int × Int)) : Int × Int :=
  let n : Int := pts.length
  let sx := sumInt (pts.map (·.1))
  let sy := sumInt (pts.map (·.2))
  let sxx := sumInt (pts.map fun p => p.1 * p.1)
  let sxy := sumInt (pts.map fun p => p.1 * p.2)
  (n * sxy - sx * sy, n * sxx - sx * sx)

def crcStep (w poly : Nat) : Nat → Nat → Nat
  | 0, r => r
  | k + 1, r =>
    let r2 := (2 * r) % 2 ^ w
    crcStep w poly k (if 2 ^ (w - 1) ≤ r then Nat.xor r2 poly else r2)

/-- One byte of an MSB-first CRC of width w. -/
def crcByte (w poly r : Nat) (b : Byte) : Nat := crcStep w poly 8 (Nat.xor r (b.toNat * 2 ^ (w - 8)))

/-- CRC-8 of R394: polynomial 0x2F, MSB first, initial value 0xFF, final XOR 0xFF. -/
def crc8 (bs : List Byte) : Nat := Nat.xor (bs.foldl (crcByte 8 0x2F) 0xFF) 0xFF

/-- CRC-16 of R97: polynomial 0x1021, initial value 0xFFFF, no reflection, no final XOR. -/
def crc16 (bs : List Byte) : Nat := bs.foldl (crcByte 16 0x1021) 0xFFFF

def crcStepR (poly : Nat) : Nat → Nat → Nat
  | 0, r => r
  | k + 1, r => crcStepR poly k (if r % 2 = 1 then Nat.xor (r / 2) poly else r / 2)

/-- CRC-32C of R334, reflected, initial value and final XOR all ones. -/
def crc32c (bs : List Byte) : Nat :=
  Nat.xor (bs.foldl (fun r b => crcStepR 0x82F63B78 8 (Nat.xor r b.toNat)) 0xFFFFFFFF) 0xFFFFFFFF

/-- The bytes of a number, most significant first. -/
def bytesBE (n v : Nat) : List Byte :=
  (List.range n).map fun i => BitVec.ofNat 8 (v / 2 ^ (8 * (n - 1 - i)))

/-- The bytes of a number, least significant first. -/
def bytesLE (n v : Nat) : List Byte := (List.range n).map fun i => BitVec.ofNat 8 (v / 2 ^ (8 * i))

/-- The number that bytes spell, least significant first. -/
def natLE : List Byte → Nat
  | [] => 0
  | b :: bs => b.toNat + 256 * natLE bs

/-- The number that bytes spell, most significant first. -/
def natBE (bs : List Byte) : Nat := bs.foldl (fun a b => 256 * a + b.toNat) 0

end Sys2Proof.Machine
end

