-- ==== Sys2Proof/Machine/State.lean ====
section
/-! DEFINITION. The state of the OTZ8648 as the spec gives it, block by block, as plain data; its value right after
reset; and the reasons a command can stop.

Every register of the register map has ONE home.  A register that software writes or that is a plain flag or counter
lives in `State.regs`, a list of (address, word) pairs that lists only words differing from the map's reset word.  A
field that a state machine of the module owns lives in that block's structure below, and the register that shows it is
computed when it is read (Machine/View.lean). -/
namespace Sys2Proof.Machine

/-- One register field: its address and its bits hi..lo (R6, R10). -/
structure Field where
  addr : Nat
  hi : Nat
  lo : Nat
  deriving DecidableEq, Repr, Inhabited

/-- The Type codes of R11.  `cnt` is a read-write field of the counter class (R12), `sh` a read-write field that
hardware also writes (Owner SHARED). -/
inductive FType where
  | rw | ro | w1c | sc | wo | lk | cnt | sh
  deriving DecidableEq, Repr, Inhabited

/-- The Owner column of R12, the field's collision class. -/
inductive Owner where
  | sw | hw | shared
  deriving DecidableEq, Repr, Inhabited

/-- In every register table the type settles the owner: what is read only is hardware's, flags, go bits, counters and `sh`
fields are shared, the rest is software's (R12). -/
def FType.owner : FType → Owner
  | .ro => .hw
  | .w1c | .sc | .cnt | .sh => .shared
  | .rw | .wo | .lk => .sw

/-- One row of a register table (R10): bits, type (and with it the owner), reset value, 3× vote (R13). -/
structure FieldDef where
  hi : Nat
  lo : Nat
  ty : FType
  reset : Nat
  vote : Bool
  deriving DecidableEq, Repr, Inhabited

/-- One register (or an array of `num` like registers, `step` addresses apart) at an offset of its block. -/
structure RegDef where
  off : Nat
  num : Nat
  step : Nat
  fields : List FieldDef
  deriving DecidableEq, Repr, Inhabited

/-- A block's place in the register space (R387). -/
structure BlockDef where
  base : Nat
  count : Nat
  stride : Nat
  rows : List RegDef
  deriving DecidableEq, Repr, Inhabited

/-- Words by address: addresses strictly rising, and no entry equal to the reset word of its address. -/
abbrev RegStore := List (Nat × Word)

/-- The three copies of a register's word (R13, R407): they can differ in the fields marked 3×. -/
structure Copies where
  one : Word
  two : Word
  three : Word
  deriving DecidableEq, Repr, Inhabited

/-- The registers: their copies by address, addresses strictly rising, and no entry whose copies all hold the reset word. -/
abbrev VoteStore := List (Nat × Copies)

/-! ### Events (15: R473 to R495) -/

/-- The severities of R21. -/
inductive Severity where
  | info | warn | severe
  deriving DecidableEq, Repr, Inhabited

/-- An event on its way to its block's classifier in the current command (R479, R489); `outs` are the outputs that raise it. -/
structure Event where
  src : Nat
  sev : Severity
  real : Bool
  inj : Bool
  cause : Nat
  rest : Nat
  word6 : Nat
  outs : List Nat
  deriving DecidableEq, Repr, Inhabited

/-- One history entry (R474). -/
structure HistEntry where
  time : Nat
  real : Bool
  inj : Bool
  sev : Severity
  src : Nat
  word5 : Nat
  word6 : Nat
  deriving DecidableEq, Repr, Inhabited

/-- What a reaction of SAFE covers (R476): nothing, every output, the outputs of a set of domains fixed at the
classification, the tree of one synthesiser, or the outputs that raised the classifying event. -/
inductive Cover where
  | none
  | all
  | doms (ds : List Nat)
  | tree (s : Nat)
  | outs (l : List Nat)
  deriving DecidableEq, Repr, Inhabited

/-- A source's classifier (R473): counted WARN times, severe latch and whether a real event set it (R493), pending
bit, refused-clear flag, the cause that classified, the coverage then fixed, and whether the classifying event was itself
SEVERE (`direct`: a voted split, R84) and not an escalated WARN. -/
structure SrcState where
  warns : List Nat
  sev : Bool
  real : Bool
  pend : Bool
  refused : Bool
  cause : Nat
  cover : Cover
  direct : Bool
  deriving DecidableEq, Repr, Inhabited

def SrcState.reset : SrcState := ⟨[], false, false, false, false, 0, .none, false⟩

/-- The open-drain pads of R482 and R483 as driven, and the two input pads of R484 and R453 as recognised. -/
structure Pads where
  irqLow : List Bool
  faultLow : Bool
  safeLow : Bool
  resetLow : Bool
  id : Nat
  casRole : Nat
  deriving DecidableEq, Repr, Inhabited

/-! ### Input monitors (02) -/

/-- The qualification vocabulary of R21, coded 0 to 4 in that order (QSTAT.STATE). -/
inductive QState where
  | absent | wait | valid | suspect | failed
  deriving DecidableEq, Repr, Inhabited

/-- Monitor k (R46 to R90).  `lastEdge` is the instant that loss of signal counts from (R54) and `edged` says that it is
an on-time edge; `ripe` that the evaluation step has decided the end of WAIT (R80, R81); `arose` is the first of the failing
causes, in the order of R85, that arose in the epoch `aroseEp`, and `failEp` the epoch of the entry to FAILED; `wsEnd` is the
epoch in which the present Windsock interval ends (R65). -/
structure Monitor where
  st : QState
  firstCause : Nat
  los : Bool
  hitNow : Bool
  hitRun : Bool
  freq : Bool
  peer : Bool
  proj : Bool
  warn : Bool
  warnClr : Nat
  measStart : Option Nat
  measReady : Bool
  samples : List (Nat × Int)
  fofs : Int
  drift : Int
  driftOk : Bool
  peerDev : Int
  peers : Nat
  projT : Nat
  gustBase : Option (Nat × Int)
  hits : Nat
  clear : Nat
  waited : Nat
  bootDone : Bool
  ws : List Int
  wsStart : Option Int
  wsBad : Bool
  wsData : Int
  lastEdge : Option Nat
  edged : Bool
  ripe : Bool
  arose : Nat
  aroseEp : Nat
  failEp : Nat
  wsEnd : Option Nat
  deriving DecidableEq, Repr, Inhabited

def Monitor.reset : Monitor :=
  { st := .absent, firstCause := 0, los := false, hitNow := false, hitRun := false, freq := false, peer := false,
    proj := false, warn := false, warnClr := 0, measStart := none, measReady := false, samples := [], fofs := 0,
    drift := 0, driftOk := false, peerDev := 0, peers := 0, projT := 0xFFFF, gustBase := none, hits := 0, clear := 0,
    waited := 0, bootDone := false, ws := [], wsStart := none, wsBad := false, wsData := 0, lastEdge := none,
    edged := false, ripe := false, arose := 0, aroseEp := 0, failEp := 0, wsEnd := none }

/-- The time-of-day receiver (R91 to R97).  `next` is a LABEL NEXT message that waits for its edge: the reference it is paired
with, its TAI second, and what a binary frame brings besides. -/
structure Tod where
  valid : Bool
  confirmed : Nat
  lastErr : Nat
  sec : Nat
  prevSec : Option Nat
  next : Option (Nat × Nat × Option (Nat × Option Int))
  label : Option (Nat × Nat)
  acceptAt : Option Nat
  utcFrame : Option Int
  deriving DecidableEq, Repr, Inhabited

def Tod.reset : Tod := ⟨false, 0, 0, 0, none, none, none, none, none⟩

/-! ### Phase trackers and the collector (03) -/

/-- Tracker k (R101 to R112): anchor grid index and edge count since it, stamp of the last tracked edge in ps, and the
settings in force; `delayAt` is when the waiting input delay was written (ns). -/
structure Tracker where
  active : Bool
  anchored : Bool
  calOk : Bool
  calSwap : Bool
  num : Nat
  den : Nat
  prediv : Nat
  grid : Int
  stamp : Nat
  phase : Int
  reanchor : Bool
  reanchored : Bool
  newEdge : Bool
  delay : Int
  delayNext : Int
  delayAt : Nat
  deriving DecidableEq, Repr, Inhabited

def Tracker.reset : Tracker :=
  { active := false, anchored := false, calOk := false, calSwap := false, num := 0, den := 1, prediv := 0, grid := 0,
    stamp := 0, phase := 0, reanchor := true, reanchored := false, newEdge := false, delay := 0, delayNext := 0,
    delayAt := 0 }

/-- The 80-bit result record of R113. -/
structure Result where
  src : Nat
  valid : Bool
  newEdge : Bool
  los : Bool
  reanchor : Bool
  dstep : Bool
  hit : Bool
  etag : Nat
  age : Nat
  phase : Int
  deriving DecidableEq, Repr, Inhabited

/-- The epoch collector (R116 to R118) and the snapshot registers.  `stage` says how far the epoch in progress is: 0 its results
are presented, 1 the monitors have decided (1.5 µs), 2 the domains have processed it (2 µs), 3 its entries are released (4 µs). -/
structure Collector where
  entries : List Result
  peak : Nat
  lastN : Nat
  armed : Bool
  snap : Option Result
  calTrk : Nat
  stage : Nat
  deriving DecidableEq, Repr, Inhabited

def Collector.reset : Collector := ⟨[], 0, 0, false, none, 0, 3⟩

/-! ### Domains (04, 05) -/

/-- The domain vocabulary of R21, coded 0 to 4 in that order (SEL_STAT.DSTATE). -/
inductive DState where
  | freerun | acquire | locked | switching | holdover
  deriving DecidableEq, Repr, Inhabited

/-- A candidate's last good result: the epoch, the EDGE_AGE in ns and the PHASE it carried (R557). -/
structure Good where
  epoch : Nat
  age : Nat
  phase : Int
  deriving DecidableEq, Repr, Inhabited

/-- Domain d (R122 to R185).  Names ending in `F` are fixed-point numbers with a 40-bit fraction: phases in ps (R156)
and frequencies in ppt (log entry 5). -/
structure Domain where
  st : DState
  sel : Option Nat
  selRef : Nat
  manPend : Bool
  manReq : Bool
  resel : Bool
  style : Bool
  swD : Nat
  boF : Int
  boSlew : Bool
  boReset : Bool
  boResid : Int
  phaseF : Int
  trimF : Int
  ofs : Int
  integF : Int
  freqF : Int
  errF : Int
  clamped : Bool
  clampAtD : Bool
  pullinLtd : Bool
  limC : Nat
  frozen : Bool
  hitHold : Bool
  holdNext : Bool
  lockOk : Bool
  lockN : Nat
  unlockN : Nat
  lockedEp : Nat
  lastCause : Nat
  basis : Nat
  swEpochs : Nat
  tied : Nat
  usable : Nat
  disagree : Bool
  vane : Option (Nat × Nat)
  cph : List Int
  cfr : List Int
  errs : List Int
  ho : List (Nat × Int)
  secNo : Nat
  secSum : Int
  secN : Nat
  secBad : Bool
  hoFreqF : Int
  grade : Nat
  hoN : Nat
  hoSe : Nat
  sigf : Nat
  teEntry : Nat
  caseAt : Int
  dtcMax : Nat
  nCold : Nat
  nNog : Nat
  secCold : Bool
  secNog : Bool
  hoExp : Bool
  hoTime : Nat
  hoStart : Nat
  hoTe : Nat
  frozenHist : Option (List Int)
  deriving DecidableEq, Repr, Inhabited

def Domain.reset : Domain :=
  { st := .freerun, sel := none, selRef := 0x3F, manPend := false, manReq := false, resel := false, style := false,
    swD := 0, boF := 0, boSlew := false, boReset := false, boResid := 0, phaseF := 0, trimF := 0, ofs := 0,
    integF := 0, freqF := 0, errF := 0, clamped := false, clampAtD := false, pullinLtd := false, limC := 0, frozen := false, hitHold := false,
    holdNext := false, lockOk := false, lockN := 0, unlockN := 0, lockedEp := 0, lastCause := 0, basis := 0,
    swEpochs := 0, tied := 0, usable := 0, disagree := false, vane := none, cph := List.replicate 8 0,
    cfr := List.replicate 8 0, errs := [], ho := [], secNo := 0, secSum := 0, secN := 0, secBad := true, hoFreqF := 0,
    grade := 0, hoN := 0, hoSe := 0, sigf := 0, teEntry := 0, caseAt := 0, dtcMax := 0, nCold := 0, nNog := 0,
    secCold := false, secNog := false, hoExp := false, hoTime := 0, hoStart := 0, hoTe := 0, frozenHist := none }

/-- The oven vocabulary of R21, coded 0 to 2 (OVEN_STAT.STATE). -/
inductive Oven where
  | cold | warming | settled
  deriving DecidableEq, Repr, Inhabited

/-- The local oscillator assembly (R169 to R177): oven, sensors (0.01 °C, mW, mg), and the model term in use with a
40-bit fraction of a ppt. -/
structure Loa where
  oven : Oven
  tRes : Int
  tOven : Int
  tCase : Int
  power : Nat
  okSince : Option Nat
  acc : Int × Int × Int
  accOk : Bool
  accFaulted : Bool
  compOn : Bool
  termF : Int
  rampF : Int
  ph39F : Int
  expired : Nat
  learnDom : Nat
  resids : List Int
  learnSecs : Nat
  deriving DecidableEq, Repr, Inhabited

def Loa.reset : Loa :=
  { oven := .cold, tRes := 0, tOven := 0, tCase := 0, power := 0, okSince := none, acc := (0, 0, 0), accOk := false,
    accFaulted := false, compOn := true, termF := 0, rampF := 0, ph39F := 0, expired := 0, learnDom := 7,
    resids := [], learnSecs := 0 }

/-! ### Synthesisers (06) -/

/-- The synthesiser vocabulary of R214, coded 0 to 5 in that order (SYN.STAT.STATE). -/
inductive SynState where
  | off | locking | locked | glide | relock | unlocked
  deriving DecidableEq, Repr, Inhabited

/-- A band-table entry (R192, R193): code, F_CAL in kHz, SLOPE in 0.1 ppm/K, written mark. -/
structure BandEntry where
  code : Nat
  fcal : Nat
  slope : Int
  written : Bool
  deriving DecidableEq, Repr, Inhabited

/-- Synthesiser s, index 6 being SYNS (R187 to R223).  Dividers are numbers with a 48-bit fraction; during a glide
`nBase` is N_old, `nNew` the target and `glAcc` the sum of GLIDE over the PFD cycles since A (R209).  `fF` and `mF` are the
steering word and the model term in use, `acc` what the domain's timebase has completed since MTB zero in VCO units (R237),
`entry` the band table's entry in use (R193), `covNeg` says that coverage was lost at the last epoch and `covLost` that the
selection for it is due (R196), `recal` that RECAL's relock is not over; `goodRun` counts consecutive good windows, measured up
to `winAt` (R199). -/
structure Synth where
  st : SynState
  pfd : Nat
  nBase : Nat
  nNew : Nat
  glAcc : Nat
  pfdRem : Nat
  lbw : Nat
  nEff : Nat
  resid : Int
  fF : Int
  mF : Int
  acc : Nat
  table : Vector BandEntry 64
  cur : Option Nat
  curCode : Nat
  entry : BandEntry
  btEmpty : Bool
  bandNone : Bool
  update : Bool
  strobe : Bool
  glideLost : Bool
  covLost : Bool
  covNeg : Bool
  recal : Bool
  since : Nat
  relockMode : Nat
  goodRun : Nat
  winAt : Nat
  cInd : Bool
  aInd : Bool
  lockaUntil : Nat
  voteRepair : Nat
  deriving DecidableEq, Repr, Inhabited

def Synth.reset : Synth :=
  { st := .off, pfd := 0, nBase := 0x4E200000000000, nNew := 0x4E200000000000, glAcc := 0, pfdRem := 0, lbw := 2,
    nEff := 0x4E200000000000, resid := 0, fF := 0, mF := 0, acc := 0, table := Vector.replicate 64 ⟨0, 0, 0, false⟩,
    cur := none, curCode := 0, entry := ⟨0, 0, 0, false⟩, btEmpty := false, bandNone := false, update := false,
    strobe := false, glideLost := false, covLost := false, covNeg := false, recal := false, since := 0, relockMode := 0,
    goodRun := 0, winAt := 0, cInd := false, aInd := false, lockaUntil := 0, voteRepair := 0 }

/-! ### Clock outputs and pulse generators (07) -/

/-- The output vocabulary of R248, coded 0 to 7 in that order (OUT.STAT.OSTATE). -/
inductive OState where
  | off | aligning | run | gated | bypass | safe | test | parked
  deriving DecidableEq, Repr, Inhabited

/-- Output n (R230 to R267), with lengths of time in units of its synthesiser's VCO (`vcoUnits` a VCO period).  `left` is what
remains of the due cycle in progress and `lowAt` the part of it that is its low phase; `onTree` says that this cycle is on the
pad, `curEmit` that it counts as emitted; `bypLeft` and `bypLow` are the same of the bypass clock's cycle on the pad; `pulse`
is what remains of a pulse on the pad in time-keeper time (2^-80 ns) and `lead` its leading edge at the pad (2^-40 ps of MTB
time); `wait` is what remains of the eight tree-clock cycles before a start edge (R238); `fresh` says that the start edge
clears the counters, `counting` that due cycles or frames are counted, `resume` that the output returns from gating or a safe
state, `wasByp` that it was in bypass when it was gated or took its safe state, `noByp` that it does not transfer again (R217),
`hot` that it ran when its safe state began (R261); `drv` is the driver setting in force (CFG bits 10:3) and `drvNext` one
that waits for the next low phase (R232), as `fineNow` and `dlyFine` are of the fine delay in quarter ps (R243); `dlyBase` counts
the steps of DLY that were executed before the start edge. -/
structure Output where
  st : OState
  fresh : Bool
  counting : Bool
  resume : Bool
  div : Nat
  left : Nat
  lowAt : Nat
  onTree : Bool
  bypLeft : Nat
  bypLow : Nat
  pulse : Int
  lead : Int
  wait : Nat
  drv : Nat
  drvNext : Option Nat
  curEmit : Bool
  due : Nat
  emit : Int
  gated : Nat
  sub : Int
  stepped : Int
  stepPend : Int
  dlyPend : Int
  dlyWhole : Int
  dlyBase : Int
  dlyFine : Int
  fineNow : Int
  bypDiv : Nat
  cfgErr : Bool
  drvFault : Bool
  probing : Bool
  wasByp : Bool
  noByp : Bool
  hot : Bool
  gatedAt : Nat
  coveredAt : Nat
  deriving DecidableEq, Repr, Inhabited

def Output.reset : Output :=
  { st := .off, fresh := true, counting := false, resume := false, div := 0, left := 0, lowAt := 0, onTree := false,
    bypLeft := 0, bypLow := 0, pulse := 0, lead := 0, wait := 0, drv := 0x30, drvNext := none, curEmit := false, due := 0,
    emit := 0, gated := 0, sub := 0, stepped := 0, stepPend := 0, dlyPend := 0, dlyWhole := 0, dlyBase := 0, dlyFine := 0,
    fineNow := 0, bypDiv := 0, cfgErr := false, drvFault := false, probing := false, wasByp := false, noByp := false,
    hot := false, gatedAt := 0, coveredAt := 0 }

/-- PSTATE of a pulse generator, coded 0 to 2 in that order. -/
inductive PgState where
  | idle | running | armed
  deriving DecidableEq, Repr, Inhabited

/-- Pulse generator p (R253 to R259): period, offset and width in force, ORIGIN and the instants in time-keeper time
(2^-80 ns): `after` is the last frame edge reached or the last grid change, `last` the index of the last frame, `trail` the last
trailing edge. -/
structure Pg where
  st : PgState
  cfgErr : Bool
  clip : Bool
  num : Nat
  den : Nat
  ofs : Int
  origin : Int
  after : Int
  last : Option Int
  trail : Option Int
  deriving DecidableEq, Repr, Inhabited

def Pg.reset : Pg :=
  { st := .idle, cfgErr := false, clip := false, num := 1000000000, den := 1, ofs := 0, origin := 0, after := 0,
    last := none, trail := none }

/-! ### Time keepers (08) -/

/-- The time-keeper vocabulary of R274, coded 0 to 4 in that order (TK_STAT.TSTATE). -/
inductive TState where
  | stopped | free | acquire | track | holdover
  deriving DecidableEq, Repr, Inhabited

/-- Time keeper t (R270 to R286): the time in 2^-80 ns, the base increment in force in 2^-40 ns, INC_EFF in 2^-80 ns,
servo terms in ppt with a 40-bit fraction, offsets in ps.  `resid` is what rounding INC_EFF left over, in 2^-80 ns / 10^12;
`before` the tick at which rate or time changed last, with the time and the increment up to it; `jump` the tick of the last step or
LOAD; `onTime` the last on-time edge of the paired reference with its stamp in ps, while that may be used. -/
structure TimeKeeper where
  st : TState
  budget : Bool
  time : Int
  inc : Nat
  incNew : Option Nat
  incErr : Bool
  enErr : Bool
  dom : Nat
  eff : Int
  resid : Int
  before : Option (Nat × Int × Int)
  jump : Option Nat
  onTime : Option (Nat × Int)
  integF : Int
  adjF : Int
  clipped : Bool
  clipSince : Option Nat
  clipDone : Bool
  rangeDone : Bool
  acq : List Int
  meas : Option (Int × Nat)
  lastMeas : Option Nat
  lossFrom : Nat
  ofs : Int
  step : Int
  wake : Bool
  leap60 : Option Nat
  napAt : Option (Int × Nat)
  deriving DecidableEq, Repr, Inhabited

def TimeKeeper.reset : TimeKeeper :=
  { st := .stopped, budget := false, time := 0, inc := 2199023255552, incNew := none, incErr := false, enErr := false,
    dom := 0, eff := 0, resid := 0, before := none, jump := none, onTime := none, integF := 0, adjF := 0,
    clipped := false, clipSince := none, clipDone := false, rangeDone := false, acq := [], meas := none, lastMeas := none, lossFrom := 0, ofs := 0, step := 0,
    wake := false, leap60 := none, napAt := none }

/-! ### Ethernet ports and the PTP engine (09) -/

/-- The port vocabulary of PORT_STAT.PSTATE, coded 0 to 9 in that order. -/
inductive PortState where
  | none | initializing | faulty | disabled | listening | preMaster | master | passive | uncalibrated | slave
  deriving DecidableEq, Repr, Inhabited

/-- A foreign master of a port: its last dataset and the times of its last Announces. -/
structure Foreign where
  ds : Dataset
  seen : List Nat
  deriving DecidableEq, Repr, Inhabited

/-- A Sync that waits for its Follow_Up (R307): its sequence and source, ingress stamp in time-keeper ps (none once a step has put it
out of use) and MTB ps, correction in 2^-16 ns, and when it came. -/
structure PendSync where
  seq : Nat
  src : Nat × Nat
  t2 : Option Int
  mtb : Nat
  corr : Int
  came : Nat
  deriving DecidableEq, Repr, Inhabited

/-- A request of a port that waits for its answer (R307): sequence number, egress stamp in time-keeper ps, when sent. -/
structure Asked where
  seq : Nat
  sent : Option Int
  came : Nat
  deriving DecidableEq, Repr, Inhabited

/-- A two-step Pdelay_Resp that waits for its follow-up: the peer's ingress time t2 in ns, t4 in time-keeper ps, the
correction in 2^-16 ns, the source. -/
structure PendResp where
  seq : Nat
  src : Nat × Nat
  t2 : Int
  t4 : Option Int
  corr : Int
  deriving DecidableEq, Repr, Inhabited

/-- A message that a port sent: message type, sequence number, the time it carries in ns, correction in 2^-16 ns, the
two-step flag, the dataset of an Announce or a management answer, and the gmTimeBaseIndicator of a Follow_Up information TLV, whose
other fields are 0 (R303). -/
structure PtpTx where
  kind : Nat
  seq : Nat
  time : Int
  corr : Int
  twoStep : Bool
  ds : Option Dataset
  base : Option Nat
  deriving DecidableEq, Repr, Inhabited

/-- How a sent message is addressed (R295, R296, R321): destination and source MAC address, the tag's VID and PCP, the EtherType,
under IP the source and destination address, the TTL or hop limit and the UDP port, and with AUTH_EN the SPP and keyID of its
AUTHENTICATION TLV. -/
structure TxHead where
  dst : List Byte
  src : List Byte
  tag : Option Nat
  etype : Nat
  net : Option (List Byte × List Byte × Nat × Nat)
  auth : Option (Nat × Nat)
  deriving DecidableEq, Repr, Inhabited

/-- Ethernet port n with its PTP port (R289 to R326).  `mpds` holds twice each path-delay sample in 2^-40 ps, `meas` the
measurements as (MTB ps, master minus MTB in 2^-16 ps); `syncTo`, `annTo` and `pdLost` say which failing row of R318
holds. -/
structure EthPort where
  link : Bool
  speedAct : Nat
  roleAct : Bool
  tc10 : Nat
  phyFault : Bool
  txF : Int
  txClamp : Bool
  sqi : Nat
  rxLat : Nat
  txLat : Nat
  pst : PortState
  inst : Nat
  preAt : Nat
  qual : QState
  cause : Nat
  syncTo : Bool
  annTo : Bool
  pdLost : Bool
  authSeen : Bool
  goodSeen : Bool
  pdValid : Bool
  peerOk : Bool
  pdMiss : Nat
  mpds : List Int
  mpd : Int
  pdPairs : List (Int × Int)
  nrrF : Int
  meas : List (Int × Int)
  qualN : Nat
  rateF : Int
  ofm : Int
  est : Option (Int × Nat)
  estNew : Bool
  sync : Option PendSync
  lastSync : Option Int
  dreq : Option Asked
  pdreq : Option Asked
  pdresp : Option PendResp
  syncAt : Nat
  annAt : Nat
  rxSync : Int
  rxAnn : Int
  rxDreq : Int
  txSync : Option Int
  txAnn : Option Int
  txDreq : Option Int
  syncTxAt : Option Nat
  annTxAt : Option Nat
  reqTxAt : Option Nat
  seqSync : Nat
  seqAnn : Nat
  seqReq : Nat
  foreign : List Foreign
  peerId : Nat
  peerPort : Nat
  sent : List PtpTx
  heads : List TxHead
  reply : List Byte
  deriving DecidableEq, Repr, Inhabited

def EthPort.reset : EthPort :=
  { link := false, speedAct := 0, roleAct := false, tc10 := 0, phyFault := false, txF := 0, txClamp := false, sqi := 0,
    rxLat := 0, txLat := 0, pst := .none, inst := 7, preAt := 0, qual := .absent, cause := 0, syncTo := false,
    annTo := false, pdLost := false, authSeen := false, goodSeen := false, pdValid := false, peerOk := false, pdMiss := 0,
    mpds := [], mpd := 0, pdPairs := [], nrrF := 0, meas := [], qualN := 0, rateF := 0, ofm := 0, est := none,
    estNew := false, sync := none, lastSync := none, dreq := none, pdreq := none, pdresp := none, syncAt := 0, annAt := 0,
    rxSync := 0, rxAnn := 0, rxDreq := 0, txSync := none, txAnn := none, txDreq := none, syncTxAt := none,
    annTxAt := none, reqTxAt := none, seqSync := 0, seqAnn := 0, seqReq := 0, foreign := [], peerId := 0, peerPort := 0,
    sent := [], heads := [], reply := [] }

/-- PTP instance i (R301 to R322): enabled, its refusal and key flags, the parent dataset with the port it came from, the
grandmaster it follows, the clockClass it announces, and the times of the management answers of the last second. -/
structure PtpInst where
  en : Bool
  cfgErr : Bool
  keyMissing : Bool
  parent : Option (Nat × Dataset)
  gmId : Nat
  annClass : Nat
  mgmt : List Nat
  deriving DecidableEq, Repr, Inhabited

def PtpInst.reset : PtpInst := ⟨false, false, false, none, 0, 0, []⟩

/-- What the instances share: the key buffer of R322, PTP_STAT.CFG_ERR, the BMCA times and the copied dataset item. -/
structure PtpCommon where
  keyBuf : List Nat
  etypeErr : Bool
  lat : Nat
  latMax : Nat
  dsData : Nat
  deriving DecidableEq, Repr, Inhabited

def PtpCommon.reset : PtpCommon := ⟨[], false, 0, 0, 0⟩

/-! ### Event capture and rings (10) -/

/-- A 32-byte record as eight words (R331), with the ring it is steered to, its source, and whether it was formed in the
present counting period (R338). -/
structure CapRec where
  words : List Nat
  ring : Nat
  src : Nat
  counted : Bool
  deriving DecidableEq, Repr, Inhabited

/-- Capture source (R327 to R338): its windowed settings, edges since the enable, the last stamp in ps, counters. -/
structure CapSrc where
  cfg : Nat
  dec : Nat
  edges : Nat
  kept : Nat
  last : Option Nat
  seq : Nat
  skip : Nat
  captured : Nat
  delivered : Nat
  overrun : Nat
  dropDis : Nat
  dropInt : Nat
  deriving DecidableEq, Repr, Inhabited

def CapSrc.reset : CapSrc := ⟨0, 1, 0, 0, none, 0, 0, 0, 0, 0, 0, 0⟩

/-- Ring k (R339 to R344): the records held, oldest first; size and base in force in records, `span` the region reserved from the
base on; the configuration that waits for a resize to end. -/
structure Ring where
  recs : List (List Nat)
  size : Nat
  span : Nat
  base : Nat
  next : Option (Nat × Nat)
  cfgErr : Bool
  armed : Bool
  written : Nat
  taken : Nat
  flushed : Nat
  peak : Nat
  deriving DecidableEq, Repr, Inhabited

def Ring.reset : Ring := ⟨[], 0, 0, 0, none, false, false, 0, 0, 0, 0⟩

/-- A reader's read buffer of one ring (R347). -/
structure RdBuf where
  pos : Nat
  words : List Nat
  deriving DecidableEq, Repr, Inhabited

/-- Export channel c (R349 to R351): the records in its frame, when the first was taken, the frame sequence number, the
ring taken from last, and the bytes of the frame sent last. -/
structure Export where
  recs : List (List Nat)
  firstAt : Nat
  seq : Nat
  fcnt : Nat
  last : Nat
  frame : List Byte
  deriving DecidableEq, Repr, Inhabited

def Export.reset : Export := ⟨[], 0, 0, 0, 15, []⟩

/-- The capture fabric. -/
structure Capture where
  src : Vector CapSrc 50
  buf : List CapRec
  peak : Nat
  grp : Vector Nat 4
  ring : Vector Ring 16
  rd : Vector (Vector RdBuf 16) 5
  exp : Vector Export 2
  deriving DecidableEq, Repr, Inhabited

def Capture.reset : Capture :=
  { src := Vector.replicate 50 CapSrc.reset, buf := [], peak := 0, grp := Vector.replicate 4 15,
    ring := Vector.replicate 16 Ring.reset, rd := Vector.replicate 5 (Vector.replicate 16 ⟨0, []⟩),
    exp := Vector.replicate 2 Export.reset }

/-! ### Tailwind (11) -/

/-- A staged write (R416): address, mask, data, and the CRC-8 kept with it. -/
structure Entry where
  addr : Nat
  mask : Nat
  data : Nat
  crc : Nat
  deriving DecidableEq, Repr, Inhabited

/-- A broadcast on this module (R379 to R382): state (0 IDLE, 1 SENDING, 2 STAGED, 3 ARMED), apply frame, commit kind and
argument, the frame F_x, the time of a TK commit, the wait slot that holds it (4: none), the positions that answered ready
(bit p), the last result, and whether the UP link fell while it waited for GO. -/
structure Bcast where
  st : Nat
  fa : Nat
  kind : Nat
  arg : Nat
  fx : Nat
  sec : Nat
  ns : Nat
  slot : Nat
  ready : Nat
  result : Nat
  cut : Bool
  deriving DecidableEq, Repr, Inhabited

def Bcast.reset : Bcast := ⟨0, 0, 0, 0, 0, 0, 0, 4, 0, 0, false⟩

/-- The cascade (R359 to R386): role (0 NONE, 1 MASTER, 2 SLAVE, 3 DEPUTY_MASTER), link ends (0 DOWN, 1 TRAINING, 2 UP)
with their consecutive good and bad frames and last marker, what the last frames said, the calibration samples, reference
32, the command channels with the frames whose turn to act has not come, and the slaves' reports. -/
structure Cas where
  role : Nat
  deputy : Bool
  setRole : Nat
  setSrc : Bool
  setEn : Bool
  pos : Nat
  below : Nat
  gen : Nat
  up : Nat
  dn : Nat
  upGood : Nat
  upBad : Nat
  dnGood : Nat
  dnBad : Nat
  upAt : Nat
  dnAt : Nat
  upEver : Bool
  upSince : Nat
  lost : Bool
  rxLost : Bool
  rxHold : Bool
  rxCal : Bool
  posErr : Bool
  cfgErr : Bool
  conflict : Bool
  crcEp : Nat
  crcFail : Bool
  ref : QState
  cause : Nat
  waited : Nat
  clear : Nat
  samples24 : List (Nat × Int)
  fofs : Int
  dUp : Int
  dUpNext : Int
  rt : Int
  ds : List Int
  dDn : Int
  calValid : Bool
  frameNo : Nat
  rxFrame : Option (Nat × Nat)
  gone : List (Nat × Nat)
  relay : List (Nat × List Byte)
  relayUp : List (Nat × List Byte)
  fwdOut : List Byte
  retOut : List Byte
  fwdHold : List (Nat × List Byte)
  retHold : List (Nat × List Byte)
  fwdIn : List Byte
  retIn : List Byte
  fwdSent : List Byte
  retSent : List Byte
  reports : List (Nat × List Byte × Nat)
  repIn : List (Nat × List Byte × Nat)
  bc : Bcast
  deriving DecidableEq, Repr, Inhabited

def Cas.reset : Cas :=
  { role := 0, deputy := false, setRole := 0, setSrc := false, setEn := false, pos := 0, below := 0, gen := 0, up := 0,
    dn := 0, upGood := 0, upBad := 0, dnGood := 0, dnBad := 0, upAt := 0, dnAt := 0, upEver := false, upSince := 0,
    lost := false, rxLost := false, rxHold := false, rxCal := false, posErr := false, cfgErr := false,
    conflict := false, crcEp := 0, crcFail := false, ref := .absent, cause := 0, waited := 0, clear := 0, samples24 := [],
    fofs := 0, dUp := 0, dUpNext := 0, rt := 0, ds := [], dDn := 0, calValid := false, frameNo := 0, rxFrame := none,
    gone := [], relay := [], relayUp := [], fwdOut := [], retOut := [], fwdHold := [],
    retHold := [], fwdIn := [], retIn := [], fwdSent := [],
    retSent := [], reports := [], repIn := [], bc := Bcast.reset }

/-- The module is an acting master: MASTER, or a deputy that took over (R376). -/
def Cas.isMaster (c : Cas) : Bool := c.role == 1 || c.role == 3

/-- The UP end is UP (R368). -/
def Cas.upUp (c : Cas) : Bool := c.up == 2

/-! ### Register access and transactions (12) -/

/-- A transaction context (R414 to R421): its own-context window (written words, and those in force), the open
transaction with its doom flags, and the last result. -/
structure TxnCtx where
  win : RegStore
  winEff : RegStore
  isOpen : Bool
  id : Nat
  doomOvf : Bool
  doomLock : Bool
  entries : List Entry
  staged : Nat
  res : Nat
  resSlot : Nat
  resCount : Nat
  lastId : Nat
  deriving DecidableEq, Repr, Inhabited

def TxnCtx.reset : TxnCtx := ⟨[], [], false, 0, false, false, [], 0, 0, 7, 0, 0⟩

/-- A wait slot (R418): the commit point, its time for TK_TIME, the MTB time of the commit, the timeout in ms, whether the
frame edge of PG_FRAME has come, and whether it is a broadcast (R381). -/
structure WaitSlot where
  busy : Bool
  ctx : Ctx
  at' : Nat
  arg : Nat
  id : Nat
  entries : List Entry
  came : Nat
  timeout : Nat
  sec : Nat
  ns : Nat
  hit : Bool
  bc : Bool
  deriving DecidableEq, Repr, Inhabited

def WaitSlot.reset : WaitSlot := ⟨false, .spi, 0, 0, 0, [], 0, 0, 0, 0, false, false⟩

/-- A write to a block under self-test (R405): its writer, address, mask and go word, the word it gave the register and the word
before it. -/
structure LateWrite where
  ctx : Ctx
  addr : Nat
  mask : Nat
  go : Nat
  word : Nat
  old : Nat
  deriving DecidableEq, Repr, Inhabited

/-- The host interfaces and transactions: contexts by number, wait slots, completion log (newest first: ID, result,
context, count, epoch), the last frame's STATUS on SPI and I2C, what the last frame returned, the last Hildo request with
its held response, the last scrub pass, whether REG_LOCK has taken its write (R412), and the writes to blocks under self-test that
have not reached their datapath (R405), oldest first. -/
structure Access where
  ctx : Vector TxnCtx 5
  slots : Vector WaitSlot 4
  log : List (Nat × Nat × Nat × Nat × Nat)
  spi : Option Nat
  i2c : Option Nat
  miso : List Byte
  i2cOut : List Byte
  hSeq : Option Nat
  hCrc : Nat
  hPort : Nat
  hResp : List Byte
  passUs : Nat
  lkWritten : Bool
  late : List LateWrite
  deriving DecidableEq, Repr, Inhabited

def Access.reset : Access :=
  ⟨Vector.replicate 5 TxnCtx.reset, Vector.replicate 4 WaitSlot.reset, [], none, none, [], [], none, 0, 0, [], 0, false, []⟩

/-! ### Configuration image and NVS (13) -/

/-- The states of CFG_STAT.LSTATE, coded 0 to 6 in that order. -/
inductive LState where
  | idle | header | check | apply | nvsApply | done | error
  deriving DecidableEq, Repr, Inhabited

/-- The image load (R427 to R434): the flash as read in each pass, the offset of the next record, the end of a WAIT, the
header as read, the results. -/
structure Cfg where
  flash : Flash
  lst : LState
  loaded : Bool
  released : Bool
  patch : Bool
  bootQual : Bool
  err : Nat
  errOfs : Nat
  next : Option Nat
  waitTo : Nat
  began : Nat
  hdr : List Byte
  len : Nat
  crc : Nat
  patchVer : Nat
  recs : Nat
  applied : Nat
  skipped : Nat
  loadTime : Nat
  pmap : List (Nat × Nat)
  imageId : Nat
  deriving DecidableEq, Repr, Inhabited

def Cfg.reset : Cfg :=
  { flash := ⟨[], [], false⟩, lst := .idle, loaded := false, released := false, patch := false, bootQual := false,
    err := 0, errOfs := 0, next := none, waitTo := 0, began := 0, hdr := [], len := 0, crc := 0, patchVer := 0, recs := 0,
    applied := 0, skipped := 0, loadTime := 0, pmap := [], imageId := 0 }

/-- One physical slot of a page (R436): the generation and the CRC-16 of its commit word, whether that word reads back
without an ECC or page-number error, and the data. -/
structure Slot where
  gen : Nat
  crc : Nat
  word : Bool
  data : List Byte
  deriving DecidableEq, Repr, Inhabited

/-- An entry of the on-module fault log (R435): the event and the low 16 bits of BOOT. -/
structure FaultEntry where
  e : HistEntry
  boot : Nat
  deriving DecidableEq, Repr, Inhabited

/-- What the NVS island is doing: a STORE with the pages left to write (each with its new content), or a page write of
the user. -/
inductive NvsOp where
  | idle
  | store (left : List (Nat × List Byte)) (written : Nat) (prot failed : Bool) (began : Nat)
  | page (p : Nat) (data : List Byte)
  deriving DecidableEq, Repr, Inhabited

/-- The secure shadow (R522): the key slots, the two halves of the unseal key, and the LIFE_CYCLE and TAMPER counts it
records. -/
structure Shadow where
  keys : Vector (Option Nat) 16
  half : Option Nat × Option Nat
  life : Nat
  tamper : Nat
  deriving DecidableEq, Repr, Inhabited

/-- The non-volatile store (R435 to R452): pages of two slots, spread counters with the increments not yet acknowledged,
the configuration word, the running and the pending operation, a STORE that waits for a page write to end, flags found at the start, the page buffer, the fault log,
the secure shadow, the seal flag, and whether a scrub pass was asked for. -/
structure Nvs where
  slots : Vector (Option Slot) 512
  ctr : Vector Nat 16
  incs : List Nat
  userInc : Option Nat
  bp : Nat
  bpWritten : Bool
  sealFlag : Bool
  op : NvsOp
  pend : Option (Option (List Byte) × Nat)
  torn : Bool
  tornPage : Nat
  tornN : Nat
  staleN : Nat
  stale : Bool
  bad : Bool
  incomplete : Bool
  hoursLeft : Nat
  buf : List Byte
  pageRes : Nat
  storeNext : Option (List (Nat × List Byte) × Bool × Nat)
  storeRes : Nat
  storePages : Nat
  storeTime : Nat
  faultLog : List FaultEntry
  unstored : Nat
  flog : List Byte
  shadow : Option Shadow
  scrubReq : Bool
  deriving DecidableEq, Repr, Inhabited

def Nvs.reset : Nvs :=
  { slots := Vector.replicate 512 none, ctr := Vector.replicate 16 0, incs := [], userInc := none, bp := 0,
    bpWritten := false, sealFlag := false, op := .idle, pend := none, torn := false, tornPage := 0,
    tornN := 0, staleN := 0, stale := false, bad := false, incomplete := false, hoursLeft := 168,
    buf := List.replicate 256 0, pageRes := 0, storeNext := none, storeRes := 0, storePages := 0, storeTime := 0,
    faultLog := [], unstored := 0, flog := List.replicate 14 0, shadow := none,
    scrubReq := false }

/-- A severe event joins the on-module fault log at once (R435). -/
def Nvs.log (x : Nvs) (e : HistEntry) : Nvs :=
  { x with faultLog := (⟨e, (x.ctr.toList.headD 0) % 65536⟩ :: x.faultLog).take 256, unstored := min 255 (x.unstored + 1) }

/-! ### Power states, supply and temperature (14, 17) -/

/-- Where the module is: off, in start-up (R454, before step 6), or in a state of the ladder (R462). -/
inductive PState where
  | off | boot | run | park | keep | nap | dormant
  deriving DecidableEq, Repr, Inhabited

/-- A Breeze driver (R456 to R459): the latched entry, whether it runs, and whether it stops at the end of its cycle or pulse. -/
structure Breeze where
  active : Bool
  stopping : Bool
  err : Bool
  ctrl : Nat
  freq : Nat
  width : Nat
  deriving DecidableEq, Repr, Inhabited

/-- The power ladder, the supply and the start (R453 to R472, R534 to R539, R555): the state, a deferred GO, the grade FULL,
the wake, the fraction of an RTC tick in 2^-6 ns, the Breeze drivers with the model-corrected MTB time within its second
(2^-40 ps), the cause of the last start, the live conditions, when hold-up was engaged, whether input UV is armed, the rails
outside their limits, and the input as measured with its one-second means. -/
structure Power where
  st : PState
  deferred : Bool
  full : Bool
  wakeCause : Nat
  wakePort : Nat
  lowSince : Nat
  lowTime : Nat
  rtcFrac : Nat
  brz : Vector Breeze 4
  brzNvs : Bool
  brzT : Nat
  cause : Nat
  wdog : Bool
  clkSeen : Bool
  clkFault : Bool
  pg : Bool
  uvWarn : Bool
  uv : Bool
  ov : Bool
  holdup : Bool
  holdAt : Nat
  armed : Bool
  railBad : Nat
  vin : Nat
  iin : Nat
  pin : Nat
  pinPeak : Nat
  vinMin : Nat
  pinLog : List Nat
  pinSum : Nat
  pinN : Nat
  deriving DecidableEq, Repr, Inhabited

def Power.reset : Power :=
  { st := .boot, deferred := false, full := false, wakeCause := 0, wakePort := 0, lowSince := 0, lowTime := 0,
    rtcFrac := 0, brz := Vector.replicate 4 ⟨false, false, false, 0, 0, 0⟩, brzNvs := false, brzT := 0, cause := 2,
    wdog := false, clkSeen := false, clkFault := false, pg := false, uvWarn := false, uv := false, ov := false,
    holdup := false, holdAt := 0, armed := false, railBad := 0, vin := 0, iin := 0, pin := 0, pinPeak := 0, vinMin := 65535,
    pinLog := List.replicate 16 0, pinSum := 0, pinN := 0 }

/-- Temperatures (R543): the seven dies (SYN0 to SYN5, SYNS) in 0.01 °C, the sensors (7 the case) whose warning or limit
condition is live, the trip, and the peak. -/
structure Thm where
  dies : List Int
  warn : Nat
  limit : Nat
  trip : Bool
  peak : Int
  deriving DecidableEq, Repr, Inhabited

def Thm.reset : Thm := ⟨List.replicate 7 0, 0, 0, false, 0⟩

/-- Readings arrive. -/
def Thm.read (x : Thm) (case : Int) (dies : List Int) : Thm := { x with dies := dies, peak := max x.peak case }

/-! ### Self-test, life cycle and memory (16) -/

/-- The verdicts of R502, coded 0 to 4 in that order. -/
inductive Verdict3 where
  | none | pass | fail | aborted | incomplete
  deriving DecidableEq, Repr, Inhabited

/-- A unit's last result and marks (R502 to R506). -/
structure Unit3 where
  verdict : Verdict3
  origin : Nat
  repaired : Bool
  duration : Nat
  applied : Nat
  expected : Nat
  sig : Bool
  completed : Bool
  unusable : Bool
  svcFail : Bool
  deriving DecidableEq, Repr, Inhabited

def Unit3.reset : Unit3 := ⟨.none, 0, false, 0, 0, 0, false, false, false, false⟩

/-- The BIST engine (R497 to R512): the units, those under test with their origin and start, the waiting request, the rest
of the background pass, and the start-up test. -/
structure Bist where
  units : Vector Unit3 48
  active : List (Nat × Nat × Nat)
  queued : Option Nat
  bgLeft : List Nat
  hoursLeft : Nat
  full : Bool
  startAt : Nat
  done : Bool
  startUs : Nat
  locked : Bool
  deriving DecidableEq, Repr, Inhabited

def Bist.reset : Bist :=
  { units := Vector.replicate 48 Unit3.reset, active := [], queued := none, bgLeft := [], hoursLeft := 168,
    full := true, startAt := 0, done := false, startUs := 0, locked := false }

/-- Unit 43, the digital island, is under test: the capture fabric is out of service (R495, R501). -/
def Bist.islandBusy (b : Bist) : Bool := b.active.any fun x => x.1 == 43

/-- The life-cycle states, coded 0 to 5 in that order (R21). -/
inductive LcState where
  | fab | provision | field | sealed | ret | ended
  deriving DecidableEq, Repr, Inhabited

/-- The life cycle (R513 to R518): the fuses blown, the transition in progress (its target), the end of the sealing
window, the nonce, and the fuse error. -/
structure Lc where
  provFuse : Bool
  fieldFuse : Bool
  retFuse : Bool
  endFuse : Bool
  busy : Option LcState
  sealing : Option Nat
  nonce : Nat
  nonceOk : Bool
  nonceAt : Option Nat
  fuseErr : Bool
  deriving DecidableEq, Repr, Inhabited

/-- As shipped (R4): in PROVISION. -/
def Lc.reset : Lc :=
  { provFuse := true, fieldFuse := false, retFuse := false, endFuse := false, busy := none, sealing := none, nonce := 0,
    nonceOk := false, nonceAt := none, fuseErr := false }

/-- On-module memory (R519 to R522): records the rings hold in all, the key slots and unseal-key halves of the secure bank,
the spares used by the factory and by soft repairs, the last wipe, and what the scrubber and the arbiter report. -/
structure Mem where
  ringCap : Nat
  keys : Vector (Option Nat) 16
  half : Option Nat × Option Nat
  factory : Vector Nat 13
  soft : Vector Nat 13
  wipe : Nat
  uncorr : Nat
  share : Vector Nat 8
  stallMax : Nat
  scrubMs : Nat
  deriving DecidableEq, Repr, Inhabited

def Mem.reset : Mem :=
  { ringCap := 32768, keys := Vector.replicate 16 none, half := (none, none), factory := Vector.replicate 13 0,
    soft := Vector.replicate 13 0, wipe := 0, uncorr := 0, share := Vector.replicate 8 0, stallMax := 0, scrubMs := 0 }

/-- The sequencer: whether it is restarting after a watchdog expiry (R480). -/
structure Seq where
  restarting : Bool
  deriving DecidableEq, Repr, Inhabited

/-! ### The whole module -/

/-- Every block of the OTZ8648.  `regs` holds the stored register words, `eff` the multi-register settings in force (R391),
`shadows` each reader's latch shadow (R39); `free` counts the free values taken (log entry 4: the model's own field). -/
structure Blocks where
  regs : VoteStore
  eff : RegStore
  mtb : BitVec 64
  shadows : Vector RegStore 5
  evq : List Event
  flt : Vector SrcState 128
  hist : Vector (List HistEntry) 64
  pads : Pads
  mon : Vector Monitor 24
  tod : Tod
  trk : Vector Tracker 25
  coll : Collector
  loa : Loa
  dom : Vector Domain 6
  good : Vector (Option Good) 33
  syn : Vector Synth 7
  outs : Vector Output 40
  pg : Vector Pg 8
  tk : Vector TimeKeeper 4
  eth : Vector EthPort 8
  ptp : Vector PtpInst 4
  ptpc : PtpCommon
  cap : Capture
  cas : Cas
  acc : Access
  cfg : Cfg
  nvs : Nvs
  pwr : Power
  thm : Thm
  bist : Bist
  lc : Lc
  mem : Mem
  seq : Seq
  clockStop : Bool
  free : Nat
  deriving DecidableEq, Repr

/-- A software write of the register-file cycle in progress: the register, the mask, the go bits (mask AND data), the writer's
place in the order of R406, and what the register showed after it. -/
structure CycleWrite where
  addr : Nat
  mask : Nat
  go : Nat
  rank : Nat
  shown : Nat
  deriving DecidableEq, Repr, Inhabited

/-- What the register-file cycle in progress has done so far (R19, R406, R408, R410, R490): the flags that hardware set (address,
bit), the counts that it added (address, lowest bit, amount), the software writes, the scrubber's repairs (address,
lowest bit, the counter that counted it), the go bits set while their operation ran (address, bit), the events that reached
their classifiers, one a source, with the number of them that joined the fault log, and the sources, or all of them, whose
WARN count (false) or severe latch (true) was cleared. -/
structure Cycle where
  sets : List (Nat × Nat)
  incs : List (Nat × Nat × Nat)
  wrote : List CycleWrite
  fixed : List (Nat × Nat × Nat)
  again : List (Nat × Nat)
  evs : List Event
  logged : Nat
  clears : List (Option Nat × Bool)
  deriving DecidableEq, Repr, Inhabited

def Cycle.none : Cycle := ⟨[], [], [], [], [], [], 0, []⟩

/-- The state of the OTZ8648: its blocks, the queue of commands that wait (`pending`), the blocks as the register-file cycle
in progress found them (`found`), and what that cycle has done (`cyc`). -/
structure State extends Blocks where
  pending : List Instr
  found : Blocks
  cyc : Cycle
  deriving DecidableEq, Repr

/-- Right after RESET_N is released (R14, R453): every register at its reset word, start-up begun, no image read yet. -/
def Blocks.reset : Blocks :=
  { regs := [], eff := [], mtb := 0, shadows := Vector.replicate 5 [], evq := [],
    flt := Vector.replicate 128 SrcState.reset, hist := Vector.replicate 64 [],
    pads := ⟨List.replicate 4 false, false, false, false, 0, 0⟩, mon := Vector.replicate 24 Monitor.reset,
    tod := Tod.reset, trk := Vector.replicate 25 Tracker.reset, coll := Collector.reset, loa := Loa.reset,
    dom := Vector.replicate 6 Domain.reset, good := Vector.replicate 33 none, syn := Vector.replicate 7 Synth.reset,
    outs := Vector.replicate 40 Output.reset, pg := Vector.replicate 8 Pg.reset, tk := Vector.replicate 4 TimeKeeper.reset,
    eth := Vector.replicate 8 EthPort.reset, ptp := Vector.replicate 4 PtpInst.reset, ptpc := PtpCommon.reset,
    cap := Capture.reset, cas := Cas.reset, acc := Access.reset, cfg := Cfg.reset, nvs := Nvs.reset, pwr := Power.reset,
    thm := Thm.reset, bist := Bist.reset, lc := Lc.reset, mem := Mem.reset, seq := ⟨false⟩, clockStop := false,
    free := 0 }

/-- The machine right after reset: no command waits, and its first register-file cycle begins. -/
def State.reset : State := { Blocks.reset with pending := [], found := Blocks.reset, cyc := Cycle.none }

/-- Reasons for a fault.  The spec gives every command of this block an effect, so no meaning raises one: an access the
spec calls an error is reported by the module itself (STATUS, flags, counters). -/
inductive Fault where
  deriving DecidableEq, Repr

/-- Reasons for a refusal. -/
inductive Refusal where
  /-- Raised by the arm of a command that has no meaning yet; safe. -/
  | notModelled (mnemonic : String)
  deriving DecidableEq, Repr, Inhabited

end Sys2Proof.Machine
end

