-- ==== Sys2Proof/Machine/RegMap.lean ====
section
/-! DEFINITION. The register map: every register of the spec's register tables, with its fields, their types,
reset values and votes (R10 to R17, R387; the offsets are those of each chapter's layout table).  An address
constant carries the register's name; a field constant is named REGISTER_FIELD.  6,448 registers in all (R387). -/
namespace Sys2Proof.Machine

/-! ### SYS: base 0x0000, 1 instance(s), stride 0x100 -/
def SYS.DEV_ID : Nat := 0x0000
def SYS.DEV_LVL : Nat := 0x0001
def SYS.DEV_LVL_MAJOR : Field := ⟨SYS.DEV_LVL, 15, 8⟩
def SYS.DEV_LVL_MINOR : Field := ⟨SYS.DEV_LVL, 7, 0⟩
def SYS.ROM_VER : Nat := 0x0002
def SYS.MTB_CNT : Nat := 0x0010
def SYS.EPOCH : Nat := 0x0014
def SYS.FLT_SEL : Nat := 0x0020
def SYS.FLT_SEL_SRC : Field := ⟨SYS.FLT_SEL, 6, 0⟩
def SYS.FLT_SRC : Nat := 0x0021
def SYS.FLT_SRC_SEVERE : Field := ⟨SYS.FLT_SRC, 15, 15⟩
def SYS.FLT_SRC_PEND : Field := ⟨SYS.FLT_SRC, 14, 14⟩
def SYS.FLT_SRC_CLEAR_REFUSED : Field := ⟨SYS.FLT_SRC, 13, 13⟩
def SYS.FLT_SRC_HOLD : Field := ⟨SYS.FLT_SRC, 12, 12⟩
def SYS.FLT_SRC_INJ_ONLY : Field := ⟨SYS.FLT_SRC, 11, 11⟩
def SYS.FLT_SRC_COUNT : Field := ⟨SYS.FLT_SRC, 7, 0⟩
def SYS.FLT_STAT : Nat := 0x0022
def SYS.FLT_STAT_FAULT_LOW : Field := ⟨SYS.FLT_STAT, 15, 15⟩
def SYS.FLT_STAT_SAFE_N_LOW : Field := ⟨SYS.FLT_STAT, 14, 14⟩
def SYS.FLT_STAT_IRQ_LOW : Field := ⟨SYS.FLT_STAT, 11, 8⟩
def SYS.FLT_STAT_SEV_N : Field := ⟨SYS.FLT_STAT, 7, 0⟩
def SYS.FLT_CTRL : Nat := 0x0023
def SYS.FLT_CTRL_CNT_CLR : Field := ⟨SYS.FLT_CTRL, 15, 15⟩
def SYS.FLT_CTRL_PEND_CLR : Field := ⟨SYS.FLT_CTRL, 14, 14⟩
def SYS.SEV_SUM (i : Nat) : Nat := 0x0024 + i
def SYS.PEND_SUM (i : Nat) : Nat := 0x002C + i
def SYS.EVT_CLASS0 : Nat := 0x0034
def SYS.EVT_CLASS0_THRESH_N : Field := ⟨SYS.EVT_CLASS0, 15, 8⟩
def SYS.EVT_CLASS0_ROUTE : Field := ⟨SYS.EVT_CLASS0, 7, 5⟩
def SYS.EVT_CLASS0_REACT : Field := ⟨SYS.EVT_CLASS0, 4, 4⟩
def SYS.EVT_CLASS0_INJ_REACT : Field := ⟨SYS.EVT_CLASS0, 3, 3⟩
def SYS.EVT_CLASS0_FORCE : Field := ⟨SYS.EVT_CLASS0, 2, 2⟩
def SYS.EVT_WINDOW0 : Nat := 0x0035
def SYS.EVT_CLASS1 : Nat := 0x0036
def SYS.EVT_CLASS1_THRESH_N : Field := ⟨SYS.EVT_CLASS1, 15, 8⟩
def SYS.EVT_CLASS1_ROUTE : Field := ⟨SYS.EVT_CLASS1, 7, 5⟩
def SYS.EVT_CLASS1_REACT : Field := ⟨SYS.EVT_CLASS1, 4, 4⟩
def SYS.EVT_CLASS1_INJ_REACT : Field := ⟨SYS.EVT_CLASS1, 3, 3⟩
def SYS.EVT_CLASS1_FORCE : Field := ⟨SYS.EVT_CLASS1, 2, 2⟩
def SYS.EVT_WINDOW1 : Nat := 0x0037
def SYS.EVT_CLASS2 : Nat := 0x0038
def SYS.EVT_CLASS2_THRESH_N : Field := ⟨SYS.EVT_CLASS2, 15, 8⟩
def SYS.EVT_CLASS2_ROUTE : Field := ⟨SYS.EVT_CLASS2, 7, 5⟩
def SYS.EVT_CLASS2_REACT : Field := ⟨SYS.EVT_CLASS2, 4, 4⟩
def SYS.EVT_CLASS2_INJ_REACT : Field := ⟨SYS.EVT_CLASS2, 3, 3⟩
def SYS.EVT_CLASS2_FORCE : Field := ⟨SYS.EVT_CLASS2, 2, 2⟩
def SYS.EVT_WINDOW2 : Nat := 0x0039
def SYS.EVT_CLASS3 : Nat := 0x003A
def SYS.EVT_CLASS3_THRESH_N : Field := ⟨SYS.EVT_CLASS3, 15, 8⟩
def SYS.EVT_CLASS3_ROUTE : Field := ⟨SYS.EVT_CLASS3, 7, 5⟩
def SYS.EVT_CLASS3_REACT : Field := ⟨SYS.EVT_CLASS3, 4, 4⟩
def SYS.EVT_CLASS3_INJ_REACT : Field := ⟨SYS.EVT_CLASS3, 3, 3⟩
def SYS.EVT_CLASS3_FORCE : Field := ⟨SYS.EVT_CLASS3, 2, 2⟩
def SYS.EVT_WINDOW3 : Nat := 0x003B
def SYS.RESET_CAUSE : Nat := 0x003C
def SYS.RESET_CAUSE_CAUSE : Field := ⟨SYS.RESET_CAUSE, 15, 13⟩
def SYS.RESET_CAUSE_WDOG_SEEN : Field := ⟨SYS.RESET_CAUSE, 12, 12⟩
def SYS.RESET_CAUSE_CLK_SEEN : Field := ⟨SYS.RESET_CAUSE, 11, 11⟩
def SYS.SYS_EVT : Nat := 0x003D
def SYS.SYS_EVT_WDOG : Field := ⟨SYS.SYS_EVT, 15, 15⟩
def SYS.SYS_EVT_CLK_FAULT : Field := ⟨SYS.SYS_EVT, 14, 14⟩
def SYS.SYS_EVT_LC_CHANGE : Field := ⟨SYS.SYS_EVT, 13, 13⟩
def SYS.SYS_EVT_CLEAR_REFUSED : Field := ⟨SYS.SYS_EVT, 12, 12⟩
def SYS.SYS_EVT_WRITE_LOST : Field := ⟨SYS.SYS_EVT, 11, 11⟩
def SYS.HIST_SEL : Nat := 0x003E
def SYS.HIST_SEL_ENTRY : Field := ⟨SYS.HIST_SEL, 5, 4⟩
def SYS.HIST_SEL_WORD : Field := ⟨SYS.HIST_SEL, 2, 0⟩
def SYS.HIST_DATA : Nat := 0x003F
def SYS.TOD_CFG : Nat := 0x0040
def SYS.TOD_CFG_EN : Field := ⟨SYS.TOD_CFG, 15, 15⟩
def SYS.TOD_CFG_FMT : Field := ⟨SYS.TOD_CFG, 14, 13⟩
def SYS.TOD_CFG_BAUD : Field := ⟨SYS.TOD_CFG, 12, 10⟩
def SYS.TOD_CFG_LABEL : Field := ⟨SYS.TOD_CFG, 9, 9⟩
def SYS.TOD_CFG_CONFIRM : Field := ⟨SYS.TOD_CFG, 8, 5⟩
def SYS.TOD_CFG_PAIR_REF : Field := ⟨SYS.TOD_CFG, 3, 0⟩
def SYS.TOD_CFG2 : Nat := 0x0041
def SYS.TOD_CFG2_UTC_SRC : Field := ⟨SYS.TOD_CFG2, 8, 8⟩
def SYS.TOD_CFG2_LOSS_S : Field := ⟨SYS.TOD_CFG2, 7, 0⟩
def SYS.TOD_UTC_OFS : Nat := 0x0042
def SYS.TOD_STAT : Nat := 0x0043
def SYS.TOD_STAT_VALID : Field := ⟨SYS.TOD_STAT, 15, 15⟩
def SYS.TOD_STAT_CONFIRMED : Field := ⟨SYS.TOD_STAT, 11, 8⟩
def SYS.TOD_STAT_LAST_ERR : Field := ⟨SYS.TOD_STAT, 3, 0⟩
def SYS.TOD_SEC : Nat := 0x0044
def SYS.TOD_ERR_CNT : Nat := 0x0047
def SYS.LOCKA_SEL : Nat := 0x0050
def SYS.LOCKA_SEL_SEL : Field := ⟨SYS.LOCKA_SEL, 2, 0⟩
def SYS.EO_CTRL (i : Nat) : Nat := 0x0060 + 4 * i
def SYS.EO_CTRL_EN (i : Nat) : Field := ⟨SYS.EO_CTRL i, 15, 15⟩
def SYS.EO_CTRL_KIND (i : Nat) : Field := ⟨SYS.EO_CTRL i, 14, 14⟩
def SYS.EO_CTRL_FORMAT (i : Nat) : Field := ⟨SYS.EO_CTRL i, 13, 11⟩
def SYS.EO_CTRL_VDDO_SEL (i : Nat) : Field := ⟨SYS.EO_CTRL i, 10, 9⟩
def SYS.EO_CTRL_WUNIT (i : Nat) : Field := ⟨SYS.EO_CTRL i, 8, 8⟩
def SYS.EO_CTRL_PORT (i : Nat) : Field := ⟨SYS.EO_CTRL i, 7, 0⟩
def SYS.EO_FREQ0 (i : Nat) : Nat := 0x0061 + 4 * i
def SYS.EO_FREQ1 (i : Nat) : Nat := 0x0062 + 4 * i
def SYS.EO_WIDTH (i : Nat) : Nat := 0x0063 + 4 * i
def SYS.BRZ_CTRL : Nat := 0x0070
def SYS.BRZ_CTRL_STOP : Field := ⟨SYS.BRZ_CTRL, 15, 15⟩
def SYS.BRZ_STAT : Nat := 0x0071
def SYS.BRZ_STAT_SRC : Field := ⟨SYS.BRZ_STAT, 15, 15⟩
def SYS.BRZ_STAT_ENTRY_ERR : Field := ⟨SYS.BRZ_STAT, 11, 8⟩
def SYS.BRZ_STAT_ACTIVE : Field := ⟨SYS.BRZ_STAT, 3, 0⟩
def SYS.LC_CTRL : Nat := 0x0080
def SYS.LC_CTRL_GO : Field := ⟨SYS.LC_CTRL, 15, 15⟩
def SYS.LC_CTRL_CLOSE : Field := ⟨SYS.LC_CTRL, 14, 14⟩
def SYS.LC_CTRL_UNSEAL_REQ : Field := ⟨SYS.LC_CTRL, 13, 13⟩
def SYS.LC_CTRL_UNSEAL_GO : Field := ⟨SYS.LC_CTRL, 12, 12⟩
def SYS.LC_CTRL_KEY_COMMIT : Field := ⟨SYS.LC_CTRL, 11, 11⟩
def SYS.LC_CTRL_TARGET : Field := ⟨SYS.LC_CTRL, 10, 8⟩
def SYS.LC_CTRL_KEY_HALF : Field := ⟨SYS.LC_CTRL, 7, 7⟩
def SYS.LC_STAT : Nat := 0x0081
def SYS.LC_STAT_STATE : Field := ⟨SYS.LC_STAT, 15, 13⟩
def SYS.LC_STAT_SEALING : Field := ⟨SYS.LC_STAT, 12, 12⟩
def SYS.LC_STAT_LOCK : Field := ⟨SYS.LC_STAT, 11, 11⟩
def SYS.LC_STAT_KEY_OK : Field := ⟨SYS.LC_STAT, 10, 10⟩
def SYS.LC_STAT_NONCE_VALID : Field := ⟨SYS.LC_STAT, 9, 9⟩
def SYS.LC_STAT_FUSE_ERR : Field := ⟨SYS.LC_STAT, 8, 8⟩
def SYS.LC_STAT_WINDOW_S : Field := ⟨SYS.LC_STAT, 7, 0⟩
def SYS.LC_EVT : Nat := 0x0082
def SYS.LC_EVT_CHANGE : Field := ⟨SYS.LC_EVT, 15, 15⟩
def SYS.LC_EVT_TAMPER : Field := ⟨SYS.LC_EVT, 14, 14⟩
def SYS.LC_EVT_UNSEAL_OK : Field := ⟨SYS.LC_EVT, 13, 13⟩
def SYS.LC_EVT_UNSEAL_FAIL : Field := ⟨SYS.LC_EVT, 12, 12⟩
def SYS.LC_EVT_BAD_REQ : Field := ⟨SYS.LC_EVT, 11, 11⟩
def SYS.LC_EVT_SEAL_ABANDON : Field := ⟨SYS.LC_EVT, 10, 10⟩
def SYS.LC_EVT_CLEAR_REFUSED : Field := ⟨SYS.LC_EVT, 9, 9⟩
def SYS.LC_EVT_WRITE_LOST : Field := ⟨SYS.LC_EVT, 8, 8⟩
def SYS.LC_CONFIRM : Nat := 0x0083
def SYS.LC_NONCE (i : Nat) : Nat := 0x0084 + i
def SYS.LC_RESP (i : Nat) : Nat := 0x008C + i
def SYS.LC_KEY (i : Nat) : Nat := 0x0094 + i
def SYS.rows0 : List RegDef := [
  ⟨0x00, 1, 1, [⟨15, 0, .ro, 34376, false⟩]⟩,
  ⟨0x01, 1, 1, [⟨15, 8, .ro, 0, false⟩, ⟨7, 0, .ro, 0, false⟩]⟩,
  ⟨0x02, 1, 1, [⟨15, 0, .ro, 0, false⟩]⟩,
  ⟨0x10, 1, 1, [⟨15, 0, .ro, 0, false⟩]⟩,
  ⟨0x11, 1, 1, [⟨15, 0, .ro, 0, false⟩]⟩,
  ⟨0x12, 1, 1, [⟨15, 0, .ro, 0, false⟩]⟩,
  ⟨0x13, 1, 1, [⟨15, 0, .ro, 0, false⟩]⟩,
  ⟨0x14, 1, 1, [⟨15, 0, .ro, 0, false⟩]⟩,
  ⟨0x15, 1, 1, [⟨15, 0, .ro, 0, false⟩]⟩,
  ⟨0x20, 1, 1, [⟨6, 0, .rw, 0, false⟩]⟩,
  ⟨0x21, 1, 1, [⟨15, 15, .w1c, 0, false⟩, ⟨14, 14, .w1c, 0, false⟩, ⟨13, 13, .w1c, 0, false⟩, ⟨12, 12, .ro, 0, false⟩, ⟨11, 11, .ro, 0, false⟩, ⟨7, 0, .ro, 0, false⟩]⟩,
  ⟨0x22, 1, 1, [⟨15, 15, .ro, 0, false⟩, ⟨14, 14, .ro, 0, false⟩, ⟨11, 8, .ro, 0, false⟩, ⟨7, 0, .ro, 0, false⟩]⟩,
  ⟨0x23, 1, 1, [⟨15, 15, .sc, 0, false⟩, ⟨14, 14, .sc, 0, false⟩]⟩,
  ⟨0x24, 8, 1, [⟨15, 0, .ro, 0, false⟩]⟩,
  ⟨0x2C, 8, 1, [⟨15, 0, .ro, 0, false⟩]⟩,
  ⟨0x34, 1, 1, [⟨15, 8, .rw, 0, false⟩, ⟨7, 5, .rw, 0, false⟩, ⟨4, 4, .rw, 0, false⟩, ⟨3, 3, .rw, 0, false⟩, ⟨2, 2, .sc, 0, false⟩]⟩,
  ⟨0x35, 1, 1, [⟨15, 0, .rw, 0, false⟩]⟩,
  ⟨0x36, 1, 1, [⟨15, 8, .rw, 0, false⟩, ⟨7, 5, .rw, 0, false⟩, ⟨4, 4, .rw, 0, false⟩, ⟨3, 3, .rw, 0, false⟩, ⟨2, 2, .sc, 0, false⟩]⟩,
  ⟨0x37, 1, 1, [⟨15, 0, .rw, 0, false⟩]⟩,
  ⟨0x38, 1, 1, [⟨15, 8, .rw, 1, false⟩, ⟨7, 5, .rw, 0, false⟩, ⟨4, 4, .rw, 0, false⟩, ⟨3, 3, .rw, 0, false⟩, ⟨2, 2, .sc, 0, false⟩]⟩,
  ⟨0x39, 1, 1, [⟨15, 0, .rw, 0, false⟩]⟩,
  ⟨0x3A, 1, 1, [⟨15, 8, .rw, 1, false⟩, ⟨7, 5, .rw, 0, false⟩, ⟨4, 4, .rw, 0, false⟩, ⟨3, 3, .rw, 0, false⟩, ⟨2, 2, .sc, 0, false⟩]⟩,
  ⟨0x3B, 1, 1, [⟨15, 0, .rw, 0, false⟩]⟩,
  ⟨0x3C, 1, 1, [⟨15, 13, .ro, 0, false⟩, ⟨12, 12, .ro, 0, false⟩, ⟨11, 11, .ro, 0, false⟩]⟩,
  ⟨0x3D, 1, 1, [⟨15, 15, .w1c, 0, false⟩, ⟨14, 14, .w1c, 0, false⟩, ⟨13, 13, .w1c, 0, false⟩, ⟨12, 12, .w1c, 0, false⟩, ⟨11, 11, .w1c, 0, false⟩]⟩,
  ⟨0x3E, 1, 1, [⟨5, 4, .rw, 0, false⟩, ⟨2, 0, .rw, 0, false⟩]⟩,
  ⟨0x3F, 1, 1, [⟨15, 0, .ro, 0, false⟩]⟩,
  ⟨0x40, 1, 1, [⟨15, 15, .rw, 0, false⟩, ⟨14, 13, .rw, 3, false⟩, ⟨12, 10, .rw, 1, false⟩, ⟨9, 9, .rw, 0, false⟩, ⟨8, 5, .rw, 3, false⟩, ⟨3, 0, .rw, 0, false⟩]⟩,
  ⟨0x41, 1, 1, [⟨8, 8, .rw, 0, false⟩, ⟨7, 0, .rw, 3, false⟩]⟩,
  ⟨0x42, 1, 1, [⟨15, 0, .rw, 0, false⟩]⟩,
  ⟨0x43, 1, 1, [⟨15, 15, .ro, 0, false⟩, ⟨11, 8, .ro, 0, false⟩, ⟨3, 0, .ro, 0, false⟩]⟩,
  ⟨0x44, 1, 1, [⟨15, 0, .ro, 0, false⟩]⟩,
  ⟨0x45, 1, 1, [⟨15, 0, .ro, 0, false⟩]⟩,
  ⟨0x46, 1, 1, [⟨15, 0, .ro, 0, false⟩]⟩,
  ⟨0x47, 1, 1, [⟨15, 0, .cnt, 0, false⟩]⟩,
  ⟨0x50, 1, 1, [⟨2, 0, .rw, 7, true⟩]⟩,
  ⟨0x60, 4, 4, [⟨15, 15, .rw, 1, false⟩, ⟨14, 14, .rw, 0, false⟩, ⟨13, 11, .rw, 3, false⟩, ⟨10, 9, .rw, 2, false⟩, ⟨8, 8, .rw, 0, false⟩, ⟨7, 0, .rw, 16, false⟩]⟩,
  ⟨0x61, 4, 4, [⟨15, 0, .rw, 38528, false⟩]⟩,
  ⟨0x62, 4, 4, [⟨15, 0, .rw, 152, false⟩]⟩,
  ⟨0x63, 4, 4, [⟨15, 0, .rw, 100, false⟩]⟩]
def SYS.rows1 : List RegDef := [
  ⟨0x70, 1, 1, [⟨15, 15, .sc, 0, false⟩]⟩,
  ⟨0x71, 1, 1, [⟨15, 15, .ro, 0, false⟩, ⟨11, 8, .ro, 0, false⟩, ⟨3, 0, .ro, 0, false⟩]⟩,
  ⟨0x80, 1, 1, [⟨15, 15, .sc, 0, false⟩, ⟨14, 14, .sc, 0, false⟩, ⟨13, 13, .sc, 0, false⟩, ⟨12, 12, .sc, 0, false⟩, ⟨11, 11, .sc, 0, false⟩, ⟨10, 8, .rw, 0, true⟩, ⟨7, 7, .rw, 0, false⟩]⟩,
  ⟨0x81, 1, 1, [⟨15, 13, .ro, 0, true⟩, ⟨12, 12, .ro, 0, false⟩, ⟨11, 11, .ro, 0, false⟩, ⟨10, 10, .ro, 0, false⟩, ⟨9, 9, .ro, 0, false⟩, ⟨8, 8, .ro, 0, false⟩, ⟨7, 0, .ro, 0, false⟩]⟩,
  ⟨0x82, 1, 1, [⟨15, 15, .w1c, 0, false⟩, ⟨14, 14, .w1c, 0, false⟩, ⟨13, 13, .w1c, 0, false⟩, ⟨12, 12, .w1c, 0, false⟩, ⟨11, 11, .w1c, 0, false⟩, ⟨10, 10, .w1c, 0, false⟩, ⟨9, 9, .w1c, 0, false⟩, ⟨8, 8, .w1c, 0, false⟩]⟩,
  ⟨0x83, 1, 1, [⟨15, 0, .rw, 0, false⟩]⟩,
  ⟨0x84, 8, 1, [⟨15, 0, .ro, 0, false⟩]⟩,
  ⟨0x8C, 8, 1, [⟨15, 0, .rw, 0, false⟩]⟩,
  ⟨0x94, 8, 1, [⟨15, 0, .lk, 0, false⟩]⟩]
def SYS.rows : List RegDef := SYS.rows0 ++ SYS.rows1

/-! ### PWR: base 0x0100, 1 instance(s), stride 0x30 -/
def PWR.PS_CTRL : Nat := 0x0100
def PWR.PS_CTRL_TARGET : Field := ⟨PWR.PS_CTRL, 15, 13⟩
def PWR.PS_CTRL_GO : Field := ⟨PWR.PS_CTRL, 12, 12⟩
def PWR.PS_STAT : Nat := 0x0101
def PWR.PS_STAT_STATE : Field := ⟨PWR.PS_STAT, 15, 13⟩
def PWR.PS_STAT_MOVING : Field := ⟨PWR.PS_STAT, 12, 12⟩
def PWR.PS_STAT_GRADE : Field := ⟨PWR.PS_STAT, 11, 10⟩
def PWR.PS_STAT_DEFERRED : Field := ⟨PWR.PS_STAT, 9, 9⟩
def PWR.PS_EVT : Nat := 0x0102
def PWR.PS_EVT_WOKE : Field := ⟨PWR.PS_EVT, 15, 15⟩
def PWR.PS_EVT_GRADE_FULL : Field := ⟨PWR.PS_EVT, 14, 14⟩
def PWR.PS_EVT_GRADE_LOST : Field := ⟨PWR.PS_EVT, 13, 13⟩
def PWR.PS_EVT_CLEAR_REFUSED : Field := ⟨PWR.PS_EVT, 12, 12⟩
def PWR.PS_EVT_WRITE_LOST : Field := ⟨PWR.PS_EVT, 11, 11⟩
def PWR.WAKE_CFG : Nat := 0x0103
def PWR.WAKE_CFG_WAKE_EN : Field := ⟨PWR.WAKE_CFG, 15, 15⟩
def PWR.WAKE_CFG_WAKE_POL : Field := ⟨PWR.WAKE_CFG, 14, 14⟩
def PWR.WAKE_CFG_RTC_EN : Field := ⟨PWR.WAKE_CFG, 13, 13⟩
def PWR.WAKE_CFG_TC10_PORTS : Field := ⟨PWR.WAKE_CFG, 7, 0⟩
def PWR.WAKE_CAUSE : Nat := 0x0104
def PWR.WAKE_CAUSE_PORT : Field := ⟨PWR.WAKE_CAUSE, 10, 8⟩
def PWR.WAKE_CAUSE_CAUSE : Field := ⟨PWR.WAKE_CAUSE, 2, 0⟩
def PWR.RTC_ALARM : Nat := 0x0105
def PWR.LOW_TIME : Nat := 0x0107
def PWR.PWR_STAT : Nat := 0x0110
def PWR.PWR_STAT_PG : Field := ⟨PWR.PWR_STAT, 15, 15⟩
def PWR.PWR_STAT_UV_WARN : Field := ⟨PWR.PWR_STAT, 14, 14⟩
def PWR.PWR_STAT_UV : Field := ⟨PWR.PWR_STAT, 13, 13⟩
def PWR.PWR_STAT_OV : Field := ⟨PWR.PWR_STAT, 12, 12⟩
def PWR.PWR_STAT_HOLDUP : Field := ⟨PWR.PWR_STAT, 11, 11⟩
def PWR.PWR_STAT_RAIL_FAULT : Field := ⟨PWR.PWR_STAT, 10, 10⟩
def PWR.PWR_EVT : Nat := 0x0111
def PWR.PWR_EVT_UV_WARN : Field := ⟨PWR.PWR_EVT, 15, 15⟩
def PWR.PWR_EVT_UV : Field := ⟨PWR.PWR_EVT, 14, 14⟩
def PWR.PWR_EVT_OV : Field := ⟨PWR.PWR_EVT, 13, 13⟩
def PWR.PWR_EVT_RAIL : Field := ⟨PWR.PWR_EVT, 12, 12⟩
def PWR.PWR_EVT_CLEAR_REFUSED : Field := ⟨PWR.PWR_EVT, 11, 11⟩
def PWR.PWR_EVT_WRITE_LOST : Field := ⟨PWR.PWR_EVT, 10, 10⟩
def PWR.VIN_MEAS : Nat := 0x0112
def PWR.IIN_MEAS : Nat := 0x0113
def PWR.PIN_MEAS : Nat := 0x0114
def PWR.UVW_TH : Nat := 0x0115
def PWR.RAIL_STAT : Nat := 0x0116
def PWR.RAIL_STAT_RAIL_OK : Field := ⟨PWR.RAIL_STAT, 7, 0⟩
def PWR.PWR_CTRL : Nat := 0x0117
def PWR.PWR_CTRL_CNT_CLR : Field := ⟨PWR.PWR_CTRL, 15, 15⟩
def PWR.PWR_CTRL_PEAK_CLR : Field := ⟨PWR.PWR_CTRL, 14, 14⟩
def PWR.UVW_CNT : Nat := 0x0118
def PWR.OV_CNT : Nat := 0x0119
def PWR.RAIL_CNT : Nat := 0x011A
def PWR.VOTE_REPAIR : Nat := 0x011B
def PWR.PIN_PEAK : Nat := 0x011C
def PWR.VIN_MIN : Nat := 0x011D
def PWR.HIST_SEL : Nat := 0x011E
def PWR.HIST_SEL_ENTRY : Field := ⟨PWR.HIST_SEL, 5, 4⟩
def PWR.HIST_SEL_WORD : Field := ⟨PWR.HIST_SEL, 2, 0⟩
def PWR.HIST_DATA : Nat := 0x011F
def PWR.EVT_CLASS4 : Nat := 0x0120
def PWR.EVT_CLASS4_THRESH_N : Field := ⟨PWR.EVT_CLASS4, 15, 8⟩
def PWR.EVT_CLASS4_ROUTE : Field := ⟨PWR.EVT_CLASS4, 7, 5⟩
def PWR.EVT_CLASS4_REACT : Field := ⟨PWR.EVT_CLASS4, 4, 4⟩
def PWR.EVT_CLASS4_INJ_REACT : Field := ⟨PWR.EVT_CLASS4, 3, 3⟩
def PWR.EVT_CLASS4_FORCE : Field := ⟨PWR.EVT_CLASS4, 2, 2⟩
def PWR.EVT_WINDOW4 : Nat := 0x0121
def PWR.EVT_CLASS5 : Nat := 0x0122
def PWR.EVT_CLASS5_THRESH_N : Field := ⟨PWR.EVT_CLASS5, 15, 8⟩
def PWR.EVT_CLASS5_ROUTE : Field := ⟨PWR.EVT_CLASS5, 7, 5⟩
def PWR.EVT_CLASS5_REACT : Field := ⟨PWR.EVT_CLASS5, 4, 4⟩
def PWR.EVT_CLASS5_INJ_REACT : Field := ⟨PWR.EVT_CLASS5, 3, 3⟩
def PWR.EVT_CLASS5_FORCE : Field := ⟨PWR.EVT_CLASS5, 2, 2⟩
def PWR.EVT_WINDOW5 : Nat := 0x0123
def PWR.EVT_CLASS6 : Nat := 0x0124
def PWR.EVT_CLASS6_THRESH_N : Field := ⟨PWR.EVT_CLASS6, 15, 8⟩
def PWR.EVT_CLASS6_ROUTE : Field := ⟨PWR.EVT_CLASS6, 7, 5⟩
def PWR.EVT_CLASS6_REACT : Field := ⟨PWR.EVT_CLASS6, 4, 4⟩
def PWR.EVT_CLASS6_INJ_REACT : Field := ⟨PWR.EVT_CLASS6, 3, 3⟩
def PWR.EVT_CLASS6_FORCE : Field := ⟨PWR.EVT_CLASS6, 2, 2⟩
def PWR.EVT_WINDOW6 : Nat := 0x0125
def PWR.EVT_CLASS7 : Nat := 0x0126
def PWR.EVT_CLASS7_THRESH_N : Field := ⟨PWR.EVT_CLASS7, 15, 8⟩
def PWR.EVT_CLASS7_ROUTE : Field := ⟨PWR.EVT_CLASS7, 7, 5⟩
def PWR.EVT_CLASS7_REACT : Field := ⟨PWR.EVT_CLASS7, 4, 4⟩
def PWR.EVT_CLASS7_INJ_REACT : Field := ⟨PWR.EVT_CLASS7, 3, 3⟩
def PWR.EVT_CLASS7_FORCE : Field := ⟨PWR.EVT_CLASS7, 2, 2⟩
def PWR.EVT_WINDOW7 : Nat := 0x0127
def PWR.rows0 : List RegDef := [
  ⟨0x00, 1, 1, [⟨15, 13, .rw, 0, true⟩, ⟨12, 12, .sc, 0, false⟩]⟩,
  ⟨0x01, 1, 1, [⟨15, 13, .ro, 0, false⟩, ⟨12, 12, .ro, 0, false⟩, ⟨11, 10, .ro, 0, false⟩, ⟨9, 9, .ro, 0, false⟩]⟩,
  ⟨0x02, 1, 1, [⟨15, 15, .w1c, 0, false⟩, ⟨14, 14, .w1c, 0, false⟩, ⟨13, 13, .w1c, 0, false⟩, ⟨12, 12, .w1c, 0, false⟩, ⟨11, 11, .w1c, 0, false⟩]⟩,
  ⟨0x03, 1, 1, [⟨15, 15, .rw, 1, false⟩, ⟨14, 14, .rw, 1, false⟩, ⟨13, 13, .rw, 0, false⟩, ⟨7, 0, .rw, 0, false⟩]⟩,
  ⟨0x04, 1, 1, [⟨10, 8, .ro, 0, false⟩, ⟨2, 0, .ro, 0, false⟩]⟩,
  ⟨0x05, 1, 1, [⟨15, 0, .rw, 0, false⟩]⟩,
  ⟨0x06, 1, 1, [⟨15, 0, .rw, 0, false⟩]⟩,
  ⟨0x07, 1, 1, [⟨15, 0, .ro, 0, false⟩]⟩,
  ⟨0x08, 1, 1, [⟨15, 0, .ro, 0, false⟩]⟩,
  ⟨0x10, 1, 1, [⟨15, 15, .ro, 0, false⟩, ⟨14, 14, .ro, 0, false⟩, ⟨13, 13, .ro, 0, false⟩, ⟨12, 12, .ro, 0, false⟩, ⟨11, 11, .ro, 0, false⟩, ⟨10, 10, .ro, 0, false⟩]⟩,
  ⟨0x11, 1, 1, [⟨15, 15, .w1c, 0, false⟩, ⟨14, 14, .w1c, 0, false⟩, ⟨13, 13, .w1c, 0, false⟩, ⟨12, 12, .w1c, 0, false⟩, ⟨11, 11, .w1c, 0, false⟩, ⟨10, 10, .w1c, 0, false⟩]⟩,
  ⟨0x12, 1, 1, [⟨15, 0, .ro, 0, false⟩]⟩,
  ⟨0x13, 1, 1, [⟨15, 0, .ro, 0, false⟩]⟩,
  ⟨0x14, 1, 1, [⟨15, 0, .ro, 0, false⟩]⟩,
  ⟨0x15, 1, 1, [⟨15, 0, .rw, 380, false⟩]⟩,
  ⟨0x16, 1, 1, [⟨7, 0, .ro, 0, false⟩]⟩,
  ⟨0x17, 1, 1, [⟨15, 15, .sc, 0, false⟩, ⟨14, 14, .sc, 0, false⟩]⟩,
  ⟨0x18, 1, 1, [⟨15, 0, .cnt, 0, false⟩]⟩,
  ⟨0x19, 1, 1, [⟨15, 0, .cnt, 0, false⟩]⟩,
  ⟨0x1A, 1, 1, [⟨15, 0, .cnt, 0, false⟩]⟩,
  ⟨0x1B, 1, 1, [⟨15, 0, .cnt, 0, false⟩]⟩,
  ⟨0x1C, 1, 1, [⟨15, 0, .ro, 0, false⟩]⟩,
  ⟨0x1D, 1, 1, [⟨15, 0, .ro, 65535, false⟩]⟩,
  ⟨0x1E, 1, 1, [⟨5, 4, .rw, 0, false⟩, ⟨2, 0, .rw, 0, false⟩]⟩,
  ⟨0x1F, 1, 1, [⟨15, 0, .ro, 0, false⟩]⟩,
  ⟨0x20, 1, 1, [⟨15, 8, .rw, 0, false⟩, ⟨7, 5, .rw, 0, false⟩, ⟨4, 4, .rw, 0, false⟩, ⟨3, 3, .rw, 0, false⟩, ⟨2, 2, .sc, 0, false⟩]⟩,
  ⟨0x21, 1, 1, [⟨15, 0, .rw, 0, false⟩]⟩,
  ⟨0x22, 1, 1, [⟨15, 8, .rw, 0, false⟩, ⟨7, 5, .rw, 0, false⟩, ⟨4, 4, .rw, 0, false⟩, ⟨3, 3, .rw, 0, false⟩, ⟨2, 2, .sc, 0, false⟩]⟩,
  ⟨0x23, 1, 1, [⟨15, 0, .rw, 0, false⟩]⟩,
  ⟨0x24, 1, 1, [⟨15, 8, .rw, 0, false⟩, ⟨7, 5, .rw, 0, false⟩, ⟨4, 4, .rw, 0, false⟩, ⟨3, 3, .rw, 0, false⟩, ⟨2, 2, .sc, 0, false⟩]⟩,
  ⟨0x25, 1, 1, [⟨15, 0, .rw, 0, false⟩]⟩,
  ⟨0x26, 1, 1, [⟨15, 8, .rw, 1, false⟩, ⟨7, 5, .rw, 0, false⟩, ⟨4, 4, .rw, 0, false⟩, ⟨3, 3, .rw, 0, false⟩, ⟨2, 2, .sc, 0, false⟩]⟩,
  ⟨0x27, 1, 1, [⟨15, 0, .rw, 0, false⟩]⟩]
def PWR.rows : List RegDef := PWR.rows0

/-! ### THM: base 0x0130, 1 instance(s), stride 0x20 -/
def THM.THM_CTRL : Nat := 0x0130
def THM.THM_CTRL_CNT_CLR : Field := ⟨THM.THM_CTRL, 15, 15⟩
def THM.THM_CTRL_PEAK_CLR : Field := ⟨THM.THM_CTRL, 14, 14⟩
def THM.THM_STAT : Nat := 0x0131
def THM.THM_STAT_WARN : Field := ⟨THM.THM_STAT, 15, 15⟩
def THM.THM_STAT_LIMIT : Field := ⟨THM.THM_STAT, 14, 14⟩
def THM.THM_STAT_TRIP : Field := ⟨THM.THM_STAT, 13, 13⟩
def THM.THM_STAT_HOT_DIE : Field := ⟨THM.THM_STAT, 12, 10⟩
def THM.THM_EVT : Nat := 0x0132
def THM.THM_EVT_WARN : Field := ⟨THM.THM_EVT, 15, 15⟩
def THM.THM_EVT_LIMIT : Field := ⟨THM.THM_EVT, 14, 14⟩
def THM.THM_EVT_TRIP : Field := ⟨THM.THM_EVT, 13, 13⟩
def THM.THM_EVT_CLEAR_REFUSED : Field := ⟨THM.THM_EVT, 12, 12⟩
def THM.THM_EVT_WRITE_LOST : Field := ⟨THM.THM_EVT, 11, 11⟩
def THM.T_DIE_MAX : Nat := 0x0133
def THM.T_WARN : Nat := 0x0134
def THM.T_LIM : Nat := 0x0135
def THM.T_CASE_PEAK : Nat := 0x0136
def THM.EVT_CLASS20 : Nat := 0x0137
def THM.EVT_CLASS20_THRESH_N : Field := ⟨THM.EVT_CLASS20, 15, 8⟩
def THM.EVT_CLASS20_ROUTE : Field := ⟨THM.EVT_CLASS20, 7, 5⟩
def THM.EVT_CLASS20_REACT : Field := ⟨THM.EVT_CLASS20, 4, 4⟩
def THM.EVT_CLASS20_INJ_REACT : Field := ⟨THM.EVT_CLASS20, 3, 3⟩
def THM.EVT_CLASS20_FORCE : Field := ⟨THM.EVT_CLASS20, 2, 2⟩
def THM.EVT_WINDOW20 : Nat := 0x0138
def THM.EVT_CLASS21 : Nat := 0x0139
def THM.EVT_CLASS21_THRESH_N : Field := ⟨THM.EVT_CLASS21, 15, 8⟩
def THM.EVT_CLASS21_ROUTE : Field := ⟨THM.EVT_CLASS21, 7, 5⟩
def THM.EVT_CLASS21_REACT : Field := ⟨THM.EVT_CLASS21, 4, 4⟩
def THM.EVT_CLASS21_INJ_REACT : Field := ⟨THM.EVT_CLASS21, 3, 3⟩
def THM.EVT_CLASS21_FORCE : Field := ⟨THM.EVT_CLASS21, 2, 2⟩
def THM.EVT_WINDOW21 : Nat := 0x013A
def THM.HIST_SEL : Nat := 0x013B
def THM.HIST_SEL_ENTRY : Field := ⟨THM.HIST_SEL, 5, 4⟩
def THM.HIST_SEL_WORD : Field := ⟨THM.HIST_SEL, 2, 0⟩
def THM.HIST_DATA : Nat := 0x013C
def THM.WARN_CNT : Nat := 0x013D
def THM.TRIP_CNT : Nat := 0x013E
def THM.PIN_LOG (i : Nat) : Nat := 0x0140 + i
def THM.rows0 : List RegDef := [
  ⟨0x00, 1, 1, [⟨15, 15, .sc, 0, false⟩, ⟨14, 14, .sc, 0, false⟩]⟩,
  ⟨0x01, 1, 1, [⟨15, 15, .ro, 0, false⟩, ⟨14, 14, .ro, 0, false⟩, ⟨13, 13, .ro, 0, false⟩, ⟨12, 10, .ro, 0, false⟩]⟩,
  ⟨0x02, 1, 1, [⟨15, 15, .w1c, 0, false⟩, ⟨14, 14, .w1c, 0, false⟩, ⟨13, 13, .w1c, 0, false⟩, ⟨12, 12, .w1c, 0, false⟩, ⟨11, 11, .w1c, 0, false⟩]⟩,
  ⟨0x03, 1, 1, [⟨15, 0, .ro, 0, false⟩]⟩,
  ⟨0x04, 1, 1, [⟨15, 0, .rw, 9000, false⟩]⟩,
  ⟨0x05, 1, 1, [⟨15, 0, .rw, 10000, false⟩]⟩,
  ⟨0x06, 1, 1, [⟨15, 0, .ro, 0, false⟩]⟩,
  ⟨0x07, 1, 1, [⟨15, 8, .rw, 0, false⟩, ⟨7, 5, .rw, 0, false⟩, ⟨4, 4, .rw, 0, false⟩, ⟨3, 3, .rw, 0, false⟩, ⟨2, 2, .sc, 0, false⟩]⟩,
  ⟨0x08, 1, 1, [⟨15, 0, .rw, 0, false⟩]⟩,
  ⟨0x09, 1, 1, [⟨15, 8, .rw, 1, false⟩, ⟨7, 5, .rw, 0, false⟩, ⟨4, 4, .rw, 0, false⟩, ⟨3, 3, .rw, 0, false⟩, ⟨2, 2, .sc, 0, false⟩]⟩,
  ⟨0x0A, 1, 1, [⟨15, 0, .rw, 0, false⟩]⟩,
  ⟨0x0B, 1, 1, [⟨5, 4, .rw, 0, false⟩, ⟨2, 0, .rw, 0, false⟩]⟩,
  ⟨0x0C, 1, 1, [⟨15, 0, .ro, 0, false⟩]⟩,
  ⟨0x0D, 1, 1, [⟨15, 0, .cnt, 0, false⟩]⟩,
  ⟨0x0E, 1, 1, [⟨15, 0, .cnt, 0, false⟩]⟩,
  ⟨0x10, 16, 1, [⟨15, 0, .ro, 0, false⟩]⟩]
def THM.rows : List RegDef := THM.rows0

/-! ### REG: base 0x0200, 1 instance(s), stride 0x100 -/
def REG.REG_CTRL : Nat := 0x0200
def REG.REG_CTRL_CNT_CLR : Field := ⟨REG.REG_CTRL, 15, 15⟩
def REG.REG_CTRL_LOG_CLR : Field := ⟨REG.REG_CTRL, 14, 14⟩
def REG.REG_CTRL_REC_HOLD : Field := ⟨REG.REG_CTRL, 13, 13⟩
def REG.REG_STAT : Nat := 0x0201
def REG.REG_STAT_CTX_OPEN : Field := ⟨REG.REG_STAT, 15, 11⟩
def REG.REG_STAT_WAIT_N : Field := ⟨REG.REG_STAT, 10, 8⟩
def REG.ACC_EVT : Nat := 0x0202
def REG.ACC_EVT_ACCESS_VIOLATION : Field := ⟨REG.ACC_EVT, 15, 15⟩
def REG.ACC_EVT_FRAME_CRC : Field := ⟨REG.ACC_EVT, 14, 14⟩
def REG.ACC_EVT_FRAME_ERR : Field := ⟨REG.ACC_EVT, 13, 13⟩
def REG.ACC_EVT_UNMAPPED : Field := ⟨REG.ACC_EVT, 12, 12⟩
def REG.ACC_EVT_TXN_ABORT : Field := ⟨REG.ACC_EVT, 11, 11⟩
def REG.ACC_EVT_TXN_DONE : Field := ⟨REG.ACC_EVT, 10, 10⟩
def REG.ACC_EVT_VOTE_SPLIT : Field := ⟨REG.ACC_EVT, 9, 9⟩
def REG.ACC_EVT_WRITE_LOST : Field := ⟨REG.ACC_EVT, 8, 8⟩
def REG.ACC_ADDR : Nat := 0x0203
def REG.ACC_INFO : Nat := 0x0204
def REG.ACC_INFO_IF : Field := ⟨REG.ACC_INFO, 15, 13⟩
def REG.ACC_INFO_CAUSE : Field := ⟨REG.ACC_INFO, 12, 10⟩
def REG.ACC_INFO_READ : Field := ⟨REG.ACC_INFO, 9, 9⟩
def REG.ACC_TIME : Nat := 0x0205
def REG.VIOL_CNT : Nat := 0x0209
def REG.UNMAPPED_CNT : Nat := 0x020A
def REG.CRC_ERR_CNT : Nat := 0x020B
def REG.FRAME_ERR_CNT : Nat := 0x020C
def REG.TXN_DONE_CNT : Nat := 0x020D
def REG.TXN_ABORT_CNT : Nat := 0x020E
def REG.VOTE_REPAIR : Nat := 0x020F
def REG.EVT_CLASS12 : Nat := 0x0210
def REG.EVT_CLASS12_THRESH_N : Field := ⟨REG.EVT_CLASS12, 15, 8⟩
def REG.EVT_CLASS12_ROUTE : Field := ⟨REG.EVT_CLASS12, 7, 5⟩
def REG.EVT_CLASS12_REACT : Field := ⟨REG.EVT_CLASS12, 4, 4⟩
def REG.EVT_CLASS12_INJ_REACT : Field := ⟨REG.EVT_CLASS12, 3, 3⟩
def REG.EVT_CLASS12_FORCE : Field := ⟨REG.EVT_CLASS12, 2, 2⟩
def REG.EVT_WINDOW12 : Nat := 0x0211
def REG.EVT_CLASS13 : Nat := 0x0212
def REG.EVT_CLASS13_THRESH_N : Field := ⟨REG.EVT_CLASS13, 15, 8⟩
def REG.EVT_CLASS13_ROUTE : Field := ⟨REG.EVT_CLASS13, 7, 5⟩
def REG.EVT_CLASS13_REACT : Field := ⟨REG.EVT_CLASS13, 4, 4⟩
def REG.EVT_CLASS13_INJ_REACT : Field := ⟨REG.EVT_CLASS13, 3, 3⟩
def REG.EVT_CLASS13_FORCE : Field := ⟨REG.EVT_CLASS13, 2, 2⟩
def REG.EVT_WINDOW13 : Nat := 0x0213
def REG.EVT_CLASS14 : Nat := 0x0214
def REG.EVT_CLASS14_THRESH_N : Field := ⟨REG.EVT_CLASS14, 15, 8⟩
def REG.EVT_CLASS14_ROUTE : Field := ⟨REG.EVT_CLASS14, 7, 5⟩
def REG.EVT_CLASS14_REACT : Field := ⟨REG.EVT_CLASS14, 4, 4⟩
def REG.EVT_CLASS14_INJ_REACT : Field := ⟨REG.EVT_CLASS14, 3, 3⟩
def REG.EVT_CLASS14_FORCE : Field := ⟨REG.EVT_CLASS14, 2, 2⟩
def REG.EVT_WINDOW14 : Nat := 0x0215
def REG.EVT_CLASS15 : Nat := 0x0216
def REG.EVT_CLASS15_THRESH_N : Field := ⟨REG.EVT_CLASS15, 15, 8⟩
def REG.EVT_CLASS15_ROUTE : Field := ⟨REG.EVT_CLASS15, 7, 5⟩
def REG.EVT_CLASS15_REACT : Field := ⟨REG.EVT_CLASS15, 4, 4⟩
def REG.EVT_CLASS15_INJ_REACT : Field := ⟨REG.EVT_CLASS15, 3, 3⟩
def REG.EVT_CLASS15_FORCE : Field := ⟨REG.EVT_CLASS15, 2, 2⟩
def REG.EVT_WINDOW15 : Nat := 0x0217
def REG.HIST_SEL : Nat := 0x0218
def REG.HIST_SEL_ENTRY : Field := ⟨REG.HIST_SEL, 5, 4⟩
def REG.HIST_SEL_WORD : Field := ⟨REG.HIST_SEL, 2, 0⟩
def REG.HIST_DATA : Nat := 0x0219
def REG.HILDO_CFG : Nat := 0x021A
def REG.HILDO_CFG_EN : Field := ⟨REG.HILDO_CFG, 15, 15⟩
def REG.HILDO_CFG_WR_EN : Field := ⟨REG.HILDO_CFG, 14, 14⟩
def REG.HILDO_CFG_PORTS : Field := ⟨REG.HILDO_CFG, 7, 0⟩
def REG.HILDO_STAT : Nat := 0x021B
def REG.HILDO_STAT_LAST_PORT : Field := ⟨REG.HILDO_STAT, 15, 13⟩
def REG.HILDO_STAT_SEQ_VALID : Field := ⟨REG.HILDO_STAT, 12, 12⟩
def REG.HILDO_SEQ : Nat := 0x021C
def REG.HILDO_DUP_CNT : Nat := 0x021E
def REG.IF_CFG : Nat := 0x021F
def REG.IF_CFG_I2C_EN : Field := ⟨REG.IF_CFG, 15, 15⟩
def REG.IF_CFG_I2C_TOUT : Field := ⟨REG.IF_CFG, 7, 3⟩
def REG.IF_CFG_ID : Field := ⟨REG.IF_CFG, 2, 0⟩
def REG.TXN_CTRL : Nat := 0x0220
def REG.TXN_CTRL_OPEN : Field := ⟨REG.TXN_CTRL, 15, 15⟩
def REG.TXN_CTRL_COMMIT : Field := ⟨REG.TXN_CTRL, 14, 14⟩
def REG.TXN_CTRL_ABORT : Field := ⟨REG.TXN_CTRL, 13, 13⟩
def REG.TXN_CTRL_AT : Field := ⟨REG.TXN_CTRL, 12, 10⟩
def REG.TXN_CTRL_ARG : Field := ⟨REG.TXN_CTRL, 9, 7⟩
def REG.TXN_ID : Nat := 0x0221
def REG.TXN_STAT : Nat := 0x0222
def REG.TXN_STAT_OPEN : Field := ⟨REG.TXN_STAT, 15, 15⟩
def REG.TXN_STAT_DOOM_OVF : Field := ⟨REG.TXN_STAT, 14, 14⟩
def REG.TXN_STAT_DOOM_LOCK : Field := ⟨REG.TXN_STAT, 13, 13⟩
def REG.TXN_STAT_COUNT : Field := ⟨REG.TXN_STAT, 8, 0⟩
def REG.LAST_RES : Nat := 0x0223
def REG.LAST_RES_RESULT : Field := ⟨REG.LAST_RES, 15, 12⟩
def REG.LAST_RES_SLOT : Field := ⟨REG.LAST_RES, 11, 9⟩
def REG.LAST_RES_COUNT : Field := ⟨REG.LAST_RES, 8, 0⟩
def REG.LAST_ID : Nat := 0x0224
def REG.TXN_SEC : Nat := 0x0225
def REG.TXN_NS : Nat := 0x0228
def REG.TXN_TIMEOUT : Nat := 0x022A
def REG.TXN_PEND : Nat := 0x022B
def REG.TXN_PEND_ANY : Field := ⟨REG.TXN_PEND, 7, 4⟩
def REG.TXN_PEND_OWN : Field := ⟨REG.TXN_PEND, 3, 0⟩
def REG.SCRUB_STAT : Nat := 0x022C
def REG.SPLIT_CNT : Nat := 0x022D
def REG.SPLIT_ADDR : Nat := 0x022E
def REG.SPLIT_INFO : Nat := 0x022F
def REG.SPLIT_INFO_LSB : Field := ⟨REG.SPLIT_INFO, 15, 12⟩
def REG.SPLIT_INFO_WIDTH_M1 : Field := ⟨REG.SPLIT_INFO, 11, 8⟩
def REG.SPLIT_INFO_SOURCE : Field := ⟨REG.SPLIT_INFO, 7, 0⟩
def REG.CTX_STAT (i : Nat) : Nat := 0x0230 + 3 * i
def REG.CTX_STAT_OPEN (i : Nat) : Field := ⟨REG.CTX_STAT i, 15, 15⟩
def REG.CTX_STAT_DOOM_OVF (i : Nat) : Field := ⟨REG.CTX_STAT i, 14, 14⟩
def REG.CTX_STAT_DOOM_LOCK (i : Nat) : Field := ⟨REG.CTX_STAT i, 13, 13⟩
def REG.CTX_STAT_COUNT (i : Nat) : Field := ⟨REG.CTX_STAT i, 8, 0⟩
def REG.CTX_ID (i : Nat) : Nat := 0x0231 + 3 * i
def REG.CTX_RES (i : Nat) : Nat := 0x0232 + 3 * i
def REG.CTX_RES_RESULT (i : Nat) : Field := ⟨REG.CTX_RES i, 15, 12⟩
def REG.CTX_RES_SLOT (i : Nat) : Field := ⟨REG.CTX_RES i, 11, 9⟩
def REG.CTX_RES_COUNT (i : Nat) : Field := ⟨REG.CTX_RES i, 8, 0⟩
def REG.REG_LOCK : Nat := 0x023F
def REG.REG_LOCK_HILDO_LK : Field := ⟨REG.REG_LOCK, 15, 15⟩
def REG.WS_STAT (i : Nat) : Nat := 0x0240 + 4 * i
def REG.WS_STAT_BUSY (i : Nat) : Field := ⟨REG.WS_STAT i, 15, 15⟩
def REG.WS_STAT_CTX (i : Nat) : Field := ⟨REG.WS_STAT i, 14, 12⟩
def REG.WS_STAT_AT (i : Nat) : Field := ⟨REG.WS_STAT i, 11, 9⟩
def REG.WS_STAT_ARG (i : Nat) : Field := ⟨REG.WS_STAT i, 8, 6⟩
def REG.WS_ID (i : Nat) : Nat := 0x0241 + 4 * i
def REG.WS_COUNT (i : Nat) : Nat := 0x0242 + 4 * i
def REG.WS_COUNT_COUNT (i : Nat) : Field := ⟨REG.WS_COUNT i, 8, 0⟩
def REG.WS_AGE (i : Nat) : Nat := 0x0243 + 4 * i
def REG.LOG_ID (i : Nat) : Nat := 0x0250 + 3 * i
def REG.LOG_INFO (i : Nat) : Nat := 0x0251 + 3 * i
def REG.LOG_INFO_RESULT (i : Nat) : Field := ⟨REG.LOG_INFO i, 15, 12⟩
def REG.LOG_INFO_CTX (i : Nat) : Field := ⟨REG.LOG_INFO i, 11, 9⟩
def REG.LOG_INFO_COUNT (i : Nat) : Field := ⟨REG.LOG_INFO i, 8, 0⟩
def REG.LOG_EPOCH (i : Nat) : Nat := 0x0252 + 3 * i
def REG.rows0 : List RegDef := [
  ⟨0x00, 1, 1, [⟨15, 15, .sc, 0, false⟩, ⟨14, 14, .sc, 0, false⟩, ⟨13, 13, .rw, 0, false⟩]⟩,
  ⟨0x01, 1, 1, [⟨15, 11, .ro, 0, false⟩, ⟨10, 8, .ro, 0, false⟩]⟩,
  ⟨0x02, 1, 1, [⟨15, 15, .w1c, 0, false⟩, ⟨14, 14, .w1c, 0, false⟩, ⟨13, 13, .w1c, 0, false⟩, ⟨12, 12, .w1c, 0, false⟩, ⟨11, 11, .w1c, 0, false⟩, ⟨10, 10, .w1c, 0, false⟩, ⟨9, 9, .w1c, 0, false⟩, ⟨8, 8, .w1c, 0, false⟩]⟩,
  ⟨0x03, 1, 1, [⟨15, 0, .ro, 0, false⟩]⟩,
  ⟨0x04, 1, 1, [⟨15, 13, .ro, 0, false⟩, ⟨12, 10, .ro, 0, false⟩, ⟨9, 9, .ro, 0, false⟩]⟩,
  ⟨0x05, 1, 1, [⟨15, 0, .ro, 0, false⟩]⟩,
  ⟨0x06, 1, 1, [⟨15, 0, .ro, 0, false⟩]⟩,
  ⟨0x07, 1, 1, [⟨15, 0, .ro, 0, false⟩]⟩,
  ⟨0x08, 1, 1, [⟨15, 0, .ro, 0, false⟩]⟩,
  ⟨0x09, 1, 1, [⟨15, 0, .cnt, 0, false⟩]⟩,
  ⟨0x0A, 1, 1, [⟨15, 0, .cnt, 0, false⟩]⟩,
  ⟨0x0B, 1, 1, [⟨15, 0, .cnt, 0, false⟩]⟩,
  ⟨0x0C, 1, 1, [⟨15, 0, .cnt, 0, false⟩]⟩,
  ⟨0x0D, 1, 1, [⟨15, 0, .cnt, 0, false⟩]⟩,
  ⟨0x0E, 1, 1, [⟨15, 0, .cnt, 0, false⟩]⟩,
  ⟨0x0F, 1, 1, [⟨15, 0, .cnt, 0, false⟩]⟩,
  ⟨0x10, 1, 1, [⟨15, 8, .rw, 0, false⟩, ⟨7, 5, .rw, 0, false⟩, ⟨4, 4, .rw, 0, false⟩, ⟨3, 3, .rw, 0, false⟩, ⟨2, 2, .sc, 0, false⟩]⟩,
  ⟨0x11, 1, 1, [⟨15, 0, .rw, 0, false⟩]⟩,
  ⟨0x12, 1, 1, [⟨15, 8, .rw, 0, false⟩, ⟨7, 5, .rw, 0, false⟩, ⟨4, 4, .rw, 0, false⟩, ⟨3, 3, .rw, 0, false⟩, ⟨2, 2, .sc, 0, false⟩]⟩,
  ⟨0x13, 1, 1, [⟨15, 0, .rw, 0, false⟩]⟩,
  ⟨0x14, 1, 1, [⟨15, 8, .rw, 0, false⟩, ⟨7, 5, .rw, 0, false⟩, ⟨4, 4, .rw, 0, false⟩, ⟨3, 3, .rw, 0, false⟩, ⟨2, 2, .sc, 0, false⟩]⟩,
  ⟨0x15, 1, 1, [⟨15, 0, .rw, 0, false⟩]⟩,
  ⟨0x16, 1, 1, [⟨15, 8, .rw, 0, false⟩, ⟨7, 5, .rw, 0, false⟩, ⟨4, 4, .rw, 0, false⟩, ⟨3, 3, .rw, 0, false⟩, ⟨2, 2, .sc, 0, false⟩]⟩,
  ⟨0x17, 1, 1, [⟨15, 0, .rw, 0, false⟩]⟩,
  ⟨0x18, 1, 1, [⟨5, 4, .rw, 0, false⟩, ⟨2, 0, .rw, 0, false⟩]⟩,
  ⟨0x19, 1, 1, [⟨15, 0, .ro, 0, false⟩]⟩,
  ⟨0x1A, 1, 1, [⟨15, 15, .lk, 0, true⟩, ⟨14, 14, .lk, 1, true⟩, ⟨7, 0, .lk, 0, true⟩]⟩,
  ⟨0x1B, 1, 1, [⟨15, 13, .ro, 0, false⟩, ⟨12, 12, .ro, 0, false⟩]⟩,
  ⟨0x1C, 1, 1, [⟨15, 0, .ro, 0, false⟩]⟩,
  ⟨0x1D, 1, 1, [⟨15, 0, .ro, 0, false⟩]⟩,
  ⟨0x1E, 1, 1, [⟨15, 0, .cnt, 0, false⟩]⟩,
  ⟨0x1F, 1, 1, [⟨15, 15, .rw, 1, false⟩, ⟨7, 3, .rw, 0, false⟩, ⟨2, 0, .ro, 0, false⟩]⟩,
  ⟨0x20, 1, 1, [⟨15, 15, .sc, 0, false⟩, ⟨14, 14, .sc, 0, false⟩, ⟨13, 13, .sc, 0, false⟩, ⟨12, 10, .rw, 0, false⟩, ⟨9, 7, .rw, 0, false⟩]⟩,
  ⟨0x21, 1, 1, [⟨15, 0, .rw, 0, false⟩]⟩,
  ⟨0x22, 1, 1, [⟨15, 15, .ro, 0, false⟩, ⟨14, 14, .ro, 0, false⟩, ⟨13, 13, .ro, 0, false⟩, ⟨8, 0, .ro, 0, false⟩]⟩,
  ⟨0x23, 1, 1, [⟨15, 12, .ro, 0, false⟩, ⟨11, 9, .ro, 7, false⟩, ⟨8, 0, .ro, 0, false⟩]⟩,
  ⟨0x24, 1, 1, [⟨15, 0, .ro, 0, false⟩]⟩,
  ⟨0x25, 1, 1, [⟨15, 0, .rw, 0, false⟩]⟩,
  ⟨0x26, 1, 1, [⟨15, 0, .rw, 0, false⟩]⟩,
  ⟨0x27, 1, 1, [⟨15, 0, .rw, 0, false⟩]⟩]
def REG.rows1 : List RegDef := [
  ⟨0x28, 1, 1, [⟨15, 0, .rw, 0, false⟩]⟩,
  ⟨0x29, 1, 1, [⟨15, 0, .rw, 0, false⟩]⟩,
  ⟨0x2A, 1, 1, [⟨15, 0, .rw, 10000, false⟩]⟩,
  ⟨0x2B, 1, 1, [⟨7, 4, .ro, 0, false⟩, ⟨3, 0, .ro, 0, false⟩]⟩,
  ⟨0x2C, 1, 1, [⟨15, 0, .ro, 0, false⟩]⟩,
  ⟨0x2D, 1, 1, [⟨15, 0, .cnt, 0, false⟩]⟩,
  ⟨0x2E, 1, 1, [⟨15, 0, .ro, 0, false⟩]⟩,
  ⟨0x2F, 1, 1, [⟨15, 12, .ro, 0, false⟩, ⟨11, 8, .ro, 0, false⟩, ⟨7, 0, .ro, 0, false⟩]⟩,
  ⟨0x30, 5, 3, [⟨15, 15, .ro, 0, false⟩, ⟨14, 14, .ro, 0, false⟩, ⟨13, 13, .ro, 0, false⟩, ⟨8, 0, .ro, 0, false⟩]⟩,
  ⟨0x31, 5, 3, [⟨15, 0, .ro, 0, false⟩]⟩,
  ⟨0x32, 5, 3, [⟨15, 12, .ro, 0, false⟩, ⟨11, 9, .ro, 7, false⟩, ⟨8, 0, .ro, 0, false⟩]⟩,
  ⟨0x3F, 1, 1, [⟨15, 15, .wo, 0, true⟩]⟩,
  ⟨0x40, 4, 4, [⟨15, 15, .ro, 0, false⟩, ⟨14, 12, .ro, 0, false⟩, ⟨11, 9, .ro, 0, false⟩, ⟨8, 6, .ro, 0, false⟩]⟩,
  ⟨0x41, 4, 4, [⟨15, 0, .ro, 0, false⟩]⟩,
  ⟨0x42, 4, 4, [⟨8, 0, .ro, 0, false⟩]⟩,
  ⟨0x43, 4, 4, [⟨15, 0, .ro, 0, false⟩]⟩,
  ⟨0x50, 16, 3, [⟨15, 0, .ro, 0, false⟩]⟩,
  ⟨0x51, 16, 3, [⟨15, 12, .ro, 0, false⟩, ⟨11, 9, .ro, 0, false⟩, ⟨8, 0, .ro, 0, false⟩]⟩,
  ⟨0x52, 16, 3, [⟨15, 0, .ro, 0, false⟩]⟩]
def REG.rows : List RegDef := REG.rows0 ++ REG.rows1

/-! ### CFG: base 0x0300, 1 instance(s), stride 0x40 -/
def CFG.CFG_CTRL : Nat := 0x0300
def CFG.CFG_CTRL_CNT_CLR : Field := ⟨CFG.CFG_CTRL, 15, 15⟩
def CFG.CFG_CTRL_STORE : Field := ⟨CFG.CFG_CTRL, 14, 14⟩
def CFG.CFG_STAT : Nat := 0x0301
def CFG.CFG_STAT_LSTATE : Field := ⟨CFG.CFG_STAT, 15, 13⟩
def CFG.CFG_STAT_LOADED : Field := ⟨CFG.CFG_STAT, 12, 12⟩
def CFG.CFG_STAT_FL_RELEASED : Field := ⟨CFG.CFG_STAT, 11, 11⟩
def CFG.CFG_STAT_PATCH_ACTIVE : Field := ⟨CFG.CFG_STAT, 10, 10⟩
def CFG.CFG_STAT_BOOT_QUAL : Field := ⟨CFG.CFG_STAT, 9, 9⟩
def CFG.CFG_STAT_STORE_BUSY : Field := ⟨CFG.CFG_STAT, 8, 8⟩
def CFG.CFG_STAT_ERR_CODE : Field := ⟨CFG.CFG_STAT, 7, 4⟩
def CFG.CFG_STAT_STORE_RES : Field := ⟨CFG.CFG_STAT, 3, 0⟩
def CFG.CFG_EVT : Nat := 0x0302
def CFG.CFG_EVT_LOAD_DONE : Field := ⟨CFG.CFG_EVT, 15, 15⟩
def CFG.CFG_EVT_LOAD_ERR : Field := ⟨CFG.CFG_EVT, 14, 14⟩
def CFG.CFG_EVT_IMG_CRC : Field := ⟨CFG.CFG_EVT, 13, 13⟩
def CFG.CFG_EVT_STORE_DONE : Field := ⟨CFG.CFG_EVT, 12, 12⟩
def CFG.CFG_EVT_STORE_FAIL : Field := ⟨CFG.CFG_EVT, 11, 11⟩
def CFG.CFG_EVT_CLEAR_REFUSED : Field := ⟨CFG.CFG_EVT, 10, 10⟩
def CFG.CFG_EVT_WRITE_LOST : Field := ⟨CFG.CFG_EVT, 9, 9⟩
def CFG.IMG_LEN : Nat := 0x0303
def CFG.IMG_CRC : Nat := 0x0305
def CFG.PATCH_VER : Nat := 0x0307
def CFG.REC_CNT : Nat := 0x0308
def CFG.REC_REFUSED_CNT : Nat := 0x0309
def CFG.REC_UNMAPPED_CNT : Nat := 0x030A
def CFG.NVS_APPLIED : Nat := 0x030B
def CFG.NVS_SKIPPED : Nat := 0x030C
def CFG.LOAD_TIME : Nat := 0x030D
def CFG.ERR_OFS : Nat := 0x030E
def CFG.STORE_PAGES : Nat := 0x0310
def CFG.STORE_PAGES_STORE_PAGES : Field := ⟨CFG.STORE_PAGES, 8, 0⟩
def CFG.STORE_TIME : Nat := 0x0311
def CFG.PMAP_CNT : Nat := 0x0312
def CFG.PMAP_CNT_PMAP_CNT : Field := ⟨CFG.PMAP_CNT, 12, 0⟩
def CFG.PMAP_ADDR : Nat := 0x0313
def CFG.PMAP_RES : Nat := 0x0314
def CFG.PMAP_RES_ELIGIBLE : Field := ⟨CFG.PMAP_RES, 15, 15⟩
def CFG.STORE_FAIL_CNT : Nat := 0x0315
def CFG.EVT_CLASS8 : Nat := 0x0316
def CFG.EVT_CLASS8_THRESH_N : Field := ⟨CFG.EVT_CLASS8, 15, 8⟩
def CFG.EVT_CLASS8_ROUTE : Field := ⟨CFG.EVT_CLASS8, 7, 5⟩
def CFG.EVT_CLASS8_REACT : Field := ⟨CFG.EVT_CLASS8, 4, 4⟩
def CFG.EVT_CLASS8_INJ_REACT : Field := ⟨CFG.EVT_CLASS8, 3, 3⟩
def CFG.EVT_CLASS8_FORCE : Field := ⟨CFG.EVT_CLASS8, 2, 2⟩
def CFG.EVT_WINDOW8 : Nat := 0x0317
def CFG.EVT_CLASS9 : Nat := 0x0318
def CFG.EVT_CLASS9_THRESH_N : Field := ⟨CFG.EVT_CLASS9, 15, 8⟩
def CFG.EVT_CLASS9_ROUTE : Field := ⟨CFG.EVT_CLASS9, 7, 5⟩
def CFG.EVT_CLASS9_REACT : Field := ⟨CFG.EVT_CLASS9, 4, 4⟩
def CFG.EVT_CLASS9_INJ_REACT : Field := ⟨CFG.EVT_CLASS9, 3, 3⟩
def CFG.EVT_CLASS9_FORCE : Field := ⟨CFG.EVT_CLASS9, 2, 2⟩
def CFG.EVT_WINDOW9 : Nat := 0x0319
def CFG.EVT_CLASS10 : Nat := 0x031A
def CFG.EVT_CLASS10_THRESH_N : Field := ⟨CFG.EVT_CLASS10, 15, 8⟩
def CFG.EVT_CLASS10_ROUTE : Field := ⟨CFG.EVT_CLASS10, 7, 5⟩
def CFG.EVT_CLASS10_REACT : Field := ⟨CFG.EVT_CLASS10, 4, 4⟩
def CFG.EVT_CLASS10_INJ_REACT : Field := ⟨CFG.EVT_CLASS10, 3, 3⟩
def CFG.EVT_CLASS10_FORCE : Field := ⟨CFG.EVT_CLASS10, 2, 2⟩
def CFG.EVT_WINDOW10 : Nat := 0x031B
def CFG.EVT_CLASS11 : Nat := 0x031C
def CFG.EVT_CLASS11_THRESH_N : Field := ⟨CFG.EVT_CLASS11, 15, 8⟩
def CFG.EVT_CLASS11_ROUTE : Field := ⟨CFG.EVT_CLASS11, 7, 5⟩
def CFG.EVT_CLASS11_REACT : Field := ⟨CFG.EVT_CLASS11, 4, 4⟩
def CFG.EVT_CLASS11_INJ_REACT : Field := ⟨CFG.EVT_CLASS11, 3, 3⟩
def CFG.EVT_CLASS11_FORCE : Field := ⟨CFG.EVT_CLASS11, 2, 2⟩
def CFG.EVT_WINDOW11 : Nat := 0x031D
def CFG.HIST_SEL : Nat := 0x031E
def CFG.HIST_SEL_ENTRY : Field := ⟨CFG.HIST_SEL, 5, 4⟩
def CFG.HIST_SEL_WORD : Field := ⟨CFG.HIST_SEL, 2, 0⟩
def CFG.HIST_DATA : Nat := 0x031F
def CFG.HDR (i : Nat) : Nat := 0x0320 + i
def CFG.rows0 : List RegDef := [
  ⟨0x00, 1, 1, [⟨15, 15, .sc, 0, false⟩, ⟨14, 14, .sc, 0, false⟩]⟩,
  ⟨0x01, 1, 1, [⟨15, 13, .ro, 0, false⟩, ⟨12, 12, .ro, 0, false⟩, ⟨11, 11, .ro, 0, false⟩, ⟨10, 10, .ro, 0, false⟩, ⟨9, 9, .ro, 0, false⟩, ⟨8, 8, .ro, 0, false⟩, ⟨7, 4, .ro, 0, false⟩, ⟨3, 0, .ro, 0, false⟩]⟩,
  ⟨0x02, 1, 1, [⟨15, 15, .w1c, 0, false⟩, ⟨14, 14, .w1c, 0, false⟩, ⟨13, 13, .w1c, 0, false⟩, ⟨12, 12, .w1c, 0, false⟩, ⟨11, 11, .w1c, 0, false⟩, ⟨10, 10, .w1c, 0, false⟩, ⟨9, 9, .w1c, 0, false⟩]⟩,
  ⟨0x03, 1, 1, [⟨15, 0, .ro, 0, false⟩]⟩,
  ⟨0x04, 1, 1, [⟨15, 0, .ro, 0, false⟩]⟩,
  ⟨0x05, 1, 1, [⟨15, 0, .ro, 0, false⟩]⟩,
  ⟨0x06, 1, 1, [⟨15, 0, .ro, 0, false⟩]⟩,
  ⟨0x07, 1, 1, [⟨15, 0, .ro, 0, false⟩]⟩,
  ⟨0x08, 1, 1, [⟨15, 0, .ro, 0, false⟩]⟩,
  ⟨0x09, 1, 1, [⟨15, 0, .cnt, 0, false⟩]⟩,
  ⟨0x0A, 1, 1, [⟨15, 0, .cnt, 0, false⟩]⟩,
  ⟨0x0B, 1, 1, [⟨15, 0, .ro, 0, false⟩]⟩,
  ⟨0x0C, 1, 1, [⟨15, 0, .ro, 0, false⟩]⟩,
  ⟨0x0D, 1, 1, [⟨15, 0, .ro, 0, false⟩]⟩,
  ⟨0x0E, 1, 1, [⟨15, 0, .ro, 0, false⟩]⟩,
  ⟨0x0F, 1, 1, [⟨15, 0, .ro, 0, false⟩]⟩,
  ⟨0x10, 1, 1, [⟨8, 0, .ro, 0, false⟩]⟩,
  ⟨0x11, 1, 1, [⟨15, 0, .ro, 0, false⟩]⟩,
  ⟨0x12, 1, 1, [⟨12, 0, .ro, 0, false⟩]⟩,
  ⟨0x13, 1, 1, [⟨15, 0, .rw, 0, false⟩]⟩,
  ⟨0x14, 1, 1, [⟨15, 15, .ro, 0, false⟩]⟩,
  ⟨0x15, 1, 1, [⟨15, 0, .cnt, 0, false⟩]⟩,
  ⟨0x16, 1, 1, [⟨15, 8, .rw, 0, false⟩, ⟨7, 5, .rw, 0, false⟩, ⟨4, 4, .rw, 0, false⟩, ⟨3, 3, .rw, 0, false⟩, ⟨2, 2, .sc, 0, false⟩]⟩,
  ⟨0x17, 1, 1, [⟨15, 0, .rw, 0, false⟩]⟩,
  ⟨0x18, 1, 1, [⟨15, 8, .rw, 0, false⟩, ⟨7, 5, .rw, 0, false⟩, ⟨4, 4, .rw, 0, false⟩, ⟨3, 3, .rw, 0, false⟩, ⟨2, 2, .sc, 0, false⟩]⟩,
  ⟨0x19, 1, 1, [⟨15, 0, .rw, 0, false⟩]⟩,
  ⟨0x1A, 1, 1, [⟨15, 8, .rw, 0, false⟩, ⟨7, 5, .rw, 0, false⟩, ⟨4, 4, .rw, 0, false⟩, ⟨3, 3, .rw, 0, false⟩, ⟨2, 2, .sc, 0, false⟩]⟩,
  ⟨0x1B, 1, 1, [⟨15, 0, .rw, 0, false⟩]⟩,
  ⟨0x1C, 1, 1, [⟨15, 8, .rw, 0, false⟩, ⟨7, 5, .rw, 0, false⟩, ⟨4, 4, .rw, 0, false⟩, ⟨3, 3, .rw, 0, false⟩, ⟨2, 2, .sc, 0, false⟩]⟩,
  ⟨0x1D, 1, 1, [⟨15, 0, .rw, 0, false⟩]⟩,
  ⟨0x1E, 1, 1, [⟨5, 4, .rw, 0, false⟩, ⟨2, 0, .rw, 0, false⟩]⟩,
  ⟨0x1F, 1, 1, [⟨15, 0, .ro, 0, false⟩]⟩,
  ⟨0x20, 32, 1, [⟨15, 0, .ro, 0, false⟩]⟩]
def CFG.rows : List RegDef := CFG.rows0

/-! ### NVS: base 0x0400, 1 instance(s), stride 0x60 -/
def NVS.NVS_CTRL : Nat := 0x0400
def NVS.NVS_CTRL_CNT_CLR : Field := ⟨NVS.NVS_CTRL, 15, 15⟩
def NVS.NVS_CTRL_PAGE_READ : Field := ⟨NVS.NVS_CTRL, 14, 14⟩
def NVS.NVS_CTRL_PAGE_WRITE : Field := ⟨NVS.NVS_CTRL, 13, 13⟩
def NVS.NVS_CTRL_SCRUB_NOW : Field := ⟨NVS.NVS_CTRL, 12, 12⟩
def NVS.NVS_CTRL_USR_SEL : Field := ⟨NVS.NVS_CTRL, 11, 10⟩
def NVS.NVS_CTRL_CNT_INC : Field := ⟨NVS.NVS_CTRL, 9, 9⟩
def NVS.NVS_STAT : Nat := 0x0401
def NVS.NVS_STAT_BUSY : Field := ⟨NVS.NVS_STAT, 15, 15⟩
def NVS.NVS_STAT_TORN : Field := ⟨NVS.NVS_STAT, 14, 14⟩
def NVS.NVS_STAT_STALE : Field := ⟨NVS.NVS_STAT, 13, 13⟩
def NVS.NVS_STAT_PAGE_BAD : Field := ⟨NVS.NVS_STAT, 12, 12⟩
def NVS.NVS_STAT_STORE_INCOMPLETE : Field := ⟨NVS.NVS_STAT, 11, 11⟩
def NVS.NVS_STAT_HAS_MODEL : Field := ⟨NVS.NVS_STAT, 10, 10⟩
def NVS.NVS_STAT_SCRUBBING : Field := ⟨NVS.NVS_STAT, 9, 9⟩
def NVS.NVS_STAT_TORN_PAGE : Field := ⟨NVS.NVS_STAT, 7, 0⟩
def NVS.NVS_EVT : Nat := 0x0402
def NVS.NVS_EVT_TORN : Field := ⟨NVS.NVS_EVT, 15, 15⟩
def NVS.NVS_EVT_STALE : Field := ⟨NVS.NVS_EVT, 14, 14⟩
def NVS.NVS_EVT_PAGE_BAD : Field := ⟨NVS.NVS_EVT, 13, 13⟩
def NVS.NVS_EVT_MARGIN_FIX : Field := ⟨NVS.NVS_EVT, 12, 12⟩
def NVS.NVS_EVT_VERIFY_FAIL : Field := ⟨NVS.NVS_EVT, 11, 11⟩
def NVS.NVS_EVT_PROT_REFUSED : Field := ⟨NVS.NVS_EVT, 10, 10⟩
def NVS.NVS_EVT_CNT_LIFE : Field := ⟨NVS.NVS_EVT, 9, 9⟩
def NVS.NVS_EVT_WRITE_LOST : Field := ⟨NVS.NVS_EVT, 8, 8⟩
def NVS.NVS_EVT_CLEAR_REFUSED : Field := ⟨NVS.NVS_EVT, 7, 7⟩
def NVS.PROTECT : Nat := 0x0403
def NVS.PROTECT_BP : Field := ⟨NVS.PROTECT, 15, 14⟩
def NVS.PROTECT_BP_WRITTEN : Field := ⟨NVS.PROTECT, 13, 13⟩
def NVS.PAGE_SEL : Nat := 0x0404
def NVS.PAGE_SEL_HALF : Field := ⟨NVS.PAGE_SEL, 15, 15⟩
def NVS.PAGE_SEL_PAGE : Field := ⟨NVS.PAGE_SEL, 7, 0⟩
def NVS.PAGE_RES : Nat := 0x0405
def NVS.PAGE_RES_RES : Field := ⟨NVS.PAGE_RES, 2, 0⟩
def NVS.PAGE_GEN : Nat := 0x0406
def NVS.BOOT_SUM : Nat := 0x0408
def NVS.BOOT_SUM_TORN_N : Field := ⟨NVS.BOOT_SUM, 15, 8⟩
def NVS.BOOT_SUM_STALE_N : Field := ⟨NVS.BOOT_SUM, 7, 0⟩
def NVS.SCRUB_STAT : Nat := 0x0409
def NVS.MARGIN_FIX_CNT : Nat := 0x040A
def NVS.VERIFY_FAIL_CNT : Nat := 0x040B
def NVS.PROT_REFUSED_CNT : Nat := 0x040C
def NVS.VOTE_REPAIR : Nat := 0x040D
def NVS.CNT_SEL : Nat := 0x040E
def NVS.CNT_SEL_CNT : Field := ⟨NVS.CNT_SEL, 3, 0⟩
def NVS.CNT_VAL : Nat := 0x040F
def NVS.CNT_LIFE : Nat := 0x0411
def NVS.EVT_CLASS24 : Nat := 0x0412
def NVS.EVT_CLASS24_THRESH_N : Field := ⟨NVS.EVT_CLASS24, 15, 8⟩
def NVS.EVT_CLASS24_ROUTE : Field := ⟨NVS.EVT_CLASS24, 7, 5⟩
def NVS.EVT_CLASS24_REACT : Field := ⟨NVS.EVT_CLASS24, 4, 4⟩
def NVS.EVT_CLASS24_INJ_REACT : Field := ⟨NVS.EVT_CLASS24, 3, 3⟩
def NVS.EVT_CLASS24_FORCE : Field := ⟨NVS.EVT_CLASS24, 2, 2⟩
def NVS.EVT_WINDOW24 : Nat := 0x0413
def NVS.EVT_CLASS25 : Nat := 0x0414
def NVS.EVT_CLASS25_THRESH_N : Field := ⟨NVS.EVT_CLASS25, 15, 8⟩
def NVS.EVT_CLASS25_ROUTE : Field := ⟨NVS.EVT_CLASS25, 7, 5⟩
def NVS.EVT_CLASS25_REACT : Field := ⟨NVS.EVT_CLASS25, 4, 4⟩
def NVS.EVT_CLASS25_INJ_REACT : Field := ⟨NVS.EVT_CLASS25, 3, 3⟩
def NVS.EVT_CLASS25_FORCE : Field := ⟨NVS.EVT_CLASS25, 2, 2⟩
def NVS.EVT_WINDOW25 : Nat := 0x0415
def NVS.HIST_SEL : Nat := 0x0416
def NVS.HIST_SEL_ENTRY : Field := ⟨NVS.HIST_SEL, 5, 4⟩
def NVS.HIST_SEL_WORD : Field := ⟨NVS.HIST_SEL, 2, 0⟩
def NVS.HIST_DATA : Nat := 0x0417
def NVS.FLOG_SEL : Nat := 0x0418
def NVS.FLOG_SEL_UNSTORED : Field := ⟨NVS.FLOG_SEL, 15, 8⟩
def NVS.FLOG_SEL_ENTRY : Field := ⟨NVS.FLOG_SEL, 7, 0⟩
def NVS.FLOG_DATA (i : Nat) : Nat := 0x0419 + i
def NVS.PAGE_BUF (i : Nat) : Nat := 0x0420 + i
def NVS.rows0 : List RegDef := [
  ⟨0x00, 1, 1, [⟨15, 15, .sc, 0, false⟩, ⟨14, 14, .sc, 0, false⟩, ⟨13, 13, .sc, 0, false⟩, ⟨12, 12, .sc, 0, false⟩, ⟨11, 10, .rw, 0, false⟩, ⟨9, 9, .sc, 0, false⟩]⟩,
  ⟨0x01, 1, 1, [⟨15, 15, .ro, 0, false⟩, ⟨14, 14, .ro, 0, false⟩, ⟨13, 13, .ro, 0, false⟩, ⟨12, 12, .ro, 0, false⟩, ⟨11, 11, .ro, 0, false⟩, ⟨10, 10, .ro, 0, false⟩, ⟨9, 9, .ro, 0, false⟩, ⟨7, 0, .ro, 0, false⟩]⟩,
  ⟨0x02, 1, 1, [⟨15, 15, .w1c, 0, false⟩, ⟨14, 14, .w1c, 0, false⟩, ⟨13, 13, .w1c, 0, false⟩, ⟨12, 12, .w1c, 0, false⟩, ⟨11, 11, .w1c, 0, false⟩, ⟨10, 10, .w1c, 0, false⟩, ⟨9, 9, .w1c, 0, false⟩, ⟨8, 8, .w1c, 0, false⟩, ⟨7, 7, .w1c, 0, false⟩]⟩,
  ⟨0x03, 1, 1, [⟨15, 14, .wo, 0, true⟩, ⟨13, 13, .ro, 0, false⟩]⟩,
  ⟨0x04, 1, 1, [⟨15, 15, .rw, 0, false⟩, ⟨7, 0, .rw, 0, false⟩]⟩,
  ⟨0x05, 1, 1, [⟨2, 0, .ro, 0, false⟩]⟩,
  ⟨0x06, 1, 1, [⟨15, 0, .ro, 0, false⟩]⟩,
  ⟨0x07, 1, 1, [⟨7, 0, .ro, 0, false⟩]⟩,
  ⟨0x08, 1, 1, [⟨15, 8, .ro, 0, false⟩, ⟨7, 0, .ro, 0, false⟩]⟩,
  ⟨0x09, 1, 1, [⟨15, 0, .ro, 168, false⟩]⟩,
  ⟨0x0A, 1, 1, [⟨15, 0, .cnt, 0, false⟩]⟩,
  ⟨0x0B, 1, 1, [⟨15, 0, .cnt, 0, false⟩]⟩,
  ⟨0x0C, 1, 1, [⟨15, 0, .cnt, 0, false⟩]⟩,
  ⟨0x0D, 1, 1, [⟨15, 0, .cnt, 0, false⟩]⟩,
  ⟨0x0E, 1, 1, [⟨3, 0, .rw, 0, false⟩]⟩,
  ⟨0x0F, 1, 1, [⟨15, 0, .ro, 0, false⟩]⟩,
  ⟨0x10, 1, 1, [⟨15, 0, .ro, 0, false⟩]⟩,
  ⟨0x11, 1, 1, [⟨15, 0, .ro, 0, false⟩]⟩,
  ⟨0x12, 1, 1, [⟨15, 8, .rw, 0, false⟩, ⟨7, 5, .rw, 0, false⟩, ⟨4, 4, .rw, 0, false⟩, ⟨3, 3, .rw, 0, false⟩, ⟨2, 2, .sc, 0, false⟩]⟩,
  ⟨0x13, 1, 1, [⟨15, 0, .rw, 0, false⟩]⟩,
  ⟨0x14, 1, 1, [⟨15, 8, .rw, 0, false⟩, ⟨7, 5, .rw, 0, false⟩, ⟨4, 4, .rw, 0, false⟩, ⟨3, 3, .rw, 0, false⟩, ⟨2, 2, .sc, 0, false⟩]⟩,
  ⟨0x15, 1, 1, [⟨15, 0, .rw, 0, false⟩]⟩,
  ⟨0x16, 1, 1, [⟨5, 4, .rw, 0, false⟩, ⟨2, 0, .rw, 0, false⟩]⟩,
  ⟨0x17, 1, 1, [⟨15, 0, .ro, 0, false⟩]⟩,
  ⟨0x18, 1, 1, [⟨15, 8, .ro, 0, false⟩, ⟨7, 0, .rw, 0, false⟩]⟩,
  ⟨0x19, 7, 1, [⟨15, 0, .ro, 0, false⟩]⟩,
  ⟨0x20, 64, 1, [⟨15, 0, .rw, 0, false⟩]⟩]
def NVS.rows : List RegDef := NVS.rows0

/-! ### MEM: base 0x0500, 1 instance(s), stride 0x30 -/
def MEM.MEM_CTRL : Nat := 0x0500
def MEM.MEM_CTRL_CNT_CLR : Field := ⟨MEM.MEM_CTRL, 15, 15⟩
def MEM.MEM_STAT : Nat := 0x0501
def MEM.MEM_STAT_SECURE_OK : Field := ⟨MEM.MEM_STAT, 12, 12⟩
def MEM.MEM_STAT_SEQ_OK : Field := ⟨MEM.MEM_STAT, 11, 8⟩
def MEM.MEM_STAT_RING_OK : Field := ⟨MEM.MEM_STAT, 7, 0⟩
def MEM.MEM_EVT : Nat := 0x0502
def MEM.MEM_EVT_REPAIR : Field := ⟨MEM.MEM_EVT, 15, 15⟩
def MEM.MEM_EVT_UNCORR : Field := ⟨MEM.MEM_EVT, 14, 14⟩
def MEM.MEM_EVT_NO_SPARE : Field := ⟨MEM.MEM_EVT, 13, 13⟩
def MEM.MEM_EVT_WIPED : Field := ⟨MEM.MEM_EVT, 12, 12⟩
def MEM.MEM_EVT_CLEAR_REFUSED : Field := ⟨MEM.MEM_EVT, 11, 11⟩
def MEM.MEM_EVT_WRITE_LOST : Field := ⟨MEM.MEM_EVT, 10, 10⟩
def MEM.RING_CAP : Nat := 0x0503
def MEM.WIPE_CTRL : Nat := 0x0504
def MEM.WIPE_CTRL_WIPE : Field := ⟨MEM.WIPE_CTRL, 15, 15⟩
def MEM.WIPE_STAT : Nat := 0x0505
def MEM.WIPE_STAT_CAUSE : Field := ⟨MEM.WIPE_STAT, 15, 13⟩
def MEM.SPARE (i : Nat) : Nat := 0x0506 + i
def MEM.SPARE_FACTORY_USED (i : Nat) : Field := ⟨MEM.SPARE i, 15, 12⟩
def MEM.SPARE_SOFT_USED (i : Nat) : Field := ⟨MEM.SPARE i, 11, 8⟩
def MEM.SPARE_LEFT (i : Nat) : Field := ⟨MEM.SPARE i, 3, 0⟩
def MEM.ECC_CORR_CNT : Nat := 0x0513
def MEM.ECC_UNCORR_CNT : Nat := 0x0514
def MEM.REPAIR_CNT : Nat := 0x0515
def MEM.VOTE_REPAIR : Nat := 0x0516
def MEM.STALL_CNT : Nat := 0x0517
def MEM.EVT_CLASS22 : Nat := 0x0518
def MEM.EVT_CLASS22_THRESH_N : Field := ⟨MEM.EVT_CLASS22, 15, 8⟩
def MEM.EVT_CLASS22_ROUTE : Field := ⟨MEM.EVT_CLASS22, 7, 5⟩
def MEM.EVT_CLASS22_REACT : Field := ⟨MEM.EVT_CLASS22, 4, 4⟩
def MEM.EVT_CLASS22_INJ_REACT : Field := ⟨MEM.EVT_CLASS22, 3, 3⟩
def MEM.EVT_CLASS22_FORCE : Field := ⟨MEM.EVT_CLASS22, 2, 2⟩
def MEM.EVT_WINDOW22 : Nat := 0x0519
def MEM.EVT_CLASS23 : Nat := 0x051A
def MEM.EVT_CLASS23_THRESH_N : Field := ⟨MEM.EVT_CLASS23, 15, 8⟩
def MEM.EVT_CLASS23_ROUTE : Field := ⟨MEM.EVT_CLASS23, 7, 5⟩
def MEM.EVT_CLASS23_REACT : Field := ⟨MEM.EVT_CLASS23, 4, 4⟩
def MEM.EVT_CLASS23_INJ_REACT : Field := ⟨MEM.EVT_CLASS23, 3, 3⟩
def MEM.EVT_CLASS23_FORCE : Field := ⟨MEM.EVT_CLASS23, 2, 2⟩
def MEM.EVT_WINDOW23 : Nat := 0x051B
def MEM.HIST_SEL : Nat := 0x051C
def MEM.HIST_SEL_ENTRY : Field := ⟨MEM.HIST_SEL, 5, 4⟩
def MEM.HIST_SEL_WORD : Field := ⟨MEM.HIST_SEL, 2, 0⟩
def MEM.HIST_DATA : Nat := 0x051D
def MEM.UNCORR_ADDR : Nat := 0x051E
def MEM.RING_SHARE (i : Nat) : Nat := 0x0520 + i
def MEM.RING_SHARE_SHARE (i : Nat) : Field := ⟨MEM.RING_SHARE i, 6, 0⟩
def MEM.PM_MODE : Nat := 0x0528
def MEM.PM_MODE_EXPLICIT : Field := ⟨MEM.PM_MODE, 15, 15⟩
def MEM.PM_REQ : Nat := 0x0529
def MEM.PM_STAT0 : Nat := 0x052B
def MEM.PM_STAT1 : Nat := 0x052C
def MEM.PM_STAT1_COMPAT_IGN : Field := ⟨MEM.PM_STAT1, 15, 15⟩
def MEM.PM_STAT1_ACT : Field := ⟨MEM.PM_STAT1, 7, 0⟩
def MEM.SEC_STAT : Nat := 0x052D
def MEM.SEC_STAT_SHADOW_OK : Field := ⟨MEM.SEC_STAT, 15, 15⟩
def MEM.SEC_STAT_UNSEAL_KEY : Field := ⟨MEM.SEC_STAT, 14, 14⟩
def MEM.SEC_STAT_SLOTS : Field := ⟨MEM.SEC_STAT, 4, 0⟩
def MEM.STALL_MAX : Nat := 0x052E
def MEM.STALL_MAX_STALL_MAX : Field := ⟨MEM.STALL_MAX, 7, 0⟩
def MEM.SCRUB_STAT : Nat := 0x052F
def MEM.rows0 : List RegDef := [
  ⟨0x00, 1, 1, [⟨15, 15, .sc, 0, false⟩]⟩,
  ⟨0x01, 1, 1, [⟨12, 12, .ro, 0, false⟩, ⟨11, 8, .ro, 0, false⟩, ⟨7, 0, .ro, 0, false⟩]⟩,
  ⟨0x02, 1, 1, [⟨15, 15, .w1c, 0, false⟩, ⟨14, 14, .w1c, 0, false⟩, ⟨13, 13, .w1c, 0, false⟩, ⟨12, 12, .w1c, 0, false⟩, ⟨11, 11, .w1c, 0, false⟩, ⟨10, 10, .w1c, 0, false⟩]⟩,
  ⟨0x03, 1, 1, [⟨15, 0, .ro, 32768, false⟩]⟩,
  ⟨0x04, 1, 1, [⟨15, 15, .sc, 0, false⟩]⟩,
  ⟨0x05, 1, 1, [⟨15, 13, .ro, 0, false⟩]⟩,
  ⟨0x06, 13, 1, [⟨15, 12, .ro, 0, false⟩, ⟨11, 8, .ro, 0, false⟩, ⟨3, 0, .ro, 0, false⟩]⟩,
  ⟨0x13, 1, 1, [⟨15, 0, .cnt, 0, false⟩]⟩,
  ⟨0x14, 1, 1, [⟨15, 0, .cnt, 0, false⟩]⟩,
  ⟨0x15, 1, 1, [⟨15, 0, .cnt, 0, false⟩]⟩,
  ⟨0x16, 1, 1, [⟨15, 0, .cnt, 0, false⟩]⟩,
  ⟨0x17, 1, 1, [⟨15, 0, .cnt, 0, false⟩]⟩,
  ⟨0x18, 1, 1, [⟨15, 8, .rw, 0, false⟩, ⟨7, 5, .rw, 0, false⟩, ⟨4, 4, .rw, 0, false⟩, ⟨3, 3, .rw, 0, false⟩, ⟨2, 2, .sc, 0, false⟩]⟩,
  ⟨0x19, 1, 1, [⟨15, 0, .rw, 0, false⟩]⟩,
  ⟨0x1A, 1, 1, [⟨15, 8, .rw, 0, false⟩, ⟨7, 5, .rw, 0, false⟩, ⟨4, 4, .rw, 0, false⟩, ⟨3, 3, .rw, 0, false⟩, ⟨2, 2, .sc, 0, false⟩]⟩,
  ⟨0x1B, 1, 1, [⟨15, 0, .rw, 0, false⟩]⟩,
  ⟨0x1C, 1, 1, [⟨5, 4, .rw, 0, false⟩, ⟨2, 0, .rw, 0, false⟩]⟩,
  ⟨0x1D, 1, 1, [⟨15, 0, .ro, 0, false⟩]⟩,
  ⟨0x1E, 1, 1, [⟨15, 0, .ro, 0, false⟩]⟩,
  ⟨0x1F, 1, 1, [⟨15, 0, .ro, 0, false⟩]⟩,
  ⟨0x20, 8, 1, [⟨6, 0, .ro, 0, false⟩]⟩,
  ⟨0x28, 1, 1, [⟨15, 15, .rw, 0, false⟩]⟩,
  ⟨0x29, 1, 1, [⟨15, 0, .rw, 0, false⟩]⟩,
  ⟨0x2A, 1, 1, [⟨7, 0, .rw, 0, false⟩]⟩,
  ⟨0x2B, 1, 1, [⟨15, 0, .ro, 0, false⟩]⟩,
  ⟨0x2C, 1, 1, [⟨15, 15, .w1c, 0, false⟩, ⟨7, 0, .ro, 0, false⟩]⟩,
  ⟨0x2D, 1, 1, [⟨15, 15, .ro, 0, false⟩, ⟨14, 14, .ro, 0, false⟩, ⟨4, 0, .ro, 0, false⟩]⟩,
  ⟨0x2E, 1, 1, [⟨7, 0, .ro, 0, false⟩]⟩,
  ⟨0x2F, 1, 1, [⟨15, 0, .ro, 0, false⟩]⟩]
def MEM.rows : List RegDef := MEM.rows0

/-! ### BIST: base 0x0600, 1 instance(s), stride 0x60 -/
def BIST.BIST_CTRL : Nat := 0x0600
def BIST.BIST_CTRL_RUN : Field := ⟨BIST.BIST_CTRL, 15, 15⟩
def BIST.BIST_CTRL_ABORT : Field := ⟨BIST.BIST_CTRL, 14, 14⟩
def BIST.BIST_CTRL_CNT_CLR : Field := ⟨BIST.BIST_CTRL, 13, 13⟩
def BIST.BIST_CTRL_UNIT : Field := ⟨BIST.BIST_CTRL, 6, 0⟩
def BIST.BIST_STAT : Nat := 0x0601
def BIST.BIST_STAT_STARTUP_DONE : Field := ⟨BIST.BIST_STAT, 15, 15⟩
def BIST.BIST_STAT_QUEUED : Field := ⟨BIST.BIST_STAT, 14, 14⟩
def BIST.ACTIVE : Nat := 0x0602
def BIST.ACTIVE_A_VALID : Field := ⟨BIST.ACTIVE, 15, 15⟩
def BIST.ACTIVE_UNIT_A : Field := ⟨BIST.ACTIVE, 14, 8⟩
def BIST.ACTIVE_B_VALID : Field := ⟨BIST.ACTIVE, 7, 7⟩
def BIST.ACTIVE_UNIT_B : Field := ⟨BIST.ACTIVE, 6, 0⟩
def BIST.RES_SEL : Nat := 0x0603
def BIST.RES_SEL_UNIT : Field := ⟨BIST.RES_SEL, 6, 0⟩
def BIST.RES0 : Nat := 0x0604
def BIST.RES0_VERDICT : Field := ⟨BIST.RES0, 15, 13⟩
def BIST.RES0_ORIGIN : Field := ⟨BIST.RES0, 12, 11⟩
def BIST.RES0_UNUSABLE : Field := ⟨BIST.RES0, 10, 10⟩
def BIST.RES0_REPAIRED : Field := ⟨BIST.RES0, 9, 9⟩
def BIST.RES0_COVERAGE : Field := ⟨BIST.RES0, 7, 0⟩
def BIST.RES1 : Nat := 0x0605
def BIST.RES_APPLIED : Nat := 0x0606
def BIST.RES_EXPECTED : Nat := 0x0608
def BIST.RES6 : Nat := 0x060A
def BIST.RES6_SIG_MATCH : Field := ⟨BIST.RES6, 15, 15⟩
def BIST.RES6_COUNT_OK : Field := ⟨BIST.RES6, 14, 14⟩
def BIST.RES6_COMPLETED : Field := ⟨BIST.RES6, 13, 13⟩
def BIST.UNUSABLE (i : Nat) : Nat := 0x060B + i
def BIST.BG_CTRL : Nat := 0x060E
def BIST.BG_CTRL_EN : Field := ⟨BIST.BG_CTRL, 15, 15⟩
def BIST.BG_CTRL_PERIOD_H : Field := ⟨BIST.BG_CTRL, 11, 0⟩
def BIST.BG_MASK (i : Nat) : Nat := 0x060F + i
def BIST.BG_LOCK : Nat := 0x0612
def BIST.BG_LOCK_LOCKED : Field := ⟨BIST.BG_LOCK, 15, 15⟩
def BIST.BG_STAT : Nat := 0x0613
def BIST.PASS_CNT : Nat := 0x0614
def BIST.FAIL_CNT : Nat := 0x0615
def BIST.ABORT_CNT : Nat := 0x0616
def BIST.INCOMPL_CNT : Nat := 0x0617
def BIST.BG_SKIP_CNT : Nat := 0x0618
def BIST.VOTE_REPAIR : Nat := 0x0619
def BIST.EVT_CLASS26 : Nat := 0x061A
def BIST.EVT_CLASS26_THRESH_N : Field := ⟨BIST.EVT_CLASS26, 15, 8⟩
def BIST.EVT_CLASS26_ROUTE : Field := ⟨BIST.EVT_CLASS26, 7, 5⟩
def BIST.EVT_CLASS26_REACT : Field := ⟨BIST.EVT_CLASS26, 4, 4⟩
def BIST.EVT_CLASS26_INJ_REACT : Field := ⟨BIST.EVT_CLASS26, 3, 3⟩
def BIST.EVT_CLASS26_FORCE : Field := ⟨BIST.EVT_CLASS26, 2, 2⟩
def BIST.EVT_WINDOW26 : Nat := 0x061B
def BIST.EVT_CLASS27 : Nat := 0x061C
def BIST.EVT_CLASS27_THRESH_N : Field := ⟨BIST.EVT_CLASS27, 15, 8⟩
def BIST.EVT_CLASS27_ROUTE : Field := ⟨BIST.EVT_CLASS27, 7, 5⟩
def BIST.EVT_CLASS27_REACT : Field := ⟨BIST.EVT_CLASS27, 4, 4⟩
def BIST.EVT_CLASS27_INJ_REACT : Field := ⟨BIST.EVT_CLASS27, 3, 3⟩
def BIST.EVT_CLASS27_FORCE : Field := ⟨BIST.EVT_CLASS27, 2, 2⟩
def BIST.EVT_WINDOW27 : Nat := 0x061D
def BIST.HIST_SEL : Nat := 0x061E
def BIST.HIST_SEL_ENTRY : Field := ⟨BIST.HIST_SEL, 5, 4⟩
def BIST.HIST_SEL_WORD : Field := ⟨BIST.HIST_SEL, 2, 0⟩
def BIST.HIST_DATA : Nat := 0x061F
def BIST.BIST_EVT : Nat := 0x0620
def BIST.BIST_EVT_DONE : Field := ⟨BIST.BIST_EVT, 15, 15⟩
def BIST.BIST_EVT_FAIL : Field := ⟨BIST.BIST_EVT, 14, 14⟩
def BIST.BIST_EVT_INCOMPLETE : Field := ⟨BIST.BIST_EVT, 13, 13⟩
def BIST.BIST_EVT_ABORTED : Field := ⟨BIST.BIST_EVT, 12, 12⟩
def BIST.BIST_EVT_REFUSED : Field := ⟨BIST.BIST_EVT, 11, 11⟩
def BIST.BIST_EVT_CLEAR_REFUSED : Field := ⟨BIST.BIST_EVT, 10, 10⟩
def BIST.BIST_EVT_WRITE_LOST : Field := ⟨BIST.BIST_EVT, 9, 9⟩
def BIST.STARTUP_TIME : Nat := 0x0621
def BIST.FACTORY (i : Nat) : Nat := 0x0623 + i
def BIST.UNIT_INFO (i : Nat) : Nat := 0x0630 + i
def BIST.UNIT_INFO_VERDICT (i : Nat) : Field := ⟨BIST.UNIT_INFO i, 15, 13⟩
def BIST.UNIT_INFO_UNUSABLE (i : Nat) : Field := ⟨BIST.UNIT_INFO i, 12, 12⟩
def BIST.UNIT_INFO_SVC_FAIL (i : Nat) : Field := ⟨BIST.UNIT_INFO i, 11, 11⟩
def BIST.UNIT_INFO_REACHABLE (i : Nat) : Field := ⟨BIST.UNIT_INFO i, 10, 10⟩
def BIST.UNIT_INFO_COVERAGE (i : Nat) : Field := ⟨BIST.UNIT_INFO i, 7, 0⟩
def BIST.rows0 : List RegDef := [
  ⟨0x00, 1, 1, [⟨15, 15, .sc, 0, false⟩, ⟨14, 14, .sc, 0, false⟩, ⟨13, 13, .sc, 0, false⟩, ⟨6, 0, .rw, 0, false⟩]⟩,
  ⟨0x01, 1, 1, [⟨15, 15, .ro, 0, false⟩, ⟨14, 14, .ro, 0, false⟩]⟩,
  ⟨0x02, 1, 1, [⟨15, 15, .ro, 0, false⟩, ⟨14, 8, .ro, 0, false⟩, ⟨7, 7, .ro, 0, false⟩, ⟨6, 0, .ro, 0, false⟩]⟩,
  ⟨0x03, 1, 1, [⟨6, 0, .rw, 0, false⟩]⟩,
  ⟨0x04, 1, 1, [⟨15, 13, .ro, 0, false⟩, ⟨12, 11, .ro, 0, false⟩, ⟨10, 10, .ro, 0, false⟩, ⟨9, 9, .ro, 0, false⟩, ⟨7, 0, .ro, 0, false⟩]⟩,
  ⟨0x05, 1, 1, [⟨15, 0, .ro, 0, false⟩]⟩,
  ⟨0x06, 1, 1, [⟨15, 0, .ro, 0, false⟩]⟩,
  ⟨0x07, 1, 1, [⟨15, 0, .ro, 0, false⟩]⟩,
  ⟨0x08, 1, 1, [⟨15, 0, .ro, 0, false⟩]⟩,
  ⟨0x09, 1, 1, [⟨15, 0, .ro, 0, false⟩]⟩,
  ⟨0x0A, 1, 1, [⟨15, 15, .ro, 0, false⟩, ⟨14, 14, .ro, 0, false⟩, ⟨13, 13, .ro, 0, false⟩]⟩,
  ⟨0x0B, 3, 1, [⟨15, 0, .ro, 0, false⟩]⟩,
  ⟨0x0E, 1, 1, [⟨15, 15, .lk, 0, false⟩, ⟨11, 0, .lk, 168, false⟩]⟩,
  ⟨0x0F, 3, 1, [⟨15, 0, .lk, 0, false⟩]⟩,
  ⟨0x12, 1, 1, [⟨15, 15, .ro, 0, false⟩]⟩,
  ⟨0x13, 1, 1, [⟨15, 0, .ro, 168, false⟩]⟩,
  ⟨0x14, 1, 1, [⟨15, 0, .cnt, 0, false⟩]⟩,
  ⟨0x15, 1, 1, [⟨15, 0, .cnt, 0, false⟩]⟩,
  ⟨0x16, 1, 1, [⟨15, 0, .cnt, 0, false⟩]⟩,
  ⟨0x17, 1, 1, [⟨15, 0, .cnt, 0, false⟩]⟩,
  ⟨0x18, 1, 1, [⟨15, 0, .cnt, 0, false⟩]⟩,
  ⟨0x19, 1, 1, [⟨15, 0, .cnt, 0, false⟩]⟩,
  ⟨0x1A, 1, 1, [⟨15, 8, .rw, 0, false⟩, ⟨7, 5, .rw, 0, false⟩, ⟨4, 4, .rw, 0, false⟩, ⟨3, 3, .rw, 0, false⟩, ⟨2, 2, .sc, 0, false⟩]⟩,
  ⟨0x1B, 1, 1, [⟨15, 0, .rw, 0, false⟩]⟩,
  ⟨0x1C, 1, 1, [⟨15, 8, .rw, 0, false⟩, ⟨7, 5, .rw, 0, false⟩, ⟨4, 4, .rw, 0, false⟩, ⟨3, 3, .rw, 0, false⟩, ⟨2, 2, .sc, 0, false⟩]⟩,
  ⟨0x1D, 1, 1, [⟨15, 0, .rw, 0, false⟩]⟩,
  ⟨0x1E, 1, 1, [⟨5, 4, .rw, 0, false⟩, ⟨2, 0, .rw, 0, false⟩]⟩,
  ⟨0x1F, 1, 1, [⟨15, 0, .ro, 0, false⟩]⟩,
  ⟨0x20, 1, 1, [⟨15, 15, .w1c, 0, false⟩, ⟨14, 14, .w1c, 0, false⟩, ⟨13, 13, .w1c, 0, false⟩, ⟨12, 12, .w1c, 0, false⟩, ⟨11, 11, .w1c, 0, false⟩, ⟨10, 10, .w1c, 0, false⟩, ⟨9, 9, .w1c, 0, false⟩]⟩,
  ⟨0x21, 1, 1, [⟨15, 0, .ro, 0, false⟩]⟩,
  ⟨0x22, 1, 1, [⟨15, 0, .ro, 0, false⟩]⟩,
  ⟨0x23, 13, 1, [⟨15, 0, .ro, 0, false⟩]⟩,
  ⟨0x30, 48, 1, [⟨15, 13, .ro, 0, false⟩, ⟨12, 12, .ro, 0, false⟩, ⟨11, 11, .ro, 0, false⟩, ⟨10, 10, .ro, 0, false⟩, ⟨7, 0, .ro, 0, false⟩]⟩]
def BIST.rows : List RegDef := BIST.rows0

/-! ### LOA: base 0x0700, 1 instance(s), stride 0x80 -/
def LOA.OVEN_CTRL : Nat := 0x0700
def LOA.OVEN_CTRL_EN : Field := ⟨LOA.OVEN_CTRL, 15, 15⟩
def LOA.OVEN_CTRL_WU_LIM : Field := ⟨LOA.OVEN_CTRL, 11, 8⟩
def LOA.OVEN_STAT : Nat := 0x0701
def LOA.OVEN_STAT_STATE : Field := ⟨LOA.OVEN_STAT, 15, 14⟩
def LOA.OVEN_STAT_AT_TEMP : Field := ⟨LOA.OVEN_STAT, 13, 13⟩
def LOA.OVEN_STAT_HEATER_SAT : Field := ⟨LOA.OVEN_STAT, 12, 12⟩
def LOA.T_RES : Nat := 0x0702
def LOA.T_OVEN : Nat := 0x0703
def LOA.T_CASE : Nat := 0x0704
def LOA.OVEN_PWR : Nat := 0x0705
def LOA.COMP_CTRL : Nat := 0x0706
def LOA.COMP_CTRL_COMP_EN : Field := ⟨LOA.COMP_CTRL, 15, 15⟩
def LOA.COMP_CTRL_G_EN : Field := ⟨LOA.COMP_CTRL, 14, 14⟩
def LOA.COMP_CTRL_LEARN_EN : Field := ⟨LOA.COMP_CTRL, 13, 13⟩
def LOA.COMP_CTRL_G_LEARN_EN : Field := ⟨LOA.COMP_CTRL, 12, 12⟩
def LOA.COMP_CTRL_LEARN_DOM : Field := ⟨LOA.COMP_CTRL, 11, 9⟩
def LOA.COMP_CTRL_APPLY_STAGED : Field := ⟨LOA.COMP_CTRL, 8, 8⟩
def LOA.COMP_CTRL_LOAD_FACTORY : Field := ⟨LOA.COMP_CTRL, 7, 7⟩
def LOA.COMP_CTRL_CNT_CLR : Field := ⟨LOA.COMP_CTRL, 6, 6⟩
def LOA.MODEL_STAT : Nat := 0x0707
def LOA.MODEL_STAT_HO_VALID : Field := ⟨LOA.MODEL_STAT, 15, 15⟩
def LOA.MODEL_STAT_ACC_OK : Field := ⟨LOA.MODEL_STAT, 14, 14⟩
def LOA.MODEL_STAT_LEARNING : Field := ⟨LOA.MODEL_STAT, 13, 13⟩
def LOA.MODEL_STAT_RAMPING : Field := ⟨LOA.MODEL_STAT, 12, 12⟩
def LOA.MODEL_STAT_SRC_DOM : Field := ⟨LOA.MODEL_STAT, 11, 9⟩
def LOA.HV_CFG : Nat := 0x0708
def LOA.HV_CFG_HV_HOURS : Field := ⟨LOA.HV_CFG, 15, 8⟩
def LOA.HV_CFG_HV_RESID : Field := ⟨LOA.HV_CFG, 7, 0⟩
def LOA.MODEL_ERR : Nat := 0x0709
def LOA.ACC (i : Nat) : Nat := 0x070C + i
def LOA.AGE_DAYS : Nat := 0x070F
def LOA.RESID_RMS : Nat := 0x0710
def LOA.LOA_EVT : Nat := 0x0711
def LOA.LOA_EVT_OVEN_LEFT : Field := ⟨LOA.LOA_EVT, 15, 15⟩
def LOA.LOA_EVT_ACC_FAULT : Field := ⟨LOA.LOA_EVT, 14, 14⟩
def LOA.LOA_EVT_MODEL_UPD : Field := ⟨LOA.LOA_EVT, 13, 13⟩
def LOA.LOA_EVT_HO_EXP : Field := ⟨LOA.LOA_EVT, 12, 12⟩
def LOA.LOA_EVT_CLEAR_REFUSED : Field := ⟨LOA.LOA_EVT, 11, 11⟩
def LOA.LOA_EVT_WRITE_LOST : Field := ⟨LOA.LOA_EVT, 10, 10⟩
def LOA.HO_SUM : Nat := 0x0712
def LOA.HO_SUM_EXPIRED : Field := ⟨LOA.HO_SUM, 5, 0⟩
def LOA.MODEL_UPD_CNT : Nat := 0x0713
def LOA.ACC_FAULT_CNT : Nat := 0x0714
def LOA.VOTE_REPAIR : Nat := 0x0715
def LOA.HIST_SEL : Nat := 0x0716
def LOA.HIST_SEL_ENTRY : Field := ⟨LOA.HIST_SEL, 5, 4⟩
def LOA.HIST_SEL_WORD : Field := ⟨LOA.HIST_SEL, 2, 0⟩
def LOA.HIST_DATA : Nat := 0x0717
def LOA.EVT_CLASS16 : Nat := 0x0718
def LOA.EVT_CLASS16_THRESH_N : Field := ⟨LOA.EVT_CLASS16, 15, 8⟩
def LOA.EVT_CLASS16_ROUTE : Field := ⟨LOA.EVT_CLASS16, 7, 5⟩
def LOA.EVT_CLASS16_REACT : Field := ⟨LOA.EVT_CLASS16, 4, 4⟩
def LOA.EVT_CLASS16_INJ_REACT : Field := ⟨LOA.EVT_CLASS16, 3, 3⟩
def LOA.EVT_CLASS16_FORCE : Field := ⟨LOA.EVT_CLASS16, 2, 2⟩
def LOA.EVT_WINDOW16 : Nat := 0x0719
def LOA.EVT_CLASS17 : Nat := 0x071A
def LOA.EVT_CLASS17_THRESH_N : Field := ⟨LOA.EVT_CLASS17, 15, 8⟩
def LOA.EVT_CLASS17_ROUTE : Field := ⟨LOA.EVT_CLASS17, 7, 5⟩
def LOA.EVT_CLASS17_REACT : Field := ⟨LOA.EVT_CLASS17, 4, 4⟩
def LOA.EVT_CLASS17_INJ_REACT : Field := ⟨LOA.EVT_CLASS17, 3, 3⟩
def LOA.EVT_CLASS17_FORCE : Field := ⟨LOA.EVT_CLASS17, 2, 2⟩
def LOA.EVT_WINDOW17 : Nat := 0x071B
def LOA.EVT_CLASS18 : Nat := 0x071C
def LOA.EVT_CLASS18_THRESH_N : Field := ⟨LOA.EVT_CLASS18, 15, 8⟩
def LOA.EVT_CLASS18_ROUTE : Field := ⟨LOA.EVT_CLASS18, 7, 5⟩
def LOA.EVT_CLASS18_REACT : Field := ⟨LOA.EVT_CLASS18, 4, 4⟩
def LOA.EVT_CLASS18_INJ_REACT : Field := ⟨LOA.EVT_CLASS18, 3, 3⟩
def LOA.EVT_CLASS18_FORCE : Field := ⟨LOA.EVT_CLASS18, 2, 2⟩
def LOA.EVT_WINDOW18 : Nat := 0x071D
def LOA.EVT_CLASS19 : Nat := 0x071E
def LOA.EVT_CLASS19_THRESH_N : Field := ⟨LOA.EVT_CLASS19, 15, 8⟩
def LOA.EVT_CLASS19_ROUTE : Field := ⟨LOA.EVT_CLASS19, 7, 5⟩
def LOA.EVT_CLASS19_REACT : Field := ⟨LOA.EVT_CLASS19, 4, 4⟩
def LOA.EVT_CLASS19_INJ_REACT : Field := ⟨LOA.EVT_CLASS19, 3, 3⟩
def LOA.EVT_CLASS19_FORCE : Field := ⟨LOA.EVT_CLASS19, 2, 2⟩
def LOA.EVT_WINDOW19 : Nat := 0x071F
def LOA.BANK_F0 (i : Nat) : Nat := 0x0720 + 32 * i
def LOA.BANK_AGE_LIN (i : Nat) : Nat := 0x0723 + 32 * i
def LOA.BANK_AGE_LOG (i : Nat) : Nat := 0x0725 + 32 * i
def LOA.BANK_AGE_TAU (i : Nat) : Nat := 0x0727 + 32 * i
def LOA.BANK_C1 (i : Nat) : Nat := 0x0728 + 32 * i
def LOA.BANK_C2 (i : Nat) : Nat := 0x072A + 32 * i
def LOA.BANK_C3 (i : Nat) : Nat := 0x072C + 32 * i
def LOA.BANK_D1 (i : Nat) : Nat := 0x072E + 32 * i
def LOA.BANK_T_REF (i : Nat) : Nat := 0x0730 + 32 * i
def LOA.BANK_T_CASE_REF (i : Nat) : Nat := 0x0731 + 32 * i
def LOA.BANK_GX (i : Nat) : Nat := 0x0732 + 32 * i
def LOA.BANK_GY (i : Nat) : Nat := 0x0734 + 32 * i
def LOA.BANK_GZ (i : Nat) : Nat := 0x0736 + 32 * i
def LOA.BANK_AGE_T0 (i : Nat) : Nat := 0x0738 + 32 * i
def LOA.BANK_SIG_A (i : Nat) : Nat := 0x073A + 32 * i
def LOA.BANK_SIG_T (i : Nat) : Nat := 0x073B + 32 * i
def LOA.BANK_SIG_F (i : Nat) : Nat := 0x073C + 32 * i
def LOA.BANK_LEARN_HOURS (i : Nat) : Nat := 0x073D + 32 * i
def LOA.BANK_SEQ (i : Nat) : Nat := 0x073E + 32 * i
def LOA.BANK_STAT (i : Nat) : Nat := 0x073F + 32 * i
def LOA.BANK_STAT_VALID (i : Nat) : Field := ⟨LOA.BANK_STAT i, 15, 15⟩
def LOA.rows0 : List RegDef := [
  ⟨0x00, 1, 1, [⟨15, 15, .rw, 1, true⟩, ⟨11, 8, .rw, 14, false⟩]⟩,
  ⟨0x01, 1, 1, [⟨15, 14, .ro, 0, false⟩, ⟨13, 13, .ro, 0, false⟩, ⟨12, 12, .ro, 0, false⟩]⟩,
  ⟨0x02, 1, 1, [⟨15, 0, .ro, 0, false⟩]⟩,
  ⟨0x03, 1, 1, [⟨15, 0, .ro, 0, false⟩]⟩,
  ⟨0x04, 1, 1, [⟨15, 0, .ro, 0, false⟩]⟩,
  ⟨0x05, 1, 1, [⟨15, 0, .ro, 0, false⟩]⟩,
  ⟨0x06, 1, 1, [⟨15, 15, .rw, 1, true⟩, ⟨14, 14, .rw, 1, true⟩, ⟨13, 13, .rw, 1, false⟩, ⟨12, 12, .rw, 1, false⟩, ⟨11, 9, .rw, 7, false⟩, ⟨8, 8, .sc, 0, false⟩, ⟨7, 7, .sc, 0, false⟩, ⟨6, 6, .sc, 0, false⟩]⟩,
  ⟨0x07, 1, 1, [⟨15, 15, .ro, 0, false⟩, ⟨14, 14, .ro, 0, false⟩, ⟨13, 13, .ro, 0, false⟩, ⟨12, 12, .ro, 0, false⟩, ⟨11, 9, .ro, 7, false⟩]⟩,
  ⟨0x08, 1, 1, [⟨15, 8, .rw, 24, false⟩, ⟨7, 0, .rw, 20, false⟩]⟩,
  ⟨0x09, 1, 1, [⟨15, 0, .ro, 0, false⟩]⟩,
  ⟨0x0A, 1, 1, [⟨15, 0, .ro, 0, false⟩]⟩,
  ⟨0x0B, 1, 1, [⟨7, 0, .ro, 0, false⟩]⟩,
  ⟨0x0C, 3, 1, [⟨15, 0, .ro, 0, false⟩]⟩,
  ⟨0x0F, 1, 1, [⟨15, 0, .ro, 0, false⟩]⟩,
  ⟨0x10, 1, 1, [⟨15, 0, .ro, 0, false⟩]⟩,
  ⟨0x11, 1, 1, [⟨15, 15, .w1c, 0, false⟩, ⟨14, 14, .w1c, 0, false⟩, ⟨13, 13, .w1c, 0, false⟩, ⟨12, 12, .w1c, 0, false⟩, ⟨11, 11, .w1c, 0, false⟩, ⟨10, 10, .w1c, 0, false⟩]⟩,
  ⟨0x12, 1, 1, [⟨5, 0, .ro, 0, false⟩]⟩,
  ⟨0x13, 1, 1, [⟨15, 0, .cnt, 0, false⟩]⟩,
  ⟨0x14, 1, 1, [⟨15, 0, .cnt, 0, false⟩]⟩,
  ⟨0x15, 1, 1, [⟨15, 0, .cnt, 0, false⟩]⟩,
  ⟨0x16, 1, 1, [⟨5, 4, .rw, 0, false⟩, ⟨2, 0, .rw, 0, false⟩]⟩,
  ⟨0x17, 1, 1, [⟨15, 0, .ro, 0, false⟩]⟩,
  ⟨0x18, 1, 1, [⟨15, 8, .rw, 0, false⟩, ⟨7, 5, .rw, 0, false⟩, ⟨4, 4, .rw, 0, false⟩, ⟨3, 3, .rw, 0, false⟩, ⟨2, 2, .sc, 0, false⟩]⟩,
  ⟨0x19, 1, 1, [⟨15, 0, .rw, 0, false⟩]⟩,
  ⟨0x1A, 1, 1, [⟨15, 8, .rw, 0, false⟩, ⟨7, 5, .rw, 0, false⟩, ⟨4, 4, .rw, 0, false⟩, ⟨3, 3, .rw, 0, false⟩, ⟨2, 2, .sc, 0, false⟩]⟩,
  ⟨0x1B, 1, 1, [⟨15, 0, .rw, 0, false⟩]⟩,
  ⟨0x1C, 1, 1, [⟨15, 8, .rw, 0, false⟩, ⟨7, 5, .rw, 0, false⟩, ⟨4, 4, .rw, 0, false⟩, ⟨3, 3, .rw, 0, false⟩, ⟨2, 2, .sc, 0, false⟩]⟩,
  ⟨0x1D, 1, 1, [⟨15, 0, .rw, 0, false⟩]⟩,
  ⟨0x1E, 1, 1, [⟨15, 8, .rw, 0, false⟩, ⟨7, 5, .rw, 0, false⟩, ⟨4, 4, .rw, 0, false⟩, ⟨3, 3, .rw, 0, false⟩, ⟨2, 2, .sc, 0, false⟩]⟩,
  ⟨0x1F, 1, 1, [⟨15, 0, .rw, 0, false⟩]⟩,
  ⟨0x20, 3, 32, [⟨15, 0, .rw, 0, false⟩]⟩,
  ⟨0x21, 3, 32, [⟨15, 0, .rw, 0, false⟩]⟩,
  ⟨0x22, 3, 32, [⟨7, 0, .rw, 0, false⟩]⟩,
  ⟨0x23, 3, 32, [⟨15, 0, .rw, 0, false⟩]⟩,
  ⟨0x24, 3, 32, [⟨15, 0, .rw, 0, false⟩]⟩,
  ⟨0x25, 3, 32, [⟨15, 0, .rw, 0, false⟩]⟩,
  ⟨0x26, 3, 32, [⟨15, 0, .rw, 0, false⟩]⟩,
  ⟨0x27, 3, 32, [⟨15, 0, .rw, 0, false⟩]⟩,
  ⟨0x28, 3, 32, [⟨15, 0, .rw, 0, false⟩]⟩,
  ⟨0x29, 3, 32, [⟨15, 0, .rw, 0, false⟩]⟩]
def LOA.rows1 : List RegDef := [
  ⟨0x2A, 3, 32, [⟨15, 0, .rw, 0, false⟩]⟩,
  ⟨0x2B, 3, 32, [⟨15, 0, .rw, 0, false⟩]⟩,
  ⟨0x2C, 3, 32, [⟨15, 0, .rw, 0, false⟩]⟩,
  ⟨0x2D, 3, 32, [⟨15, 0, .rw, 0, false⟩]⟩,
  ⟨0x2E, 3, 32, [⟨15, 0, .rw, 0, false⟩]⟩,
  ⟨0x2F, 3, 32, [⟨15, 0, .rw, 0, false⟩]⟩,
  ⟨0x30, 3, 32, [⟨15, 0, .rw, 0, false⟩]⟩,
  ⟨0x31, 3, 32, [⟨15, 0, .rw, 0, false⟩]⟩,
  ⟨0x32, 3, 32, [⟨15, 0, .rw, 0, false⟩]⟩,
  ⟨0x33, 3, 32, [⟨15, 0, .rw, 0, false⟩]⟩,
  ⟨0x34, 3, 32, [⟨15, 0, .rw, 0, false⟩]⟩,
  ⟨0x35, 3, 32, [⟨15, 0, .rw, 0, false⟩]⟩,
  ⟨0x36, 3, 32, [⟨15, 0, .rw, 0, false⟩]⟩,
  ⟨0x37, 3, 32, [⟨15, 0, .rw, 0, false⟩]⟩,
  ⟨0x38, 3, 32, [⟨15, 0, .rw, 0, false⟩]⟩,
  ⟨0x39, 3, 32, [⟨15, 0, .rw, 0, false⟩]⟩,
  ⟨0x3A, 3, 32, [⟨15, 0, .rw, 0, false⟩]⟩,
  ⟨0x3B, 3, 32, [⟨15, 0, .rw, 0, false⟩]⟩,
  ⟨0x3C, 3, 32, [⟨15, 0, .rw, 0, false⟩]⟩,
  ⟨0x3D, 3, 32, [⟨15, 0, .rw, 0, false⟩]⟩,
  ⟨0x3E, 3, 32, [⟨15, 0, .rw, 0, false⟩]⟩,
  ⟨0x3F, 3, 32, [⟨15, 15, .rw, 0, false⟩]⟩]
def LOA.rows : List RegDef := LOA.rows0 ++ LOA.rows1

/-! ### INM: base 0x0800, 24 instance(s), stride 0x40 -/
def INM.IN_CFG (k : Nat) : Nat := 0x0800 + 64 * k
def INM.IN_CFG_ROLE (k : Nat) : Field := ⟨INM.IN_CFG k, 15, 14⟩
def INM.IN_CFG_MON_EN (k : Nat) : Field := ⟨INM.IN_CFG k, 13, 13⟩
def INM.IN_CFG_EDGE (k : Nat) : Field := ⟨INM.IN_CFG k, 12, 12⟩
def INM.IN_CFG_FORMAT (k : Nat) : Field := ⟨INM.IN_CFG k, 11, 9⟩
def INM.IN_CFG_TERM (k : Nat) : Field := ⟨INM.IN_CFG k, 8, 8⟩
def INM.IN_CFG_SE_VTH (k : Nat) : Field := ⟨INM.IN_CFG k, 7, 6⟩
def INM.IN_CFG_ACC (k : Nat) : Field := ⟨INM.IN_CFG k, 5, 5⟩
def INM.NOM_NUM (k : Nat) : Nat := 0x0801 + 64 * k
def INM.NOM_DEN (k : Nat) : Nat := 0x0804 + 64 * k
def INM.LOS_CFG (k : Nat) : Nat := 0x0805 + 64 * k
def INM.LOS_CFG_GRACE (k : Nat) : Field := ⟨INM.LOS_CFG k, 7, 0⟩
def INM.MEAS_CFG (k : Nat) : Nat := 0x0806 + 64 * k
def INM.MEAS_CFG_AVG (k : Nat) : Field := ⟨INM.MEAS_CFG k, 8, 7⟩
def INM.MEAS_CFG_DRIFT_N (k : Nat) : Field := ⟨INM.MEAS_CFG k, 6, 0⟩
def INM.WS_INT (k : Nat) : Nat := 0x0807 + 64 * k
def INM.WS_INT_INT (k : Nat) : Field := ⟨INM.WS_INT k, 11, 0⟩
def INM.GUST_CFG (k : Nat) : Nat := 0x0808 + 64 * k
def INM.GUST_CFG_THR (k : Nat) : Field := ⟨INM.GUST_CFG k, 13, 0⟩
def INM.GUST_RUN (k : Nat) : Nat := 0x0809 + 64 * k
def INM.GUST_RUN_RUN (k : Nat) : Field := ⟨INM.GUST_RUN k, 5, 0⟩
def INM.WARN (k : Nat) : Nat := 0x080A + 64 * k
def INM.LIMIT (k : Nat) : Nat := 0x080C + 64 * k
def INM.HYST (k : Nat) : Nat := 0x080E + 64 * k
def INM.DRIFT_WARN (k : Nat) : Nat := 0x0810 + 64 * k
def INM.PROJ_CFG (k : Nat) : Nat := 0x0811 + 64 * k
def INM.PROJ_CFG_PREEMPT (k : Nat) : Field := ⟨INM.PROJ_CFG k, 15, 15⟩
def INM.PROJ_CFG_HORIZON (k : Nat) : Field := ⟨INM.PROJ_CFG k, 11, 0⟩
def INM.WTR (k : Nat) : Nat := 0x0812 + 64 * k
def INM.WTR_WTR (k : Nat) : Field := ⟨INM.WTR k, 11, 0⟩
def INM.BOOT_WTR (k : Nat) : Nat := 0x0813 + 64 * k
def INM.BOOT_WTR_BOOT_EN (k : Nat) : Field := ⟨INM.BOOT_WTR k, 15, 15⟩
def INM.BOOT_WTR_BOOT_WTR (k : Nat) : Field := ⟨INM.BOOT_WTR k, 11, 0⟩
def INM.PEER_CFG (k : Nat) : Nat := 0x0814 + 64 * k
def INM.PEER_CFG_PEER_NONE (k : Nat) : Field := ⟨INM.PEER_CFG k, 15, 15⟩
def INM.PEER_CFG_PEER_ONE (k : Nat) : Field := ⟨INM.PEER_CFG k, 14, 14⟩
def INM.PEER_CFG_MODE (k : Nat) : Field := ⟨INM.PEER_CFG k, 13, 12⟩
def INM.PEER_CFG_GRP (k : Nat) : Field := ⟨INM.PEER_CFG k, 2, 0⟩
def INM.PEER_LIMIT (k : Nat) : Nat := 0x0815 + 64 * k
def INM.QUAL_CTRL (k : Nat) : Nat := 0x0817 + 64 * k
def INM.QUAL_CTRL_FORCE_FAIL (k : Nat) : Field := ⟨INM.QUAL_CTRL k, 15, 15⟩
def INM.QUAL_CTRL_REQUAL (k : Nat) : Field := ⟨INM.QUAL_CTRL k, 14, 14⟩
def INM.QUAL_CTRL_CNT_CLR (k : Nat) : Field := ⟨INM.QUAL_CTRL k, 13, 13⟩
def INM.QSTAT (k : Nat) : Nat := 0x0818 + 64 * k
def INM.QSTAT_STATE (k : Nat) : Field := ⟨INM.QSTAT k, 15, 13⟩
def INM.QSTAT_FIRST_CAUSE (k : Nat) : Field := ⟨INM.QSTAT k, 12, 10⟩
def INM.QSTAT_KIND (k : Nat) : Field := ⟨INM.QSTAT k, 9, 9⟩
def INM.QSTAT_MEAS_READY (k : Nat) : Field := ⟨INM.QSTAT k, 8, 8⟩
def INM.QSTAT_LOS (k : Nat) : Field := ⟨INM.QSTAT k, 7, 7⟩
def INM.QSTAT_HITRUN (k : Nat) : Field := ⟨INM.QSTAT k, 6, 6⟩
def INM.QSTAT_FREQ (k : Nat) : Field := ⟨INM.QSTAT k, 5, 5⟩
def INM.QSTAT_PEER (k : Nat) : Field := ⟨INM.QSTAT k, 4, 4⟩
def INM.QSTAT_PROJ (k : Nat) : Field := ⟨INM.QSTAT k, 3, 3⟩
def INM.QSTAT_WARN (k : Nat) : Field := ⟨INM.QSTAT k, 2, 2⟩
def INM.QSTAT_PRE_SETTLED (k : Nat) : Field := ⟨INM.QSTAT k, 1, 1⟩
def INM.QSTAT_CFG_ERR (k : Nat) : Field := ⟨INM.QSTAT k, 0, 0⟩
def INM.CAUSE (k : Nat) : Nat := 0x0819 + 64 * k
def INM.CAUSE_C_LOS (k : Nat) : Field := ⟨INM.CAUSE k, 15, 15⟩
def INM.CAUSE_C_HIT (k : Nat) : Field := ⟨INM.CAUSE k, 14, 14⟩
def INM.CAUSE_C_FREQ (k : Nat) : Field := ⟨INM.CAUSE k, 13, 13⟩
def INM.CAUSE_C_PEER (k : Nat) : Field := ⟨INM.CAUSE k, 12, 12⟩
def INM.CAUSE_C_PROJ (k : Nat) : Field := ⟨INM.CAUSE k, 11, 11⟩
def INM.CAUSE_C_SW (k : Nat) : Field := ⟨INM.CAUSE k, 10, 10⟩
def INM.CAUSE_DISAGREE (k : Nat) : Field := ⟨INM.CAUSE k, 9, 9⟩
def INM.CAUSE_CLEAR_REFUSED (k : Nat) : Field := ⟨INM.CAUSE k, 8, 8⟩
def INM.CAUSE_WRITE_LOST (k : Nat) : Field := ⟨INM.CAUSE k, 7, 7⟩
def INM.WTR_LEFT (k : Nat) : Nat := 0x081A + 64 * k
def INM.WTR_LEFT_BOOTQ (k : Nat) : Field := ⟨INM.WTR_LEFT k, 15, 15⟩
def INM.WTR_LEFT_LEFT (k : Nat) : Field := ⟨INM.WTR_LEFT k, 11, 0⟩
def INM.FOFS (k : Nat) : Nat := 0x081B + 64 * k
def INM.DRIFT (k : Nat) : Nat := 0x081E + 64 * k
def INM.PEER_DEV (k : Nat) : Nat := 0x0820 + 64 * k
def INM.PROJ_T (k : Nat) : Nat := 0x0822 + 64 * k
def INM.WS_SEL (k : Nat) : Nat := 0x0823 + 64 * k
def INM.WS_SEL_COUNT (k : Nat) : Field := ⟨INM.WS_SEL k, 14, 8⟩
def INM.WS_SEL_INDEX (k : Nat) : Field := ⟨INM.WS_SEL k, 5, 0⟩
def INM.WS_DATA (k : Nat) : Nat := 0x0824 + 64 * k
def INM.LOS_CNT (k : Nat) : Nat := 0x0827 + 64 * k
def INM.HIT_CNT (k : Nat) : Nat := 0x0828 + 64 * k
def INM.FAIL_CNT (k : Nat) : Nat := 0x0829 + 64 * k
def INM.WTR_RST_CNT (k : Nat) : Nat := 0x082A + 64 * k
def INM.VOTE_REPAIR (k : Nat) : Nat := 0x082B + 64 * k
def INM.EVT_CLASS (k : Nat) : Nat := 0x082C + 64 * k
def INM.EVT_CLASS_THRESH_N (k : Nat) : Field := ⟨INM.EVT_CLASS k, 15, 8⟩
def INM.EVT_CLASS_ROUTE (k : Nat) : Field := ⟨INM.EVT_CLASS k, 7, 5⟩
def INM.EVT_CLASS_REACT (k : Nat) : Field := ⟨INM.EVT_CLASS k, 4, 4⟩
def INM.EVT_CLASS_INJ_REACT (k : Nat) : Field := ⟨INM.EVT_CLASS k, 3, 3⟩
def INM.EVT_CLASS_FORCE (k : Nat) : Field := ⟨INM.EVT_CLASS k, 2, 2⟩
def INM.EVT_WINDOW (k : Nat) : Nat := 0x082D + 64 * k
def INM.HIST_SEL (k : Nat) : Nat := 0x082E + 64 * k
def INM.HIST_SEL_ENTRY (k : Nat) : Field := ⟨INM.HIST_SEL k, 5, 4⟩
def INM.HIST_SEL_WORD (k : Nat) : Field := ⟨INM.HIST_SEL k, 2, 0⟩
def INM.HIST_DATA (k : Nat) : Nat := 0x082F + 64 * k
def INM.rows0 : List RegDef := [
  ⟨0x00, 1, 1, [⟨15, 14, .rw, 0, true⟩, ⟨13, 13, .rw, 0, true⟩, ⟨12, 12, .rw, 0, false⟩, ⟨11, 9, .rw, 0, false⟩, ⟨8, 8, .rw, 0, false⟩, ⟨7, 6, .rw, 2, false⟩, ⟨5, 5, .rw, 0, false⟩]⟩,
  ⟨0x01, 1, 1, [⟨15, 0, .rw, 38528, false⟩]⟩,
  ⟨0x02, 1, 1, [⟨15, 0, .rw, 152, false⟩]⟩,
  ⟨0x03, 1, 1, [⟨15, 0, .rw, 0, false⟩]⟩,
  ⟨0x04, 1, 1, [⟨15, 0, .rw, 1, false⟩]⟩,
  ⟨0x05, 1, 1, [⟨7, 0, .rw, 50, false⟩]⟩,
  ⟨0x06, 1, 1, [⟨8, 7, .rw, 1, false⟩, ⟨6, 0, .rw, 16, false⟩]⟩,
  ⟨0x07, 1, 1, [⟨11, 0, .rw, 60, false⟩]⟩,
  ⟨0x08, 1, 1, [⟨13, 0, .rw, 100, false⟩]⟩,
  ⟨0x09, 1, 1, [⟨5, 0, .rw, 8, false⟩]⟩,
  ⟨0x0A, 1, 1, [⟨15, 0, .rw, 0, false⟩]⟩,
  ⟨0x0B, 1, 1, [⟨15, 0, .rw, 0, false⟩]⟩,
  ⟨0x0C, 1, 1, [⟨15, 0, .rw, 33920, false⟩]⟩,
  ⟨0x0D, 1, 1, [⟨15, 0, .rw, 30, false⟩]⟩,
  ⟨0x0E, 1, 1, [⟨15, 0, .rw, 34464, false⟩]⟩,
  ⟨0x0F, 1, 1, [⟨15, 0, .rw, 1, false⟩]⟩,
  ⟨0x10, 1, 1, [⟨15, 0, .rw, 0, false⟩]⟩,
  ⟨0x11, 1, 1, [⟨15, 15, .rw, 0, false⟩, ⟨11, 0, .rw, 600, false⟩]⟩,
  ⟨0x12, 1, 1, [⟨11, 0, .rw, 300, false⟩]⟩,
  ⟨0x13, 1, 1, [⟨15, 15, .rw, 0, false⟩, ⟨11, 0, .rw, 0, false⟩]⟩,
  ⟨0x14, 1, 1, [⟨15, 15, .ro, 1, false⟩, ⟨14, 14, .ro, 0, false⟩, ⟨13, 12, .rw, 0, false⟩, ⟨2, 0, .rw, 0, false⟩]⟩,
  ⟨0x15, 1, 1, [⟨15, 0, .rw, 0, false⟩]⟩,
  ⟨0x16, 1, 1, [⟨15, 0, .rw, 0, false⟩]⟩,
  ⟨0x17, 1, 1, [⟨15, 15, .rw, 0, true⟩, ⟨14, 14, .sc, 0, false⟩, ⟨13, 13, .sc, 0, false⟩]⟩,
  ⟨0x18, 1, 1, [⟨15, 13, .ro, 0, false⟩, ⟨12, 10, .ro, 0, false⟩, ⟨9, 9, .ro, 0, false⟩, ⟨8, 8, .ro, 0, false⟩, ⟨7, 7, .ro, 0, false⟩, ⟨6, 6, .ro, 0, false⟩, ⟨5, 5, .ro, 0, false⟩, ⟨4, 4, .ro, 0, false⟩, ⟨3, 3, .ro, 0, false⟩, ⟨2, 2, .ro, 0, false⟩, ⟨1, 1, .ro, 1, false⟩, ⟨0, 0, .ro, 0, false⟩]⟩,
  ⟨0x19, 1, 1, [⟨15, 15, .w1c, 0, false⟩, ⟨14, 14, .w1c, 0, false⟩, ⟨13, 13, .w1c, 0, false⟩, ⟨12, 12, .w1c, 0, false⟩, ⟨11, 11, .w1c, 0, false⟩, ⟨10, 10, .w1c, 0, false⟩, ⟨9, 9, .w1c, 0, false⟩, ⟨8, 8, .w1c, 0, false⟩, ⟨7, 7, .w1c, 0, false⟩]⟩,
  ⟨0x1A, 1, 1, [⟨15, 15, .ro, 0, false⟩, ⟨11, 0, .ro, 0, false⟩]⟩,
  ⟨0x1B, 1, 1, [⟨15, 0, .ro, 0, false⟩]⟩,
  ⟨0x1C, 1, 1, [⟨15, 0, .ro, 0, false⟩]⟩,
  ⟨0x1D, 1, 1, [⟨7, 0, .ro, 0, false⟩]⟩,
  ⟨0x1E, 1, 1, [⟨15, 0, .ro, 0, false⟩]⟩,
  ⟨0x1F, 1, 1, [⟨15, 0, .ro, 0, false⟩]⟩,
  ⟨0x20, 1, 1, [⟨15, 0, .ro, 0, false⟩]⟩,
  ⟨0x21, 1, 1, [⟨15, 0, .ro, 0, false⟩]⟩,
  ⟨0x22, 1, 1, [⟨15, 0, .ro, 65535, false⟩]⟩,
  ⟨0x23, 1, 1, [⟨14, 8, .ro, 0, false⟩, ⟨5, 0, .rw, 0, false⟩]⟩,
  ⟨0x24, 1, 1, [⟨15, 0, .ro, 0, false⟩]⟩,
  ⟨0x25, 1, 1, [⟨15, 0, .ro, 0, false⟩]⟩,
  ⟨0x26, 1, 1, [⟨7, 0, .ro, 0, false⟩]⟩,
  ⟨0x27, 1, 1, [⟨15, 0, .cnt, 0, false⟩]⟩]
def INM.rows1 : List RegDef := [
  ⟨0x28, 1, 1, [⟨15, 0, .cnt, 0, false⟩]⟩,
  ⟨0x29, 1, 1, [⟨15, 0, .cnt, 0, false⟩]⟩,
  ⟨0x2A, 1, 1, [⟨15, 0, .cnt, 0, false⟩]⟩,
  ⟨0x2B, 1, 1, [⟨15, 0, .cnt, 0, false⟩]⟩,
  ⟨0x2C, 1, 1, [⟨15, 8, .rw, 0, false⟩, ⟨7, 5, .rw, 0, false⟩, ⟨4, 4, .rw, 0, false⟩, ⟨3, 3, .rw, 0, false⟩, ⟨2, 2, .sc, 0, false⟩]⟩,
  ⟨0x2D, 1, 1, [⟨15, 0, .rw, 0, false⟩]⟩,
  ⟨0x2E, 1, 1, [⟨5, 4, .rw, 0, false⟩, ⟨2, 0, .rw, 0, false⟩]⟩,
  ⟨0x2F, 1, 1, [⟨15, 0, .ro, 0, false⟩]⟩]
def INM.rows : List RegDef := INM.rows0 ++ INM.rows1

/-! ### TRK: base 0x0E00, 1 instance(s), stride 0x50 -/
def TRK.CTRL : Nat := 0x0E00
def TRK.CTRL_PEAK_CLR : Field := ⟨TRK.CTRL, 15, 15⟩
def TRK.CTRL_CNT_CLR : Field := ⟨TRK.CTRL, 14, 14⟩
def TRK.CTRL_ARM : Field := ⟨TRK.CTRL, 13, 13⟩
def TRK.CTRL_SNAP_SRC : Field := ⟨TRK.CTRL, 12, 7⟩
def TRK.CTRL_HIST_ENTRY : Field := ⟨TRK.CTRL, 6, 5⟩
def TRK.CTRL_HIST_WORD : Field := ⟨TRK.CTRL, 4, 2⟩
def TRK.COLL_STAT : Nat := 0x0E01
def TRK.COLL_STAT_PEAK : Field := ⟨TRK.COLL_STAT, 15, 9⟩
def TRK.COLL_STAT_LAST_N : Field := ⟨TRK.COLL_STAT, 8, 3⟩
def TRK.CNT : Nat := 0x0E02
def TRK.CNT_GUARD_CNT : Field := ⟨TRK.CNT, 15, 8⟩
def TRK.CNT_CAL_CNT : Field := ⟨TRK.CNT, 7, 0⟩
def TRK.EVT_STAT : Nat := 0x0E03
def TRK.EVT_STAT_OVERFLOW : Field := ⟨TRK.EVT_STAT, 15, 15⟩
def TRK.EVT_STAT_STALE : Field := ⟨TRK.EVT_STAT, 14, 14⟩
def TRK.EVT_STAT_TDC_CAL : Field := ⟨TRK.EVT_STAT, 13, 13⟩
def TRK.EVT_STAT_CLEAR_REFUSED : Field := ⟨TRK.EVT_STAT, 12, 12⟩
def TRK.EVT_STAT_WRITE_LOST : Field := ⟨TRK.EVT_STAT, 11, 11⟩
def TRK.EVT_STAT_CAL_TRK : Field := ⟨TRK.EVT_STAT, 4, 0⟩
def TRK.SNAP (i : Nat) : Nat := 0x0E04 + i
def TRK.EVT_CLASS30 : Nat := 0x0E09
def TRK.EVT_CLASS30_THRESH_N : Field := ⟨TRK.EVT_CLASS30, 15, 8⟩
def TRK.EVT_CLASS30_ROUTE : Field := ⟨TRK.EVT_CLASS30, 7, 5⟩
def TRK.EVT_CLASS30_REACT : Field := ⟨TRK.EVT_CLASS30, 4, 4⟩
def TRK.EVT_CLASS30_INJ_REACT : Field := ⟨TRK.EVT_CLASS30, 3, 3⟩
def TRK.EVT_CLASS30_FORCE : Field := ⟨TRK.EVT_CLASS30, 2, 2⟩
def TRK.EVT_WINDOW30 : Nat := 0x0E0A
def TRK.EVT_CLASS31 : Nat := 0x0E0B
def TRK.EVT_CLASS31_THRESH_N : Field := ⟨TRK.EVT_CLASS31, 15, 8⟩
def TRK.EVT_CLASS31_ROUTE : Field := ⟨TRK.EVT_CLASS31, 7, 5⟩
def TRK.EVT_CLASS31_REACT : Field := ⟨TRK.EVT_CLASS31, 4, 4⟩
def TRK.EVT_CLASS31_INJ_REACT : Field := ⟨TRK.EVT_CLASS31, 3, 3⟩
def TRK.EVT_CLASS31_FORCE : Field := ⟨TRK.EVT_CLASS31, 2, 2⟩
def TRK.EVT_WINDOW31 : Nat := 0x0E0C
def TRK.HIST_DATA : Nat := 0x0E0D
def TRK.TSTAT (i : Nat) : Nat := 0x0E10 + i
def TRK.TSTAT_ACTIVE (i : Nat) : Field := ⟨TRK.TSTAT i, 15, 15⟩
def TRK.TSTAT_CAL_OK (i : Nat) : Field := ⟨TRK.TSTAT i, 14, 14⟩
def TRK.TSTAT_PREDIV (i : Nat) : Field := ⟨TRK.TSTAT i, 13, 11⟩
def TRK.TSTAT_ANCHORED (i : Nat) : Field := ⟨TRK.TSTAT i, 10, 10⟩
def TRK.IN_DELAY (i : Nat) : Nat := 0x0E30 + i
def TRK.rows0 : List RegDef := [
  ⟨0x00, 1, 1, [⟨15, 15, .sc, 0, false⟩, ⟨14, 14, .sc, 0, false⟩, ⟨13, 13, .sc, 0, false⟩, ⟨12, 7, .rw, 0, false⟩, ⟨6, 5, .rw, 0, false⟩, ⟨4, 2, .rw, 0, false⟩]⟩,
  ⟨0x01, 1, 1, [⟨15, 9, .ro, 0, false⟩, ⟨8, 3, .ro, 0, false⟩]⟩,
  ⟨0x02, 1, 1, [⟨15, 8, .cnt, 0, false⟩, ⟨7, 0, .cnt, 0, false⟩]⟩,
  ⟨0x03, 1, 1, [⟨15, 15, .w1c, 0, false⟩, ⟨14, 14, .w1c, 0, false⟩, ⟨13, 13, .w1c, 0, false⟩, ⟨12, 12, .w1c, 0, false⟩, ⟨11, 11, .w1c, 0, false⟩, ⟨4, 0, .ro, 0, false⟩]⟩,
  ⟨0x04, 5, 1, [⟨15, 0, .ro, 0, false⟩]⟩,
  ⟨0x09, 1, 1, [⟨15, 8, .rw, 1, false⟩, ⟨7, 5, .rw, 0, false⟩, ⟨4, 4, .rw, 0, false⟩, ⟨3, 3, .rw, 0, false⟩, ⟨2, 2, .sc, 0, false⟩]⟩,
  ⟨0x0A, 1, 1, [⟨15, 0, .rw, 0, false⟩]⟩,
  ⟨0x0B, 1, 1, [⟨15, 8, .rw, 0, false⟩, ⟨7, 5, .rw, 0, false⟩, ⟨4, 4, .rw, 0, false⟩, ⟨3, 3, .rw, 0, false⟩, ⟨2, 2, .sc, 0, false⟩]⟩,
  ⟨0x0C, 1, 1, [⟨15, 0, .rw, 0, false⟩]⟩,
  ⟨0x0D, 1, 1, [⟨15, 0, .ro, 0, false⟩]⟩,
  ⟨0x10, 25, 1, [⟨15, 15, .ro, 0, false⟩, ⟨14, 14, .ro, 0, false⟩, ⟨13, 11, .ro, 0, false⟩, ⟨10, 10, .ro, 0, false⟩]⟩,
  ⟨0x30, 25, 1, [⟨15, 0, .rw, 0, false⟩]⟩]
def TRK.rows : List RegDef := TRK.rows0

/-! ### CAS: base 0x0F00, 1 instance(s), stride 0x80 -/
def CAS.CAS_CTRL : Nat := 0x0F00
def CAS.CAS_CTRL_CNT_CLR : Field := ⟨CAS.CAS_CTRL, 15, 15⟩
def CAS.CAS_CTRL_YIELD : Field := ⟨CAS.CAS_CTRL, 14, 14⟩
def CAS.CAS_CTRL_RECAL : Field := ⟨CAS.CAS_CTRL, 13, 13⟩
def CAS.CAS_CFG : Nat := 0x0F01
def CAS.CAS_CFG_EN : Field := ⟨CAS.CAS_CFG, 15, 15⟩
def CAS.CAS_CFG_ROLE_SRC : Field := ⟨CAS.CAS_CFG, 14, 14⟩
def CAS.CAS_CFG_ROLE : Field := ⟨CAS.CAS_CFG, 13, 12⟩
def CAS.CAS_CFG_DN_DOM : Field := ⟨CAS.CAS_CFG, 11, 9⟩
def CAS.CAS_CFG_TOD_TK : Field := ⟨CAS.CAS_CFG, 8, 7⟩
def CAS.CAS_CFG_BCAST : Field := ⟨CAS.CAS_CFG, 6, 5⟩
def CAS.CAS_CFG2 : Nat := 0x0F02
def CAS.CAS_CFG2_LEAD : Field := ⟨CAS.CAS_CFG2, 15, 8⟩
def CAS.CAS_CFG2_CAL_AVG : Field := ⟨CAS.CAS_CFG2, 3, 0⟩
def CAS.TKO_CFG : Nat := 0x0F03
def CAS.TKO_CFG_TAKEOVER : Field := ⟨CAS.TKO_CFG, 9, 0⟩
def CAS.CAS_STAT : Nat := 0x0F04
def CAS.CAS_STAT_ROLE_ACT : Field := ⟨CAS.CAS_STAT, 15, 14⟩
def CAS.CAS_STAT_UP_LINK : Field := ⟨CAS.CAS_STAT, 13, 12⟩
def CAS.CAS_STAT_DN_LINK : Field := ⟨CAS.CAS_STAT, 11, 10⟩
def CAS.CAS_STAT_CAL_VALID : Field := ⟨CAS.CAS_STAT, 9, 9⟩
def CAS.CAS_STAT_MASTER_LOST : Field := ⟨CAS.CAS_STAT, 8, 8⟩
def CAS.CAS_STAT_CFG_ERR : Field := ⟨CAS.CAS_STAT, 7, 7⟩
def CAS.CAS_STAT_CONFLICT : Field := ⟨CAS.CAS_STAT, 6, 6⟩
def CAS.CAS_STAT_ROLE_PADS : Field := ⟨CAS.CAS_STAT, 5, 4⟩
def CAS.CAS_EVT : Nat := 0x0F05
def CAS.CAS_EVT_UP_DOWN : Field := ⟨CAS.CAS_EVT, 15, 15⟩
def CAS.CAS_EVT_DN_DOWN : Field := ⟨CAS.CAS_EVT, 14, 14⟩
def CAS.CAS_EVT_CAL_FAULT : Field := ⟨CAS.CAS_EVT, 13, 13⟩
def CAS.CAS_EVT_MASTER_LOST : Field := ⟨CAS.CAS_EVT, 12, 12⟩
def CAS.CAS_EVT_TAKEOVER : Field := ⟨CAS.CAS_EVT, 11, 11⟩
def CAS.CAS_EVT_BCAST_ABORT : Field := ⟨CAS.CAS_EVT, 10, 10⟩
def CAS.CAS_EVT_BCAST_SPLIT : Field := ⟨CAS.CAS_EVT, 9, 9⟩
def CAS.CAS_EVT_CONFLICT : Field := ⟨CAS.CAS_EVT, 8, 8⟩
def CAS.CAS_EVT_CLEAR_REFUSED : Field := ⟨CAS.CAS_EVT, 7, 7⟩
def CAS.CAS_EVT_WRITE_LOST : Field := ⟨CAS.CAS_EVT, 6, 6⟩
def CAS.CHAIN : Nat := 0x0F06
def CAS.CHAIN_POS : Field := ⟨CAS.CHAIN, 15, 13⟩
def CAS.CHAIN_CHAIN_LEN : Field := ⟨CAS.CHAIN, 12, 9⟩
def CAS.CHAIN_MASTER_GEN : Field := ⟨CAS.CHAIN, 7, 0⟩
def CAS.REF_QUAL : Nat := 0x0F07
def CAS.REF_QUAL_STATE : Field := ⟨CAS.REF_QUAL, 15, 13⟩
def CAS.REF_QUAL_FIRST_CAUSE : Field := ⟨CAS.REF_QUAL, 12, 10⟩
def CAS.REF_WTR : Nat := 0x0F08
def CAS.REF_WTR_WTR : Field := ⟨CAS.REF_WTR, 11, 0⟩
def CAS.D_UP : Nat := 0x0F09
def CAS.RT_DN : Nat := 0x0F0B
def CAS.D_DN : Nat := 0x0F0D
def CAS.ASYM_DN : Nat := 0x0F0F
def CAS.REF_LEFT : Nat := 0x0F10
def CAS.REF_LEFT_LEFT : Field := ⟨CAS.REF_LEFT, 11, 0⟩
def CAS.BCAST_STAT : Nat := 0x0F11
def CAS.BCAST_STAT_BSTATE : Field := ⟨CAS.BCAST_STAT, 15, 13⟩
def CAS.BCAST_STAT_LAST_RESULT : Field := ⟨CAS.BCAST_STAT, 12, 10⟩
def CAS.BCAST_FRAME : Nat := 0x0F12
def CAS.FRAME_NO : Nat := 0x0F14
def CAS.UP_DOWN_CNT : Nat := 0x0F16
def CAS.DN_DOWN_CNT : Nat := 0x0F17
def CAS.FRAME_ERR_CNT : Nat := 0x0F18
def CAS.CAL_FAULT_CNT : Nat := 0x0F19
def CAS.MLOSS_CNT : Nat := 0x0F1A
def CAS.TAKEOVER_CNT : Nat := 0x0F1B
def CAS.BCAST_CNT : Nat := 0x0F1C
def CAS.BCAST_ABORT_CNT : Nat := 0x0F1D
def CAS.CMD_ERR_CNT : Nat := 0x0F1E
def CAS.VOTE_REPAIR : Nat := 0x0F1F
def CAS.EVT_CLASS28 : Nat := 0x0F20
def CAS.EVT_CLASS28_THRESH_N : Field := ⟨CAS.EVT_CLASS28, 15, 8⟩
def CAS.EVT_CLASS28_ROUTE : Field := ⟨CAS.EVT_CLASS28, 7, 5⟩
def CAS.EVT_CLASS28_REACT : Field := ⟨CAS.EVT_CLASS28, 4, 4⟩
def CAS.EVT_CLASS28_INJ_REACT : Field := ⟨CAS.EVT_CLASS28, 3, 3⟩
def CAS.EVT_CLASS28_FORCE : Field := ⟨CAS.EVT_CLASS28, 2, 2⟩
def CAS.EVT_WINDOW28 : Nat := 0x0F21
def CAS.EVT_CLASS29 : Nat := 0x0F22
def CAS.EVT_CLASS29_THRESH_N : Field := ⟨CAS.EVT_CLASS29, 15, 8⟩
def CAS.EVT_CLASS29_ROUTE : Field := ⟨CAS.EVT_CLASS29, 7, 5⟩
def CAS.EVT_CLASS29_REACT : Field := ⟨CAS.EVT_CLASS29, 4, 4⟩
def CAS.EVT_CLASS29_INJ_REACT : Field := ⟨CAS.EVT_CLASS29, 3, 3⟩
def CAS.EVT_CLASS29_FORCE : Field := ⟨CAS.EVT_CLASS29, 2, 2⟩
def CAS.EVT_WINDOW29 : Nat := 0x0F23
def CAS.HIST_SEL : Nat := 0x0F24
def CAS.HIST_SEL_ENTRY : Field := ⟨CAS.HIST_SEL, 5, 4⟩
def CAS.HIST_SEL_WORD : Field := ⟨CAS.HIST_SEL, 2, 0⟩
def CAS.HIST_DATA : Nat := 0x0F25
def CAS.READY_SUM : Nat := 0x0F26
def CAS.READY_SUM_READY : Field := ⟨CAS.READY_SUM, 7, 1⟩
def CAS.PRESENT_SUM : Nat := 0x0F27
def CAS.PRESENT_SUM_PRESENT : Field := ⟨CAS.PRESENT_SUM, 7, 1⟩
def CAS.SLV_STAT (i : Nat) : Nat := 0x0F40 + 8 * i
def CAS.SLV_STAT_REF_STATE (i : Nat) : Field := ⟨CAS.SLV_STAT i, 15, 13⟩
def CAS.SLV_STAT_DSTATE (i : Nat) : Field := ⟨CAS.SLV_STAT i, 12, 10⟩
def CAS.SLV_STAT_CAL_VALID (i : Nat) : Field := ⟨CAS.SLV_STAT i, 9, 9⟩
def CAS.SLV_STAT_PRESENT (i : Nat) : Field := ⟨CAS.SLV_STAT i, 8, 8⟩
def CAS.SLV_D0 (i : Nat) : Nat := 0x0F41 + 8 * i
def CAS.SLV_D1 (i : Nat) : Nat := 0x0F42 + 8 * i
def CAS.SLV_RES (i : Nat) : Nat := 0x0F43 + 8 * i
def CAS.SLV_FERR (i : Nat) : Nat := 0x0F44 + 8 * i
def CAS.SLV_TK_OFS0 (i : Nat) : Nat := 0x0F45 + 8 * i
def CAS.SLV_TK_OFS1 (i : Nat) : Nat := 0x0F46 + 8 * i
def CAS.SLV_AGE (i : Nat) : Nat := 0x0F47 + 8 * i
def CAS.rows0 : List RegDef := [
  ⟨0x00, 1, 1, [⟨15, 15, .sc, 0, false⟩, ⟨14, 14, .sc, 0, false⟩, ⟨13, 13, .sc, 0, false⟩]⟩,
  ⟨0x01, 1, 1, [⟨15, 15, .rw, 0, true⟩, ⟨14, 14, .rw, 0, true⟩, ⟨13, 12, .rw, 0, true⟩, ⟨11, 9, .rw, 7, true⟩, ⟨8, 7, .rw, 0, false⟩, ⟨6, 5, .rw, 0, true⟩]⟩,
  ⟨0x02, 1, 1, [⟨15, 8, .rw, 8, false⟩, ⟨3, 0, .rw, 6, false⟩]⟩,
  ⟨0x03, 1, 1, [⟨9, 0, .rw, 100, true⟩]⟩,
  ⟨0x04, 1, 1, [⟨15, 14, .ro, 0, false⟩, ⟨13, 12, .ro, 0, false⟩, ⟨11, 10, .ro, 0, false⟩, ⟨9, 9, .ro, 0, false⟩, ⟨8, 8, .ro, 0, false⟩, ⟨7, 7, .ro, 0, false⟩, ⟨6, 6, .ro, 0, false⟩, ⟨5, 4, .ro, 0, false⟩]⟩,
  ⟨0x05, 1, 1, [⟨15, 15, .w1c, 0, false⟩, ⟨14, 14, .w1c, 0, false⟩, ⟨13, 13, .w1c, 0, false⟩, ⟨12, 12, .w1c, 0, false⟩, ⟨11, 11, .w1c, 0, false⟩, ⟨10, 10, .w1c, 0, false⟩, ⟨9, 9, .w1c, 0, false⟩, ⟨8, 8, .w1c, 0, false⟩, ⟨7, 7, .w1c, 0, false⟩, ⟨6, 6, .w1c, 0, false⟩]⟩,
  ⟨0x06, 1, 1, [⟨15, 13, .ro, 0, false⟩, ⟨12, 9, .ro, 0, false⟩, ⟨7, 0, .ro, 0, false⟩]⟩,
  ⟨0x07, 1, 1, [⟨15, 13, .ro, 0, false⟩, ⟨12, 10, .ro, 0, false⟩]⟩,
  ⟨0x08, 1, 1, [⟨11, 0, .rw, 0, false⟩]⟩,
  ⟨0x09, 1, 1, [⟨15, 0, .ro, 0, false⟩]⟩,
  ⟨0x0A, 1, 1, [⟨15, 0, .ro, 0, false⟩]⟩,
  ⟨0x0B, 1, 1, [⟨15, 0, .ro, 0, false⟩]⟩,
  ⟨0x0C, 1, 1, [⟨15, 0, .ro, 0, false⟩]⟩,
  ⟨0x0D, 1, 1, [⟨15, 0, .ro, 0, false⟩]⟩,
  ⟨0x0E, 1, 1, [⟨15, 0, .ro, 0, false⟩]⟩,
  ⟨0x0F, 1, 1, [⟨15, 0, .rw, 0, false⟩]⟩,
  ⟨0x10, 1, 1, [⟨11, 0, .ro, 0, false⟩]⟩,
  ⟨0x11, 1, 1, [⟨15, 13, .ro, 0, false⟩, ⟨12, 10, .ro, 0, false⟩]⟩,
  ⟨0x12, 1, 1, [⟨15, 0, .ro, 0, false⟩]⟩,
  ⟨0x13, 1, 1, [⟨15, 0, .ro, 0, false⟩]⟩,
  ⟨0x14, 1, 1, [⟨15, 0, .ro, 0, false⟩]⟩,
  ⟨0x15, 1, 1, [⟨15, 0, .ro, 0, false⟩]⟩,
  ⟨0x16, 1, 1, [⟨15, 0, .cnt, 0, false⟩]⟩,
  ⟨0x17, 1, 1, [⟨15, 0, .cnt, 0, false⟩]⟩,
  ⟨0x18, 1, 1, [⟨15, 0, .cnt, 0, false⟩]⟩,
  ⟨0x19, 1, 1, [⟨15, 0, .cnt, 0, false⟩]⟩,
  ⟨0x1A, 1, 1, [⟨15, 0, .cnt, 0, false⟩]⟩,
  ⟨0x1B, 1, 1, [⟨15, 0, .cnt, 0, false⟩]⟩,
  ⟨0x1C, 1, 1, [⟨15, 0, .cnt, 0, false⟩]⟩,
  ⟨0x1D, 1, 1, [⟨15, 0, .cnt, 0, false⟩]⟩,
  ⟨0x1E, 1, 1, [⟨15, 0, .cnt, 0, false⟩]⟩,
  ⟨0x1F, 1, 1, [⟨15, 0, .cnt, 0, false⟩]⟩,
  ⟨0x20, 1, 1, [⟨15, 8, .rw, 0, false⟩, ⟨7, 5, .rw, 0, false⟩, ⟨4, 4, .rw, 0, false⟩, ⟨3, 3, .rw, 0, false⟩, ⟨2, 2, .sc, 0, false⟩]⟩,
  ⟨0x21, 1, 1, [⟨15, 0, .rw, 0, false⟩]⟩,
  ⟨0x22, 1, 1, [⟨15, 8, .rw, 0, false⟩, ⟨7, 5, .rw, 0, false⟩, ⟨4, 4, .rw, 0, false⟩, ⟨3, 3, .rw, 0, false⟩, ⟨2, 2, .sc, 0, false⟩]⟩,
  ⟨0x23, 1, 1, [⟨15, 0, .rw, 0, false⟩]⟩,
  ⟨0x24, 1, 1, [⟨5, 4, .rw, 0, false⟩, ⟨2, 0, .rw, 0, false⟩]⟩,
  ⟨0x25, 1, 1, [⟨15, 0, .ro, 0, false⟩]⟩,
  ⟨0x26, 1, 1, [⟨7, 1, .ro, 0, false⟩]⟩,
  ⟨0x27, 1, 1, [⟨7, 1, .ro, 0, false⟩]⟩]
def CAS.rows1 : List RegDef := [
  ⟨0x40, 7, 8, [⟨15, 13, .ro, 0, false⟩, ⟨12, 10, .ro, 0, false⟩, ⟨9, 9, .ro, 0, false⟩, ⟨8, 8, .ro, 0, false⟩]⟩,
  ⟨0x41, 7, 8, [⟨15, 0, .ro, 0, false⟩]⟩,
  ⟨0x42, 7, 8, [⟨15, 0, .ro, 0, false⟩]⟩,
  ⟨0x43, 7, 8, [⟨15, 0, .ro, 0, false⟩]⟩,
  ⟨0x44, 7, 8, [⟨15, 0, .ro, 0, false⟩]⟩,
  ⟨0x45, 7, 8, [⟨15, 0, .ro, 0, false⟩]⟩,
  ⟨0x46, 7, 8, [⟨15, 0, .ro, 0, false⟩]⟩,
  ⟨0x47, 7, 8, [⟨15, 0, .ro, 65535, false⟩]⟩]
def CAS.rows : List RegDef := CAS.rows0 ++ CAS.rows1

/-! ### DOM: base 0x1000, 6 instance(s), stride 0x100 -/
def DOM.SEL_CTRL (k : Nat) : Nat := 0x1000 + 256 * k
def DOM.SEL_CTRL_MODE (k : Nat) : Field := ⟨DOM.SEL_CTRL k, 15, 14⟩
def DOM.SEL_CTRL_REVERT (k : Nat) : Field := ⟨DOM.SEL_CTRL k, 13, 13⟩
def DOM.SEL_CTRL_STYLE (k : Nat) : Field := ⟨DOM.SEL_CTRL k, 12, 12⟩
def DOM.SEL_CTRL_PREF_SLOT (k : Nat) : Field := ⟨DOM.SEL_CTRL k, 11, 8⟩
def DOM.SEL_CTRL_BO_RESET (k : Nat) : Field := ⟨DOM.SEL_CTRL k, 7, 7⟩
def DOM.SEL_CTRL_CNT_CLR (k : Nat) : Field := ⟨DOM.SEL_CTRL k, 6, 6⟩
def DOM.SLOT (k : Nat) (i : Nat) : Nat := 0x1001 + 256 * k + i
def DOM.SLOT_EN (k : Nat) (i : Nat) : Field := ⟨DOM.SLOT k i, 15, 15⟩
def DOM.SLOT_RANK (k : Nat) (i : Nat) : Field := ⟨DOM.SLOT k i, 11, 8⟩
def DOM.SLOT_REF_ID (k : Nat) (i : Nat) : Field := ⟨DOM.SLOT k i, 5, 0⟩
def DOM.WV_LIM (k : Nat) : Nat := 0x1009 + 256 * k
def DOM.WV_HOLD (k : Nat) : Nat := 0x100B + 256 * k
def DOM.WV_HOLD_HOLD_S (k : Nat) : Field := ⟨DOM.WV_HOLD k, 7, 0⟩
def DOM.SEL_STAT (k : Nat) : Nat := 0x100C + 256 * k
def DOM.SEL_STAT_DSTATE (k : Nat) : Field := ⟨DOM.SEL_STAT k, 15, 13⟩
def DOM.SEL_STAT_SEL_VALID (k : Nat) : Field := ⟨DOM.SEL_STAT k, 12, 12⟩
def DOM.SEL_STAT_SEL_SLOT (k : Nat) : Field := ⟨DOM.SEL_STAT k, 11, 9⟩
def DOM.SEL_STAT_MAN_PEND (k : Nat) : Field := ⟨DOM.SEL_STAT k, 8, 8⟩
def DOM.SEL_STAT_BO_SLEW (k : Nat) : Field := ⟨DOM.SEL_STAT k, 7, 7⟩
def DOM.SEL_STAT_CFG_ERR (k : Nat) : Field := ⟨DOM.SEL_STAT k, 6, 6⟩
def DOM.SEL_STAT_SEL_REF (k : Nat) : Field := ⟨DOM.SEL_STAT k, 5, 0⟩
def DOM.SEL_STAT2 (k : Nat) : Nat := 0x100D + 256 * k
def DOM.SEL_STAT2_LAST_CAUSE (k : Nat) : Field := ⟨DOM.SEL_STAT2 k, 15, 13⟩
def DOM.SEL_STAT2_WV_BASIS (k : Nat) : Field := ⟨DOM.SEL_STAT2 k, 12, 10⟩
def DOM.SEL_STAT2_SW_EPOCHS (k : Nat) : Field := ⟨DOM.SEL_STAT2 k, 7, 0⟩
def DOM.CAND_STAT (k : Nat) : Nat := 0x100E + 256 * k
def DOM.CAND_STAT_TIED (k : Nat) : Field := ⟨DOM.CAND_STAT k, 15, 8⟩
def DOM.CAND_STAT_USABLE (k : Nat) : Field := ⟨DOM.CAND_STAT k, 7, 0⟩
def DOM.BO_OFS (k : Nat) : Nat := 0x100F + 256 * k
def DOM.BO_RESID (k : Nat) : Nat := 0x1012 + 256 * k
def DOM.SEL_EVT (k : Nat) : Nat := 0x1013 + 256 * k
def DOM.SEL_EVT_SWITCHED (k : Nat) : Field := ⟨DOM.SEL_EVT k, 15, 15⟩
def DOM.SEL_EVT_DISAGREE (k : Nat) : Field := ⟨DOM.SEL_EVT k, 14, 14⟩
def DOM.SEL_EVT_NO_CAND (k : Nat) : Field := ⟨DOM.SEL_EVT k, 13, 13⟩
def DOM.SEL_EVT_RESTART (k : Nat) : Field := ⟨DOM.SEL_EVT k, 12, 12⟩
def DOM.SEL_EVT_CLEAR_REFUSED (k : Nat) : Field := ⟨DOM.SEL_EVT k, 11, 11⟩
def DOM.SWITCH_CNT (k : Nat) : Nat := 0x1014 + 256 * k
def DOM.SW_FAIL_CNT (k : Nat) : Nat := 0x1015 + 256 * k
def DOM.SW_REVERT_CNT (k : Nat) : Nat := 0x1016 + 256 * k
def DOM.SW_MANUAL_CNT (k : Nat) : Nat := 0x1017 + 256 * k
def DOM.SW_VANE_CNT (k : Nat) : Nat := 0x1018 + 256 * k
def DOM.EVT_CLASS_SW (k : Nat) : Nat := 0x1019 + 256 * k
def DOM.EVT_CLASS_SW_THRESH_N (k : Nat) : Field := ⟨DOM.EVT_CLASS_SW k, 15, 8⟩
def DOM.EVT_CLASS_SW_ROUTE (k : Nat) : Field := ⟨DOM.EVT_CLASS_SW k, 7, 5⟩
def DOM.EVT_CLASS_SW_REACT (k : Nat) : Field := ⟨DOM.EVT_CLASS_SW k, 4, 4⟩
def DOM.EVT_CLASS_SW_INJ_REACT (k : Nat) : Field := ⟨DOM.EVT_CLASS_SW k, 3, 3⟩
def DOM.EVT_CLASS_SW_FORCE (k : Nat) : Field := ⟨DOM.EVT_CLASS_SW k, 2, 2⟩
def DOM.EVT_WINDOW_SW (k : Nat) : Nat := 0x101A + 256 * k
def DOM.LOOP_CTRL (k : Nat) : Nat := 0x101B + 256 * k
def DOM.LOOP_CTRL_DAMP (k : Nat) : Field := ⟨DOM.LOOP_CTRL k, 15, 14⟩
def DOM.LOOP_CTRL_CNT_CLR (k : Nat) : Field := ⟨DOM.LOOP_CTRL k, 13, 13⟩
def DOM.BW (k : Nat) : Nat := 0x101C + 256 * k
def DOM.SLOPE (k : Nat) : Nat := 0x101E + 256 * k
def DOM.SLOPE_SLOPE (k : Nat) : Field := ⟨DOM.SLOPE k, 9, 0⟩
def DOM.LOCK_THR (k : Nat) : Nat := 0x101F + 256 * k
def DOM.LOCK_TIME (k : Nat) : Nat := 0x1020 + 256 * k
def DOM.PULLIN (k : Nat) : Nat := 0x1021 + 256 * k
def DOM.OFFSET (k : Nat) : Nat := 0x1023 + 256 * k
def DOM.HO_CFG (k : Nat) : Nat := 0x1026 + 256 * k
def DOM.HO_CFG_HO_EXCL (k : Nat) : Field := ⟨DOM.HO_CFG k, 7, 0⟩
def DOM.HO_AVG (k : Nat) : Nat := 0x1027 + 256 * k
def DOM.HO_AVG_HO_AVG (k : Nat) : Field := ⟨DOM.HO_AVG k, 11, 0⟩
def DOM.HO_LIMIT (k : Nat) : Nat := 0x1028 + 256 * k
def DOM.LOOP_STAT (k : Nat) : Nat := 0x102A + 256 * k
def DOM.LOOP_STAT_CLAMPED (k : Nat) : Field := ⟨DOM.LOOP_STAT k, 15, 15⟩
def DOM.LOOP_STAT_FROZEN (k : Nat) : Field := ⟨DOM.LOOP_STAT k, 14, 14⟩
def DOM.LOOP_STAT_HIT_HOLD (k : Nat) : Field := ⟨DOM.LOOP_STAT k, 13, 13⟩
def DOM.LOOP_STAT_LOCK_OK (k : Nat) : Field := ⟨DOM.LOOP_STAT k, 12, 12⟩
def DOM.LOOP_STAT_PRE_SETTLED (k : Nat) : Field := ⟨DOM.LOOP_STAT k, 11, 11⟩
def DOM.LOOP_STAT_HO_GRADE (k : Nat) : Field := ⟨DOM.LOOP_STAT k, 10, 9⟩
def DOM.LOOP_STAT_TRIM (k : Nat) : Field := ⟨DOM.LOOP_STAT k, 8, 8⟩
def DOM.LOOP_STAT_LEARN_SRC (k : Nat) : Field := ⟨DOM.LOOP_STAT k, 7, 7⟩
def DOM.LOOP_STAT_PULLIN_LTD (k : Nat) : Field := ⟨DOM.LOOP_STAT k, 6, 6⟩
def DOM.PH_ERR (k : Nat) : Nat := 0x102B + 256 * k
def DOM.FREQ (k : Nat) : Nat := 0x102E + 256 * k
def DOM.INTEG (k : Nat) : Nat := 0x1031 + 256 * k
def DOM.HO_FREQ (k : Nat) : Nat := 0x1034 + 256 * k
def DOM.HO_STAT (k : Nat) : Nat := 0x1037 + 256 * k
def DOM.HO_STAT_EXPIRED (k : Nat) : Field := ⟨DOM.HO_STAT k, 15, 15⟩
def DOM.HO_STAT_ACTIVE (k : Nat) : Field := ⟨DOM.HO_STAT k, 14, 14⟩
def DOM.HO_STAT_COLD_SEEN (k : Nat) : Field := ⟨DOM.HO_STAT k, 13, 13⟩
def DOM.HO_STAT_NOG_SEEN (k : Nat) : Field := ⟨DOM.HO_STAT k, 12, 12⟩
def DOM.HO_TE (k : Nat) : Nat := 0x1038 + 256 * k
def DOM.HO_TIME (k : Nat) : Nat := 0x103A + 256 * k
def DOM.HO_SIGF (k : Nat) : Nat := 0x103C + 256 * k
def DOM.TE_ENTRY (k : Nat) : Nat := 0x103D + 256 * k
def DOM.DTC_MAX (k : Nat) : Nat := 0x103E + 256 * k
def DOM.LOOP_EVT (k : Nat) : Nat := 0x103F + 256 * k
def DOM.LOOP_EVT_CLAMP (k : Nat) : Field := ⟨DOM.LOOP_EVT k, 15, 15⟩
def DOM.LOOP_EVT_UNLOCK (k : Nat) : Field := ⟨DOM.LOOP_EVT k, 14, 14⟩
def DOM.LOOP_EVT_HIT_HOLD (k : Nat) : Field := ⟨DOM.LOOP_EVT k, 13, 13⟩
def DOM.LOOP_EVT_REACQ (k : Nat) : Field := ⟨DOM.LOOP_EVT k, 12, 12⟩
def DOM.LOOP_EVT_FROZEN_SEEN (k : Nat) : Field := ⟨DOM.LOOP_EVT k, 11, 11⟩
def DOM.LOOP_EVT_CLEAR_REFUSED (k : Nat) : Field := ⟨DOM.LOOP_EVT k, 10, 10⟩
def DOM.LOOP_EVT_WRITE_LOST (k : Nat) : Field := ⟨DOM.LOOP_EVT k, 9, 9⟩
def DOM.CLAMP_CNT (k : Nat) : Nat := 0x1040 + 256 * k
def DOM.HIT_HOLD_CNT (k : Nat) : Nat := 0x1041 + 256 * k
def DOM.UNLOCK_CNT (k : Nat) : Nat := 0x1042 + 256 * k
def DOM.HO_CNT (k : Nat) : Nat := 0x1043 + 256 * k
def DOM.VOTE_REPAIR (k : Nat) : Nat := 0x1044 + 256 * k
def DOM.EVT_CLASS_ST (k : Nat) : Nat := 0x1045 + 256 * k
def DOM.EVT_CLASS_ST_THRESH_N (k : Nat) : Field := ⟨DOM.EVT_CLASS_ST k, 15, 8⟩
def DOM.EVT_CLASS_ST_ROUTE (k : Nat) : Field := ⟨DOM.EVT_CLASS_ST k, 7, 5⟩
def DOM.EVT_CLASS_ST_REACT (k : Nat) : Field := ⟨DOM.EVT_CLASS_ST k, 4, 4⟩
def DOM.EVT_CLASS_ST_INJ_REACT (k : Nat) : Field := ⟨DOM.EVT_CLASS_ST k, 3, 3⟩
def DOM.EVT_CLASS_ST_FORCE (k : Nat) : Field := ⟨DOM.EVT_CLASS_ST k, 2, 2⟩
def DOM.EVT_WINDOW_ST (k : Nat) : Nat := 0x1046 + 256 * k
def DOM.EVT_CLASS_AL (k : Nat) : Nat := 0x1047 + 256 * k
def DOM.EVT_CLASS_AL_THRESH_N (k : Nat) : Field := ⟨DOM.EVT_CLASS_AL k, 15, 8⟩
def DOM.EVT_CLASS_AL_ROUTE (k : Nat) : Field := ⟨DOM.EVT_CLASS_AL k, 7, 5⟩
def DOM.EVT_CLASS_AL_REACT (k : Nat) : Field := ⟨DOM.EVT_CLASS_AL k, 4, 4⟩
def DOM.EVT_CLASS_AL_INJ_REACT (k : Nat) : Field := ⟨DOM.EVT_CLASS_AL k, 3, 3⟩
def DOM.EVT_CLASS_AL_FORCE (k : Nat) : Field := ⟨DOM.EVT_CLASS_AL k, 2, 2⟩
def DOM.EVT_WINDOW_AL (k : Nat) : Nat := 0x1048 + 256 * k
def DOM.HIST_SEL (k : Nat) : Nat := 0x1049 + 256 * k
def DOM.HIST_SEL_HH_BLOCK (k : Nat) : Field := ⟨DOM.HIST_SEL k, 15, 10⟩
def DOM.HIST_SEL_ENTRY (k : Nat) : Field := ⟨DOM.HIST_SEL k, 5, 4⟩
def DOM.HIST_SEL_WORD (k : Nat) : Field := ⟨DOM.HIST_SEL k, 2, 0⟩
def DOM.HIST_DATA (k : Nat) : Nat := 0x104A + 256 * k
def DOM.HHIST_CTRL (k : Nat) : Nat := 0x104B + 256 * k
def DOM.HHIST_CTRL_FREEZE (k : Nat) : Field := ⟨DOM.HHIST_CTRL k, 15, 15⟩
def DOM.HHIST_CTRL_COUNT (k : Nat) : Field := ⟨DOM.HHIST_CTRL k, 11, 0⟩
def DOM.LOCKED_S (k : Nat) : Nat := 0x104C + 256 * k
def DOM.HO_SE (k : Nat) : Nat := 0x104E + 256 * k
def DOM.HO_N (k : Nat) : Nat := 0x104F + 256 * k
def DOM.HO_N_HO_N (k : Nat) : Field := ⟨DOM.HO_N k, 11, 0⟩
def DOM.SLOTV (k : Nat) (i : Nat) : Nat := 0x1050 + 256 * k + i
def DOM.HH (k : Nat) (i : Nat) : Nat := 0x1080 + 256 * k + i
def DOM.rows0 : List RegDef := [
  ⟨0x00, 1, 1, [⟨15, 14, .rw, 0, true⟩, ⟨13, 13, .rw, 0, true⟩, ⟨12, 12, .rw, 0, true⟩, ⟨11, 8, .rw, 15, true⟩, ⟨7, 7, .sc, 0, false⟩, ⟨6, 6, .sc, 0, false⟩]⟩,
  ⟨0x01, 8, 1, [⟨15, 15, .rw, 0, true⟩, ⟨11, 8, .rw, 15, true⟩, ⟨5, 0, .rw, 63, true⟩]⟩,
  ⟨0x09, 1, 1, [⟨15, 0, .rw, 10000, false⟩]⟩,
  ⟨0x0A, 1, 1, [⟨15, 0, .rw, 0, false⟩]⟩,
  ⟨0x0B, 1, 1, [⟨7, 0, .rw, 10, false⟩]⟩,
  ⟨0x0C, 1, 1, [⟨15, 13, .ro, 0, false⟩, ⟨12, 12, .ro, 0, false⟩, ⟨11, 9, .ro, 0, false⟩, ⟨8, 8, .ro, 0, false⟩, ⟨7, 7, .ro, 0, false⟩, ⟨6, 6, .ro, 0, false⟩, ⟨5, 0, .ro, 63, false⟩]⟩,
  ⟨0x0D, 1, 1, [⟨15, 13, .ro, 0, false⟩, ⟨12, 10, .ro, 0, false⟩, ⟨7, 0, .ro, 0, false⟩]⟩,
  ⟨0x0E, 1, 1, [⟨15, 8, .ro, 0, false⟩, ⟨7, 0, .ro, 0, false⟩]⟩,
  ⟨0x0F, 1, 1, [⟨15, 0, .ro, 0, false⟩]⟩,
  ⟨0x10, 1, 1, [⟨15, 0, .ro, 0, false⟩]⟩,
  ⟨0x11, 1, 1, [⟨15, 0, .ro, 0, false⟩]⟩,
  ⟨0x12, 1, 1, [⟨15, 0, .ro, 0, false⟩]⟩,
  ⟨0x13, 1, 1, [⟨15, 15, .w1c, 0, false⟩, ⟨14, 14, .w1c, 0, false⟩, ⟨13, 13, .w1c, 0, false⟩, ⟨12, 12, .w1c, 0, false⟩, ⟨11, 11, .w1c, 0, false⟩]⟩,
  ⟨0x14, 1, 1, [⟨15, 0, .cnt, 0, false⟩]⟩,
  ⟨0x15, 1, 1, [⟨15, 0, .cnt, 0, false⟩]⟩,
  ⟨0x16, 1, 1, [⟨15, 0, .cnt, 0, false⟩]⟩,
  ⟨0x17, 1, 1, [⟨15, 0, .cnt, 0, false⟩]⟩,
  ⟨0x18, 1, 1, [⟨15, 0, .cnt, 0, false⟩]⟩,
  ⟨0x19, 1, 1, [⟨15, 8, .rw, 0, false⟩, ⟨7, 5, .rw, 0, false⟩, ⟨4, 4, .rw, 0, false⟩, ⟨3, 3, .rw, 0, false⟩, ⟨2, 2, .sc, 0, false⟩]⟩,
  ⟨0x1A, 1, 1, [⟨15, 0, .rw, 0, false⟩]⟩,
  ⟨0x1B, 1, 1, [⟨15, 14, .rw, 0, true⟩, ⟨13, 13, .sc, 0, false⟩]⟩,
  ⟨0x1C, 1, 1, [⟨15, 0, .rw, 34464, true⟩]⟩,
  ⟨0x1D, 1, 1, [⟨7, 0, .rw, 1, true⟩]⟩,
  ⟨0x1E, 1, 1, [⟨9, 0, .rw, 0, true⟩]⟩,
  ⟨0x1F, 1, 1, [⟨15, 0, .rw, 100, false⟩]⟩,
  ⟨0x20, 1, 1, [⟨15, 0, .rw, 100, false⟩]⟩,
  ⟨0x21, 1, 1, [⟨15, 0, .rw, 12480, true⟩]⟩,
  ⟨0x22, 1, 1, [⟨15, 0, .rw, 70, true⟩]⟩,
  ⟨0x23, 1, 1, [⟨15, 0, .rw, 0, true⟩]⟩,
  ⟨0x24, 1, 1, [⟨15, 0, .rw, 0, true⟩]⟩,
  ⟨0x25, 1, 1, [⟨7, 0, .rw, 0, true⟩]⟩,
  ⟨0x26, 1, 1, [⟨7, 0, .rw, 2, false⟩]⟩,
  ⟨0x27, 1, 1, [⟨11, 0, .rw, 300, false⟩]⟩,
  ⟨0x28, 1, 1, [⟨15, 0, .rw, 1000, false⟩]⟩,
  ⟨0x29, 1, 1, [⟨15, 0, .rw, 0, false⟩]⟩,
  ⟨0x2A, 1, 1, [⟨15, 15, .ro, 0, false⟩, ⟨14, 14, .ro, 0, false⟩, ⟨13, 13, .ro, 0, false⟩, ⟨12, 12, .ro, 0, false⟩, ⟨11, 11, .ro, 1, false⟩, ⟨10, 9, .ro, 0, false⟩, ⟨8, 8, .ro, 0, false⟩, ⟨7, 7, .ro, 0, false⟩, ⟨6, 6, .ro, 0, false⟩]⟩,
  ⟨0x2B, 1, 1, [⟨15, 0, .ro, 0, false⟩]⟩,
  ⟨0x2C, 1, 1, [⟨15, 0, .ro, 0, false⟩]⟩,
  ⟨0x2D, 1, 1, [⟨15, 0, .ro, 0, false⟩]⟩,
  ⟨0x2E, 1, 1, [⟨15, 0, .ro, 0, false⟩]⟩]
def DOM.rows1 : List RegDef := [
  ⟨0x2F, 1, 1, [⟨15, 0, .ro, 0, false⟩]⟩,
  ⟨0x30, 1, 1, [⟨7, 0, .ro, 0, false⟩]⟩,
  ⟨0x31, 1, 1, [⟨15, 0, .ro, 0, false⟩]⟩,
  ⟨0x32, 1, 1, [⟨15, 0, .ro, 0, false⟩]⟩,
  ⟨0x33, 1, 1, [⟨7, 0, .ro, 0, false⟩]⟩,
  ⟨0x34, 1, 1, [⟨15, 0, .ro, 0, false⟩]⟩,
  ⟨0x35, 1, 1, [⟨15, 0, .ro, 0, false⟩]⟩,
  ⟨0x36, 1, 1, [⟨7, 0, .ro, 0, false⟩]⟩,
  ⟨0x37, 1, 1, [⟨15, 15, .w1c, 0, false⟩, ⟨14, 14, .ro, 0, false⟩, ⟨13, 13, .ro, 0, false⟩, ⟨12, 12, .ro, 0, false⟩]⟩,
  ⟨0x38, 1, 1, [⟨15, 0, .ro, 0, false⟩]⟩,
  ⟨0x39, 1, 1, [⟨15, 0, .ro, 0, false⟩]⟩,
  ⟨0x3A, 1, 1, [⟨15, 0, .ro, 0, false⟩]⟩,
  ⟨0x3B, 1, 1, [⟨15, 0, .ro, 0, false⟩]⟩,
  ⟨0x3C, 1, 1, [⟨15, 0, .ro, 0, false⟩]⟩,
  ⟨0x3D, 1, 1, [⟨15, 0, .ro, 0, false⟩]⟩,
  ⟨0x3E, 1, 1, [⟨15, 0, .ro, 0, false⟩]⟩,
  ⟨0x3F, 1, 1, [⟨15, 15, .w1c, 0, false⟩, ⟨14, 14, .w1c, 0, false⟩, ⟨13, 13, .w1c, 0, false⟩, ⟨12, 12, .w1c, 0, false⟩, ⟨11, 11, .w1c, 0, false⟩, ⟨10, 10, .w1c, 0, false⟩, ⟨9, 9, .w1c, 0, false⟩]⟩,
  ⟨0x40, 1, 1, [⟨15, 0, .cnt, 0, false⟩]⟩,
  ⟨0x41, 1, 1, [⟨15, 0, .cnt, 0, false⟩]⟩,
  ⟨0x42, 1, 1, [⟨15, 0, .cnt, 0, false⟩]⟩,
  ⟨0x43, 1, 1, [⟨15, 0, .cnt, 0, false⟩]⟩,
  ⟨0x44, 1, 1, [⟨15, 0, .cnt, 0, false⟩]⟩,
  ⟨0x45, 1, 1, [⟨15, 8, .rw, 0, false⟩, ⟨7, 5, .rw, 0, false⟩, ⟨4, 4, .rw, 0, false⟩, ⟨3, 3, .rw, 0, false⟩, ⟨2, 2, .sc, 0, false⟩]⟩,
  ⟨0x46, 1, 1, [⟨15, 0, .rw, 0, false⟩]⟩,
  ⟨0x47, 1, 1, [⟨15, 8, .rw, 0, false⟩, ⟨7, 5, .rw, 0, false⟩, ⟨4, 4, .rw, 0, false⟩, ⟨3, 3, .rw, 0, false⟩, ⟨2, 2, .sc, 0, false⟩]⟩,
  ⟨0x48, 1, 1, [⟨15, 0, .rw, 0, false⟩]⟩,
  ⟨0x49, 1, 1, [⟨15, 10, .rw, 0, false⟩, ⟨5, 4, .rw, 0, false⟩, ⟨2, 0, .rw, 0, false⟩]⟩,
  ⟨0x4A, 1, 1, [⟨15, 0, .ro, 0, false⟩]⟩,
  ⟨0x4B, 1, 1, [⟨15, 15, .rw, 0, false⟩, ⟨11, 0, .ro, 0, false⟩]⟩,
  ⟨0x4C, 1, 1, [⟨15, 0, .ro, 0, false⟩]⟩,
  ⟨0x4D, 1, 1, [⟨15, 0, .ro, 0, false⟩]⟩,
  ⟨0x4E, 1, 1, [⟨15, 0, .ro, 0, false⟩]⟩,
  ⟨0x4F, 1, 1, [⟨11, 0, .ro, 0, false⟩]⟩,
  ⟨0x50, 48, 1, [⟨15, 0, .ro, 0, false⟩]⟩,
  ⟨0x80, 128, 1, [⟨15, 0, .ro, 0, false⟩]⟩]
def DOM.rows : List RegDef := DOM.rows0 ++ DOM.rows1

/-! ### SYN: base 0x1800, 7 instance(s), stride 0x100 -/
def SYN.CTRL (k : Nat) : Nat := 0x1800 + 256 * k
def SYN.CTRL_EN (k : Nat) : Field := ⟨SYN.CTRL k, 15, 15⟩
def SYN.CTRL_UPDATE (k : Nat) : Field := ⟨SYN.CTRL k, 14, 14⟩
def SYN.CTRL_PFD_SEL (k : Nat) : Field := ⟨SYN.CTRL k, 13, 12⟩
def SYN.CTRL_LD_MODE (k : Nat) : Field := ⟨SYN.CTRL k, 11, 10⟩
def SYN.CTRL_RECAL (k : Nat) : Field := ⟨SYN.CTRL k, 9, 9⟩
def SYN.CTRL_CNT_CLR (k : Nat) : Field := ⟨SYN.CTRL k, 8, 8⟩
def SYN.CTRL_HIST_ENTRY (k : Nat) : Field := ⟨SYN.CTRL k, 7, 6⟩
def SYN.CTRL_HIST_WORD (k : Nat) : Field := ⟨SYN.CTRL k, 5, 3⟩
def SYN.CTRL_COMP (k : Nat) : Field := ⟨SYN.CTRL k, 2, 2⟩
def SYN.STAT (k : Nat) : Nat := 0x1801 + 256 * k
def SYN.STAT_STATE (k : Nat) : Field := ⟨SYN.STAT k, 15, 13⟩
def SYN.STAT_GATED (k : Nat) : Field := ⟨SYN.STAT k, 12, 12⟩
def SYN.STAT_BYPASS (k : Nat) : Field := ⟨SYN.STAT k, 11, 11⟩
def SYN.STAT_BT_EMPTY (k : Nat) : Field := ⟨SYN.STAT k, 10, 10⟩
def SYN.STAT_BAND_NONE (k : Nat) : Field := ⟨SYN.STAT k, 9, 9⟩
def SYN.STAT_LD_FALLBACK (k : Nat) : Field := ⟨SYN.STAT k, 8, 8⟩
def SYN.STAT_STROBE_PEND (k : Nat) : Field := ⟨SYN.STAT k, 7, 7⟩
def SYN.STAT_ALOCK (k : Nat) : Field := ⟨SYN.STAT k, 6, 6⟩
def SYN.STAT_CLOCK (k : Nat) : Field := ⟨SYN.STAT k, 5, 5⟩
def SYN.STAT_TOL_RAISED (k : Nat) : Field := ⟨SYN.STAT k, 4, 4⟩
def SYN.EVT (k : Nat) : Nat := 0x1802 + 256 * k
def SYN.EVT_LOCK_LOST (k : Nat) : Field := ⟨SYN.EVT k, 15, 15⟩
def SYN.EVT_BAND_FAULT (k : Nat) : Field := ⟨SYN.EVT k, 14, 14⟩
def SYN.EVT_TXN_ABORT (k : Nat) : Field := ⟨SYN.EVT k, 13, 13⟩
def SYN.EVT_CLEAR_REFUSED (k : Nat) : Field := ⟨SYN.EVT k, 12, 12⟩
def SYN.EVT_WRITE_LOST (k : Nat) : Field := ⟨SYN.EVT k, 11, 11⟩
def SYN.N_INT (k : Nat) : Nat := 0x1803 + 256 * k
def SYN.N_INT_N_INT (k : Nat) : Field := ⟨SYN.N_INT k, 9, 0⟩
def SYN.N_FRAC (k : Nat) : Nat := 0x1804 + 256 * k
def SYN.NA_INT (k : Nat) : Nat := 0x1807 + 256 * k
def SYN.NA_INT_NA_INT (k : Nat) : Field := ⟨SYN.NA_INT k, 9, 0⟩
def SYN.NA_FRAC (k : Nat) : Nat := 0x1808 + 256 * k
def SYN.GLIDE (k : Nat) : Nat := 0x180B + 256 * k
def SYN.BAND_CFG (k : Nat) : Nat := 0x180C + 256 * k
def SYN.BAND_CFG_LBW (k : Nat) : Field := ⟨SYN.BAND_CFG k, 14, 12⟩
def SYN.BAND_CFG_TUNE_HALF (k : Nat) : Field := ⟨SYN.BAND_CFG k, 11, 0⟩
def SYN.BYP_WAIT (k : Nat) : Nat := 0x180D + 256 * k
def SYN.BYP_WAIT_BYP_WAIT (k : Nat) : Field := ⟨SYN.BYP_WAIT k, 13, 0⟩
def SYN.LD_CFG (k : Nat) : Nat := 0x180E + 256 * k
def SYN.LD_CFG_K (k : Nat) : Field := ⟨SYN.LD_CFG k, 15, 12⟩
def SYN.LD_CFG_WIN (k : Nat) : Field := ⟨SYN.LD_CFG k, 9, 0⟩
def SYN.LD_TOL (k : Nat) : Nat := 0x180F + 256 * k
def SYN.LD_TOL_TOL (k : Nat) : Field := ⟨SYN.LD_TOL k, 13, 0⟩
def SYN.T_CAL (k : Nat) : Nat := 0x1810 + 256 * k
def SYN.BT_CTRL (k : Nat) : Nat := 0x1811 + 256 * k
def SYN.BT_CTRL_COUNT (k : Nat) : Field := ⟨SYN.BT_CTRL k, 14, 8⟩
def SYN.BT_CTRL_INDEX (k : Nat) : Field := ⟨SYN.BT_CTRL k, 5, 0⟩
def SYN.BT_DATA0 (k : Nat) : Nat := 0x1812 + 256 * k
def SYN.BT_DATA1 (k : Nat) : Nat := 0x1813 + 256 * k
def SYN.BT_DATA1_CODE (k : Nat) : Field := ⟨SYN.BT_DATA1 k, 15, 10⟩
def SYN.BT_DATA1_FCAL_23_16 (k : Nat) : Field := ⟨SYN.BT_DATA1 k, 7, 0⟩
def SYN.BT_DATA2 (k : Nat) : Nat := 0x1814 + 256 * k
def SYN.BAND_STAT (k : Nat) : Nat := 0x1815 + 256 * k
def SYN.BAND_STAT_ENTRY (k : Nat) : Field := ⟨SYN.BAND_STAT k, 13, 8⟩
def SYN.BAND_STAT_CODE (k : Nat) : Field := ⟨SYN.BAND_STAT k, 5, 0⟩
def SYN.T_DIE (k : Nat) : Nat := 0x1816 + 256 * k
def SYN.UNLOCK_CNT (k : Nat) : Nat := 0x1817 + 256 * k
def SYN.BANDCHG_CNT (k : Nat) : Nat := 0x1818 + 256 * k
def SYN.GLIDE_CNT (k : Nat) : Nat := 0x1819 + 256 * k
def SYN.TXN_ABORT_CNT (k : Nat) : Nat := 0x181A + 256 * k
def SYN.EVT_CLASS_LL (k : Nat) : Nat := 0x181B + 256 * k
def SYN.EVT_CLASS_LL_THRESH_N (k : Nat) : Field := ⟨SYN.EVT_CLASS_LL k, 15, 8⟩
def SYN.EVT_CLASS_LL_ROUTE (k : Nat) : Field := ⟨SYN.EVT_CLASS_LL k, 7, 5⟩
def SYN.EVT_CLASS_LL_REACT (k : Nat) : Field := ⟨SYN.EVT_CLASS_LL k, 4, 4⟩
def SYN.EVT_CLASS_LL_INJ_REACT (k : Nat) : Field := ⟨SYN.EVT_CLASS_LL k, 3, 3⟩
def SYN.EVT_CLASS_LL_FORCE (k : Nat) : Field := ⟨SYN.EVT_CLASS_LL k, 2, 2⟩
def SYN.EVT_WINDOW_LL (k : Nat) : Nat := 0x181C + 256 * k
def SYN.EVT_CLASS_BF (k : Nat) : Nat := 0x181D + 256 * k
def SYN.EVT_CLASS_BF_THRESH_N (k : Nat) : Field := ⟨SYN.EVT_CLASS_BF k, 15, 8⟩
def SYN.EVT_CLASS_BF_ROUTE (k : Nat) : Field := ⟨SYN.EVT_CLASS_BF k, 7, 5⟩
def SYN.EVT_CLASS_BF_REACT (k : Nat) : Field := ⟨SYN.EVT_CLASS_BF k, 4, 4⟩
def SYN.EVT_CLASS_BF_INJ_REACT (k : Nat) : Field := ⟨SYN.EVT_CLASS_BF k, 3, 3⟩
def SYN.EVT_CLASS_BF_FORCE (k : Nat) : Field := ⟨SYN.EVT_CLASS_BF k, 2, 2⟩
def SYN.EVT_WINDOW_BF (k : Nat) : Nat := 0x181E + 256 * k
def SYN.HIST_DATA (k : Nat) : Nat := 0x181F + 256 * k
def SYN.PRED (k : Nat) (i : Nat) : Nat := 0x1820 + 256 * k + i
def SYN.rows0 : List RegDef := [
  ⟨0x00, 1, 1, [⟨15, 15, .rw, 0, true⟩, ⟨14, 14, .sc, 0, false⟩, ⟨13, 12, .rw, 0, true⟩, ⟨11, 10, .rw, 0, true⟩, ⟨9, 9, .sc, 0, false⟩, ⟨8, 8, .sc, 0, false⟩, ⟨7, 6, .rw, 0, false⟩, ⟨5, 3, .rw, 0, false⟩, ⟨2, 2, .rw, 1, false⟩]⟩,
  ⟨0x01, 1, 1, [⟨15, 13, .ro, 0, false⟩, ⟨12, 12, .ro, 0, false⟩, ⟨11, 11, .ro, 0, false⟩, ⟨10, 10, .ro, 0, false⟩, ⟨9, 9, .ro, 0, false⟩, ⟨8, 8, .ro, 0, false⟩, ⟨7, 7, .ro, 0, false⟩, ⟨6, 6, .ro, 0, false⟩, ⟨5, 5, .ro, 0, false⟩, ⟨4, 4, .ro, 0, false⟩]⟩,
  ⟨0x02, 1, 1, [⟨15, 15, .w1c, 0, false⟩, ⟨14, 14, .w1c, 0, false⟩, ⟨13, 13, .w1c, 0, false⟩, ⟨12, 12, .w1c, 0, false⟩, ⟨11, 11, .w1c, 0, false⟩]⟩,
  ⟨0x03, 1, 1, [⟨9, 0, .rw, 78, true⟩]⟩,
  ⟨0x04, 1, 1, [⟨15, 0, .rw, 0, true⟩]⟩,
  ⟨0x05, 1, 1, [⟨15, 0, .rw, 0, true⟩]⟩,
  ⟨0x06, 1, 1, [⟨15, 0, .rw, 8192, true⟩]⟩,
  ⟨0x07, 1, 1, [⟨9, 0, .ro, 78, false⟩]⟩,
  ⟨0x08, 1, 1, [⟨15, 0, .ro, 0, false⟩]⟩,
  ⟨0x09, 1, 1, [⟨15, 0, .ro, 0, false⟩]⟩,
  ⟨0x0A, 1, 1, [⟨15, 0, .ro, 8192, false⟩]⟩,
  ⟨0x0B, 1, 1, [⟨15, 0, .rw, 1000, false⟩]⟩,
  ⟨0x0C, 1, 1, [⟨14, 12, .rw, 2, true⟩, ⟨11, 0, .rw, 600, false⟩]⟩,
  ⟨0x0D, 1, 1, [⟨13, 0, .rw, 1000, true⟩]⟩,
  ⟨0x0E, 1, 1, [⟨15, 12, .rw, 4, true⟩, ⟨9, 0, .rw, 10, true⟩]⟩,
  ⟨0x0F, 1, 1, [⟨13, 0, .rw, 1000, true⟩]⟩,
  ⟨0x10, 1, 1, [⟨15, 0, .rw, 2500, false⟩]⟩,
  ⟨0x11, 1, 1, [⟨14, 8, .rw, 0, true⟩, ⟨5, 0, .rw, 0, false⟩]⟩,
  ⟨0x12, 1, 1, [⟨15, 0, .rw, 0, false⟩]⟩,
  ⟨0x13, 1, 1, [⟨15, 10, .rw, 0, false⟩, ⟨7, 0, .rw, 0, false⟩]⟩,
  ⟨0x14, 1, 1, [⟨15, 0, .rw, 0, false⟩]⟩,
  ⟨0x15, 1, 1, [⟨13, 8, .ro, 0, false⟩, ⟨5, 0, .ro, 0, false⟩]⟩,
  ⟨0x16, 1, 1, [⟨15, 0, .ro, 0, false⟩]⟩,
  ⟨0x17, 1, 1, [⟨15, 0, .cnt, 0, false⟩]⟩,
  ⟨0x18, 1, 1, [⟨15, 0, .cnt, 0, false⟩]⟩,
  ⟨0x19, 1, 1, [⟨15, 0, .cnt, 0, false⟩]⟩,
  ⟨0x1A, 1, 1, [⟨15, 0, .cnt, 0, false⟩]⟩,
  ⟨0x1B, 1, 1, [⟨15, 8, .rw, 0, false⟩, ⟨7, 5, .rw, 0, false⟩, ⟨4, 4, .rw, 0, false⟩, ⟨3, 3, .rw, 0, false⟩, ⟨2, 2, .sc, 0, false⟩]⟩,
  ⟨0x1C, 1, 1, [⟨15, 0, .rw, 0, false⟩]⟩,
  ⟨0x1D, 1, 1, [⟨15, 8, .rw, 0, false⟩, ⟨7, 5, .rw, 0, false⟩, ⟨4, 4, .rw, 0, false⟩, ⟨3, 3, .rw, 0, false⟩, ⟨2, 2, .sc, 0, false⟩]⟩,
  ⟨0x1E, 1, 1, [⟨15, 0, .rw, 0, false⟩]⟩,
  ⟨0x1F, 1, 1, [⟨15, 0, .ro, 0, false⟩]⟩,
  ⟨0x20, 64, 1, [⟨15, 0, .ro, 0, false⟩]⟩]
def SYN.rows : List RegDef := SYN.rows0

/-! ### OUT: base 0x2000, 40 instance(s), stride 0x20 -/
def OUT.CFG (k : Nat) : Nat := 0x2000 + 32 * k
def OUT.CFG_MODE (k : Nat) : Field := ⟨OUT.CFG k, 15, 14⟩
def OUT.CFG_SRC_SYN (k : Nat) : Field := ⟨OUT.CFG k, 13, 11⟩
def OUT.CFG_FORMAT (k : Nat) : Field := ⟨OUT.CFG k, 10, 8⟩
def OUT.CFG_VDDO_SEL (k : Nat) : Field := ⟨OUT.CFG k, 7, 6⟩
def OUT.CFG_AMP (k : Nat) : Field := ⟨OUT.CFG k, 5, 4⟩
def OUT.CFG_INV (k : Nat) : Field := ⟨OUT.CFG k, 3, 3⟩
def OUT.CTRL (k : Nat) : Nat := 0x2001 + 32 * k
def OUT.CTRL_EN (k : Nat) : Field := ⟨OUT.CTRL k, 15, 15⟩
def OUT.CTRL_SAFE (k : Nat) : Field := ⟨OUT.CTRL k, 14, 13⟩
def OUT.CTRL_BYP_SRC (k : Nat) : Field := ⟨OUT.CTRL k, 12, 11⟩
def OUT.CTRL_PG_SEL (k : Nat) : Field := ⟨OUT.CTRL k, 10, 8⟩
def OUT.CTRL_CNT_CLR (k : Nat) : Field := ⟨OUT.CTRL k, 7, 7⟩
def OUT.DIV (k : Nat) : Nat := 0x2002 + 32 * k
def OUT.BYP_DIV (k : Nat) : Nat := 0x2004 + 32 * k
def OUT.STEP (k : Nat) : Nat := 0x2006 + 32 * k
def OUT.DLY (k : Nat) : Nat := 0x2007 + 32 * k
def OUT.STAT (k : Nat) : Nat := 0x2008 + 32 * k
def OUT.STAT_OSTATE (k : Nat) : Field := ⟨OUT.STAT k, 15, 13⟩
def OUT.STAT_STEP_BUSY (k : Nat) : Field := ⟨OUT.STAT k, 12, 12⟩
def OUT.STAT_CFG_ERR (k : Nat) : Field := ⟨OUT.STAT k, 11, 11⟩
def OUT.STAT_DRV_FAULT (k : Nat) : Field := ⟨OUT.STAT k, 10, 10⟩
def OUT.STAT_COVERED (k : Nat) : Field := ⟨OUT.STAT k, 9, 9⟩
def OUT.EVT (k : Nat) : Nat := 0x2009 + 32 * k
def OUT.EVT_GATE (k : Nat) : Field := ⟨OUT.EVT k, 15, 15⟩
def OUT.EVT_BYP (k : Nat) : Field := ⟨OUT.EVT k, 14, 14⟩
def OUT.EVT_DRV_FAULT (k : Nat) : Field := ⟨OUT.EVT k, 13, 13⟩
def OUT.EVT_ALIGNED (k : Nat) : Field := ⟨OUT.EVT k, 12, 12⟩
def OUT.EVT_DIV_REFUSED (k : Nat) : Field := ⟨OUT.EVT k, 11, 11⟩
def OUT.EVT_CLEAR_REFUSED (k : Nat) : Field := ⟨OUT.EVT k, 10, 10⟩
def OUT.EVT_WRITE_LOST (k : Nat) : Field := ⟨OUT.EVT k, 9, 9⟩
def OUT.CYC_DUE (k : Nat) : Nat := 0x200A + 32 * k
def OUT.CYC_EMIT (k : Nat) : Nat := 0x200D + 32 * k
def OUT.CYC_GATED (k : Nat) : Nat := 0x2010 + 32 * k
def OUT.STEPPED (k : Nat) : Nat := 0x2013 + 32 * k
def OUT.DIV_ACT (k : Nat) : Nat := 0x2015 + 32 * k
def OUT.GATE_CNT (k : Nat) : Nat := 0x2017 + 32 * k
def OUT.rows0 : List RegDef := [
  ⟨0x00, 1, 1, [⟨15, 14, .rw, 0, true⟩, ⟨13, 11, .rw, 7, true⟩, ⟨10, 8, .rw, 1, false⟩, ⟨7, 6, .rw, 2, false⟩, ⟨5, 4, .rw, 0, false⟩, ⟨3, 3, .rw, 0, false⟩]⟩,
  ⟨0x01, 1, 1, [⟨15, 15, .rw, 0, true⟩, ⟨14, 13, .rw, 0, true⟩, ⟨12, 11, .rw, 0, true⟩, ⟨10, 8, .rw, 0, false⟩, ⟨7, 7, .sc, 0, false⟩]⟩,
  ⟨0x02, 1, 1, [⟨15, 0, .rw, 0, true⟩]⟩,
  ⟨0x03, 1, 1, [⟨7, 0, .rw, 0, true⟩]⟩,
  ⟨0x04, 1, 1, [⟨15, 0, .rw, 0, true⟩]⟩,
  ⟨0x05, 1, 1, [⟨7, 0, .rw, 0, true⟩]⟩,
  ⟨0x06, 1, 1, [⟨15, 0, .sh, 0, false⟩]⟩,
  ⟨0x07, 1, 1, [⟨15, 0, .rw, 0, false⟩]⟩,
  ⟨0x08, 1, 1, [⟨15, 13, .ro, 0, false⟩, ⟨12, 12, .ro, 0, false⟩, ⟨11, 11, .ro, 0, false⟩, ⟨10, 10, .ro, 0, false⟩, ⟨9, 9, .ro, 0, false⟩]⟩,
  ⟨0x09, 1, 1, [⟨15, 15, .w1c, 0, false⟩, ⟨14, 14, .w1c, 0, false⟩, ⟨13, 13, .w1c, 0, false⟩, ⟨12, 12, .w1c, 0, false⟩, ⟨11, 11, .w1c, 0, false⟩, ⟨10, 10, .w1c, 0, false⟩, ⟨9, 9, .w1c, 0, false⟩]⟩,
  ⟨0x0A, 1, 1, [⟨15, 0, .ro, 0, false⟩]⟩,
  ⟨0x0B, 1, 1, [⟨15, 0, .ro, 0, false⟩]⟩,
  ⟨0x0C, 1, 1, [⟨15, 0, .ro, 0, false⟩]⟩,
  ⟨0x0D, 1, 1, [⟨15, 0, .ro, 0, false⟩]⟩,
  ⟨0x0E, 1, 1, [⟨15, 0, .ro, 0, false⟩]⟩,
  ⟨0x0F, 1, 1, [⟨15, 0, .ro, 0, false⟩]⟩,
  ⟨0x10, 1, 1, [⟨15, 0, .ro, 0, false⟩]⟩,
  ⟨0x11, 1, 1, [⟨15, 0, .ro, 0, false⟩]⟩,
  ⟨0x12, 1, 1, [⟨15, 0, .ro, 0, false⟩]⟩,
  ⟨0x13, 1, 1, [⟨15, 0, .ro, 0, false⟩]⟩,
  ⟨0x14, 1, 1, [⟨15, 0, .ro, 0, false⟩]⟩,
  ⟨0x15, 1, 1, [⟨15, 0, .ro, 0, false⟩]⟩,
  ⟨0x16, 1, 1, [⟨7, 0, .ro, 0, false⟩]⟩,
  ⟨0x17, 1, 1, [⟨15, 0, .cnt, 0, false⟩]⟩]
def OUT.rows : List RegDef := OUT.rows0

/-! ### OUTC: base 0x2500, 1 instance(s), stride 0x10 -/
def OUTC.OUT_CTRL : Nat := 0x2500
def OUTC.OUT_CTRL_CNT_CLR_ALL : Field := ⟨OUTC.OUT_CTRL, 15, 15⟩
def OUTC.OUT_CTRL_HIST_ENTRY : Field := ⟨OUTC.OUT_CTRL, 14, 13⟩
def OUTC.OUT_CTRL_HIST_WORD : Field := ⟨OUTC.OUT_CTRL, 12, 10⟩
def OUTC.HIST_DATA : Nat := 0x2501
def OUTC.SAFE_SUM (i : Nat) : Nat := 0x2502 + i
def OUTC.VOTE_REPAIR : Nat := 0x2505
def OUTC.DRV_FAULT_CNT : Nat := 0x2506
def OUTC.PG_SUM : Nat := 0x2507
def OUTC.PG_SUM_ALIGNING : Field := ⟨OUTC.PG_SUM, 15, 8⟩
def OUTC.PG_SUM_RUNNING : Field := ⟨OUTC.PG_SUM, 7, 0⟩
def OUTC.EVT_CLASS88 : Nat := 0x2508
def OUTC.EVT_CLASS88_THRESH_N : Field := ⟨OUTC.EVT_CLASS88, 15, 8⟩
def OUTC.EVT_CLASS88_ROUTE : Field := ⟨OUTC.EVT_CLASS88, 7, 5⟩
def OUTC.EVT_CLASS88_REACT : Field := ⟨OUTC.EVT_CLASS88, 4, 4⟩
def OUTC.EVT_CLASS88_INJ_REACT : Field := ⟨OUTC.EVT_CLASS88, 3, 3⟩
def OUTC.EVT_CLASS88_FORCE : Field := ⟨OUTC.EVT_CLASS88, 2, 2⟩
def OUTC.EVT_WINDOW88 : Nat := 0x2509
def OUTC.EVT_CLASS89 : Nat := 0x250A
def OUTC.EVT_CLASS89_THRESH_N : Field := ⟨OUTC.EVT_CLASS89, 15, 8⟩
def OUTC.EVT_CLASS89_ROUTE : Field := ⟨OUTC.EVT_CLASS89, 7, 5⟩
def OUTC.EVT_CLASS89_REACT : Field := ⟨OUTC.EVT_CLASS89, 4, 4⟩
def OUTC.EVT_CLASS89_INJ_REACT : Field := ⟨OUTC.EVT_CLASS89, 3, 3⟩
def OUTC.EVT_CLASS89_FORCE : Field := ⟨OUTC.EVT_CLASS89, 2, 2⟩
def OUTC.EVT_WINDOW89 : Nat := 0x250B
def OUTC.EVT_CLASS90 : Nat := 0x250C
def OUTC.EVT_CLASS90_THRESH_N : Field := ⟨OUTC.EVT_CLASS90, 15, 8⟩
def OUTC.EVT_CLASS90_ROUTE : Field := ⟨OUTC.EVT_CLASS90, 7, 5⟩
def OUTC.EVT_CLASS90_REACT : Field := ⟨OUTC.EVT_CLASS90, 4, 4⟩
def OUTC.EVT_CLASS90_INJ_REACT : Field := ⟨OUTC.EVT_CLASS90, 3, 3⟩
def OUTC.EVT_CLASS90_FORCE : Field := ⟨OUTC.EVT_CLASS90, 2, 2⟩
def OUTC.EVT_WINDOW90 : Nat := 0x250D
def OUTC.EVT_CLASS91 : Nat := 0x250E
def OUTC.EVT_CLASS91_THRESH_N : Field := ⟨OUTC.EVT_CLASS91, 15, 8⟩
def OUTC.EVT_CLASS91_ROUTE : Field := ⟨OUTC.EVT_CLASS91, 7, 5⟩
def OUTC.EVT_CLASS91_REACT : Field := ⟨OUTC.EVT_CLASS91, 4, 4⟩
def OUTC.EVT_CLASS91_INJ_REACT : Field := ⟨OUTC.EVT_CLASS91, 3, 3⟩
def OUTC.EVT_CLASS91_FORCE : Field := ⟨OUTC.EVT_CLASS91, 2, 2⟩
def OUTC.EVT_WINDOW91 : Nat := 0x250F
def OUTC.rows0 : List RegDef := [
  ⟨0x00, 1, 1, [⟨15, 15, .sc, 0, false⟩, ⟨14, 13, .rw, 0, false⟩, ⟨12, 10, .rw, 0, false⟩]⟩,
  ⟨0x01, 1, 1, [⟨15, 0, .ro, 0, false⟩]⟩,
  ⟨0x02, 3, 1, [⟨15, 0, .ro, 0, false⟩]⟩,
  ⟨0x05, 1, 1, [⟨15, 0, .cnt, 0, false⟩]⟩,
  ⟨0x06, 1, 1, [⟨15, 0, .cnt, 0, false⟩]⟩,
  ⟨0x07, 1, 1, [⟨15, 8, .ro, 0, false⟩, ⟨7, 0, .ro, 0, false⟩]⟩,
  ⟨0x08, 1, 1, [⟨15, 8, .rw, 0, false⟩, ⟨7, 5, .rw, 0, false⟩, ⟨4, 4, .rw, 0, false⟩, ⟨3, 3, .rw, 0, false⟩, ⟨2, 2, .sc, 0, false⟩]⟩,
  ⟨0x09, 1, 1, [⟨15, 0, .rw, 0, false⟩]⟩,
  ⟨0x0A, 1, 1, [⟨15, 8, .rw, 0, false⟩, ⟨7, 5, .rw, 0, false⟩, ⟨4, 4, .rw, 0, false⟩, ⟨3, 3, .rw, 0, false⟩, ⟨2, 2, .sc, 0, false⟩]⟩,
  ⟨0x0B, 1, 1, [⟨15, 0, .rw, 0, false⟩]⟩,
  ⟨0x0C, 1, 1, [⟨15, 8, .rw, 0, false⟩, ⟨7, 5, .rw, 0, false⟩, ⟨4, 4, .rw, 0, false⟩, ⟨3, 3, .rw, 0, false⟩, ⟨2, 2, .sc, 0, false⟩]⟩,
  ⟨0x0D, 1, 1, [⟨15, 0, .rw, 0, false⟩]⟩,
  ⟨0x0E, 1, 1, [⟨15, 8, .rw, 0, false⟩, ⟨7, 5, .rw, 0, false⟩, ⟨4, 4, .rw, 0, false⟩, ⟨3, 3, .rw, 0, false⟩, ⟨2, 2, .sc, 0, false⟩]⟩,
  ⟨0x0F, 1, 1, [⟨15, 0, .rw, 0, false⟩]⟩]
def OUTC.rows : List RegDef := OUTC.rows0

/-! ### PG: base 0x2510, 8 instance(s), stride 0x10 -/
def PG.PG_CTRL (k : Nat) : Nat := 0x2510 + 16 * k
def PG.PG_CTRL_EN (k : Nat) : Field := ⟨PG.PG_CTRL k, 15, 15⟩
def PG.PG_CTRL_TK_SEL (k : Nat) : Field := ⟨PG.PG_CTRL k, 14, 13⟩
def PG.PG_CTRL_POL (k : Nat) : Field := ⟨PG.PG_CTRL k, 12, 12⟩
def PG.PG_CTRL_ALIGN (k : Nat) : Field := ⟨PG.PG_CTRL k, 11, 11⟩
def PG.PG_CTRL_ALIGN_SRC (k : Nat) : Field := ⟨PG.PG_CTRL k, 10, 7⟩
def PG.PER_NUM (k : Nat) : Nat := 0x2511 + 16 * k
def PG.PER_DEN (k : Nat) : Nat := 0x2513 + 16 * k
def PG.WIDTH (k : Nat) : Nat := 0x2514 + 16 * k
def PG.OFFSET (k : Nat) : Nat := 0x2516 + 16 * k
def PG.ORIGIN_PH (k : Nat) : Nat := 0x2519 + 16 * k
def PG.PG_STAT (k : Nat) : Nat := 0x251C + 16 * k
def PG.PG_STAT_PSTATE (k : Nat) : Field := ⟨PG.PG_STAT k, 15, 14⟩
def PG.PG_STAT_CFG_ERR (k : Nat) : Field := ⟨PG.PG_STAT k, 13, 13⟩
def PG.PG_STAT_WIDTH_CLIP (k : Nat) : Field := ⟨PG.PG_STAT k, 12, 12⟩
def PG.PG_STAT_TK_INVALID (k : Nat) : Field := ⟨PG.PG_STAT k, 11, 11⟩
def PG.PG_EVT (k : Nat) : Nat := 0x251D + 16 * k
def PG.PG_EVT_ALIGNED (k : Nat) : Field := ⟨PG.PG_EVT k, 15, 15⟩
def PG.PG_EVT_TK_STEP (k : Nat) : Field := ⟨PG.PG_EVT k, 14, 14⟩
def PG.PG_EVT_ALIGN_ERR (k : Nat) : Field := ⟨PG.PG_EVT k, 13, 13⟩
def PG.PG_EVT_CLEAR_REFUSED (k : Nat) : Field := ⟨PG.PG_EVT k, 12, 12⟩
def PG.PG_EVT_WRITE_LOST (k : Nat) : Field := ⟨PG.PG_EVT k, 11, 11⟩
def PG.rows0 : List RegDef := [
  ⟨0x00, 1, 1, [⟨15, 15, .rw, 0, true⟩, ⟨14, 13, .rw, 0, true⟩, ⟨12, 12, .rw, 0, false⟩, ⟨11, 11, .sc, 0, false⟩, ⟨10, 7, .rw, 0, false⟩]⟩,
  ⟨0x01, 1, 1, [⟨15, 0, .rw, 51712, true⟩]⟩,
  ⟨0x02, 1, 1, [⟨15, 0, .rw, 15258, true⟩]⟩,
  ⟨0x03, 1, 1, [⟨15, 0, .rw, 1, true⟩]⟩,
  ⟨0x04, 1, 1, [⟨15, 0, .rw, 34464, false⟩]⟩,
  ⟨0x05, 1, 1, [⟨15, 0, .rw, 1, false⟩]⟩,
  ⟨0x06, 1, 1, [⟨15, 0, .rw, 0, true⟩]⟩,
  ⟨0x07, 1, 1, [⟨15, 0, .rw, 0, true⟩]⟩,
  ⟨0x08, 1, 1, [⟨7, 0, .rw, 0, true⟩]⟩,
  ⟨0x09, 1, 1, [⟨15, 0, .ro, 0, false⟩]⟩,
  ⟨0x0A, 1, 1, [⟨15, 0, .ro, 0, false⟩]⟩,
  ⟨0x0B, 1, 1, [⟨7, 0, .ro, 0, false⟩]⟩,
  ⟨0x0C, 1, 1, [⟨15, 14, .ro, 0, false⟩, ⟨13, 13, .ro, 0, false⟩, ⟨12, 12, .ro, 0, false⟩, ⟨11, 11, .ro, 0, false⟩]⟩,
  ⟨0x0D, 1, 1, [⟨15, 15, .w1c, 0, false⟩, ⟨14, 14, .w1c, 0, false⟩, ⟨13, 13, .w1c, 0, false⟩, ⟨12, 12, .w1c, 0, false⟩, ⟨11, 11, .w1c, 0, false⟩]⟩]
def PG.rows : List RegDef := PG.rows0

/-! ### TK: base 0x2800, 4 instance(s), stride 0x100 -/
def TK.TK_CTRL (k : Nat) : Nat := 0x2800 + 256 * k
def TK.TK_CTRL_EN (k : Nat) : Field := ⟨TK.TK_CTRL k, 15, 15⟩
def TK.TK_CTRL_DOM (k : Nat) : Field := ⟨TK.TK_CTRL k, 14, 12⟩
def TK.TK_CTRL_SRC (k : Nat) : Field := ⟨TK.TK_CTRL k, 11, 9⟩
def TK.TK_CTRL_REARM (k : Nat) : Field := ⟨TK.TK_CTRL k, 8, 8⟩
def TK.TK_CTRL_LOAD (k : Nat) : Field := ⟨TK.TK_CTRL k, 7, 7⟩
def TK.TK_CTRL_CAPTURE (k : Nat) : Field := ⟨TK.TK_CTRL k, 6, 6⟩
def TK.TK_CTRL_CNT_CLR (k : Nat) : Field := ⟨TK.TK_CTRL k, 5, 5⟩
def TK.TK_CTRL_UTC_SRC (k : Nat) : Field := ⟨TK.TK_CTRL k, 4, 4⟩
def TK.TK_STAT (k : Nat) : Nat := 0x2801 + 256 * k
def TK.TK_STAT_TSTATE (k : Nat) : Field := ⟨TK.TK_STAT k, 15, 13⟩
def TK.TK_STAT_BUDGET (k : Nat) : Field := ⟨TK.TK_STAT k, 12, 12⟩
def TK.TK_STAT_IN_VALID (k : Nat) : Field := ⟨TK.TK_STAT k, 11, 11⟩
def TK.TK_STAT_CLIPPED (k : Nat) : Field := ⟨TK.TK_STAT k, 10, 10⟩
def TK.TK_STAT_OFS_SAT (k : Nat) : Field := ⟨TK.TK_STAT k, 9, 9⟩
def TK.TK_STAT_WAKE_COARSE (k : Nat) : Field := ⟨TK.TK_STAT k, 8, 8⟩
def TK.TK_STAT_CFG_ERR (k : Nat) : Field := ⟨TK.TK_STAT k, 7, 7⟩
def TK.TK_STAT_LEAP60 (k : Nat) : Field := ⟨TK.TK_STAT k, 6, 6⟩
def TK.TK_EVT (k : Nat) : Nat := 0x2802 + 256 * k
def TK.TK_EVT_STEP (k : Nat) : Field := ⟨TK.TK_EVT k, 15, 15⟩
def TK.TK_EVT_LOST (k : Nat) : Field := ⟨TK.TK_EVT k, 14, 14⟩
def TK.TK_EVT_RANGE (k : Nat) : Field := ⟨TK.TK_EVT k, 13, 13⟩
def TK.TK_EVT_CLIP (k : Nat) : Field := ⟨TK.TK_EVT k, 12, 12⟩
def TK.TK_EVT_LOAD_REFUSED (k : Nat) : Field := ⟨TK.TK_EVT k, 11, 11⟩
def TK.TK_EVT_CLEAR_REFUSED (k : Nat) : Field := ⟨TK.TK_EVT k, 10, 10⟩
def TK.TK_EVT_WRITE_LOST (k : Nat) : Field := ⟨TK.TK_EVT k, 9, 9⟩
def TK.SEC (k : Nat) : Nat := 0x2803 + 256 * k
def TK.NS (k : Nat) : Nat := 0x2806 + 256 * k
def TK.FRAC (k : Nat) : Nat := 0x2808 + 256 * k
def TK.LD_SEC (k : Nat) : Nat := 0x280B + 256 * k
def TK.LD_NS (k : Nat) : Nat := 0x280E + 256 * k
def TK.INC_NS (k : Nat) : Nat := 0x2810 + 256 * k
def TK.INC_NS_INC_NS (k : Nat) : Field := ⟨TK.INC_NS k, 7, 0⟩
def TK.INC_FRAC (k : Nat) : Nat := 0x2811 + 256 * k
def TK.SLEW (k : Nat) : Nat := 0x2814 + 256 * k
def TK.SLEW_SLEW (k : Nat) : Field := ⟨TK.SLEW k, 9, 0⟩
def TK.SERVO_BW (k : Nat) : Nat := 0x2815 + 256 * k
def TK.SERVO_CFG (k : Nat) : Nat := 0x2816 + 256 * k
def TK.SERVO_CFG_ACQ_N (k : Nat) : Field := ⟨TK.SERVO_CFG k, 15, 12⟩
def TK.SERVO_CFG_CLIP_S (k : Nat) : Field := ⟨TK.SERVO_CFG k, 11, 8⟩
def TK.SERVO_CFG_LOSS_S (k : Nat) : Field := ⟨TK.SERVO_CFG k, 7, 0⟩
def TK.STEP_THR (k : Nat) : Nat := 0x2817 + 256 * k
def TK.OFS (k : Nat) : Nat := 0x2819 + 256 * k
def TK.STEP_S (k : Nat) : Nat := 0x281C + 256 * k
def TK.STEP_NS (k : Nat) : Nat := 0x281F + 256 * k
def TK.STEP_PSR (k : Nat) : Nat := 0x2821 + 256 * k
def TK.ADJ (k : Nat) : Nat := 0x2822 + 256 * k
def TK.UTC_OFS (k : Nat) : Nat := 0x2825 + 256 * k
def TK.LEAP (k : Nat) : Nat := 0x2826 + 256 * k
def TK.LEAP_LEAP61 (k : Nat) : Field := ⟨TK.LEAP k, 15, 15⟩
def TK.LEAP_LEAP59 (k : Nat) : Field := ⟨TK.LEAP k, 14, 14⟩
def TK.STEP_CNT (k : Nat) : Nat := 0x2827 + 256 * k
def TK.HO_CNT (k : Nat) : Nat := 0x2828 + 256 * k
def TK.VOTE_REPAIR (k : Nat) : Nat := 0x2829 + 256 * k
def TK.EVT_CLASS_SD (k : Nat) : Nat := 0x282A + 256 * k
def TK.EVT_CLASS_SD_THRESH_N (k : Nat) : Field := ⟨TK.EVT_CLASS_SD k, 15, 8⟩
def TK.EVT_CLASS_SD_ROUTE (k : Nat) : Field := ⟨TK.EVT_CLASS_SD k, 7, 5⟩
def TK.EVT_CLASS_SD_REACT (k : Nat) : Field := ⟨TK.EVT_CLASS_SD k, 4, 4⟩
def TK.EVT_CLASS_SD_INJ_REACT (k : Nat) : Field := ⟨TK.EVT_CLASS_SD k, 3, 3⟩
def TK.EVT_CLASS_SD_FORCE (k : Nat) : Field := ⟨TK.EVT_CLASS_SD k, 2, 2⟩
def TK.EVT_WINDOW_SD (k : Nat) : Nat := 0x282B + 256 * k
def TK.EVT_CLASS_SA (k : Nat) : Nat := 0x282C + 256 * k
def TK.EVT_CLASS_SA_THRESH_N (k : Nat) : Field := ⟨TK.EVT_CLASS_SA k, 15, 8⟩
def TK.EVT_CLASS_SA_ROUTE (k : Nat) : Field := ⟨TK.EVT_CLASS_SA k, 7, 5⟩
def TK.EVT_CLASS_SA_REACT (k : Nat) : Field := ⟨TK.EVT_CLASS_SA k, 4, 4⟩
def TK.EVT_CLASS_SA_INJ_REACT (k : Nat) : Field := ⟨TK.EVT_CLASS_SA k, 3, 3⟩
def TK.EVT_CLASS_SA_FORCE (k : Nat) : Field := ⟨TK.EVT_CLASS_SA k, 2, 2⟩
def TK.EVT_WINDOW_SA (k : Nat) : Nat := 0x282D + 256 * k
def TK.HIST_SEL (k : Nat) : Nat := 0x282E + 256 * k
def TK.HIST_SEL_ENTRY (k : Nat) : Field := ⟨TK.HIST_SEL k, 5, 4⟩
def TK.HIST_SEL_WORD (k : Nat) : Field := ⟨TK.HIST_SEL k, 2, 0⟩
def TK.HIST_DATA (k : Nat) : Nat := 0x282F + 256 * k
def TK.rows0 : List RegDef := [
  ⟨0x00, 1, 1, [⟨15, 15, .rw, 0, true⟩, ⟨14, 12, .rw, 0, true⟩, ⟨11, 9, .rw, 0, true⟩, ⟨8, 8, .sc, 0, false⟩, ⟨7, 7, .sc, 0, false⟩, ⟨6, 6, .sc, 0, false⟩, ⟨5, 5, .sc, 0, false⟩, ⟨4, 4, .rw, 0, false⟩]⟩,
  ⟨0x01, 1, 1, [⟨15, 13, .ro, 0, false⟩, ⟨12, 12, .ro, 0, false⟩, ⟨11, 11, .ro, 0, false⟩, ⟨10, 10, .ro, 0, false⟩, ⟨9, 9, .ro, 0, false⟩, ⟨8, 8, .ro, 0, false⟩, ⟨7, 7, .ro, 0, false⟩, ⟨6, 6, .ro, 0, false⟩]⟩,
  ⟨0x02, 1, 1, [⟨15, 15, .w1c, 0, false⟩, ⟨14, 14, .w1c, 0, false⟩, ⟨13, 13, .w1c, 0, false⟩, ⟨12, 12, .w1c, 0, false⟩, ⟨11, 11, .w1c, 0, false⟩, ⟨10, 10, .w1c, 0, false⟩, ⟨9, 9, .w1c, 0, false⟩]⟩,
  ⟨0x03, 1, 1, [⟨15, 0, .ro, 0, false⟩]⟩,
  ⟨0x04, 1, 1, [⟨15, 0, .ro, 0, false⟩]⟩,
  ⟨0x05, 1, 1, [⟨15, 0, .ro, 0, false⟩]⟩,
  ⟨0x06, 1, 1, [⟨15, 0, .ro, 0, false⟩]⟩,
  ⟨0x07, 1, 1, [⟨15, 0, .ro, 0, false⟩]⟩,
  ⟨0x08, 1, 1, [⟨15, 0, .ro, 0, false⟩]⟩,
  ⟨0x09, 1, 1, [⟨15, 0, .ro, 0, false⟩]⟩,
  ⟨0x0A, 1, 1, [⟨7, 0, .ro, 0, false⟩]⟩,
  ⟨0x0B, 1, 1, [⟨15, 0, .rw, 0, false⟩]⟩,
  ⟨0x0C, 1, 1, [⟨15, 0, .rw, 0, false⟩]⟩,
  ⟨0x0D, 1, 1, [⟨15, 0, .rw, 0, false⟩]⟩,
  ⟨0x0E, 1, 1, [⟨15, 0, .rw, 0, false⟩]⟩,
  ⟨0x0F, 1, 1, [⟨15, 0, .rw, 0, false⟩]⟩,
  ⟨0x10, 1, 1, [⟨7, 0, .rw, 2, false⟩]⟩,
  ⟨0x11, 1, 1, [⟨15, 0, .rw, 0, false⟩]⟩,
  ⟨0x12, 1, 1, [⟨15, 0, .rw, 0, false⟩]⟩,
  ⟨0x13, 1, 1, [⟨7, 0, .rw, 0, false⟩]⟩,
  ⟨0x14, 1, 1, [⟨9, 0, .rw, 100, true⟩]⟩,
  ⟨0x15, 1, 1, [⟨15, 0, .rw, 100, false⟩]⟩,
  ⟨0x16, 1, 1, [⟨15, 12, .rw, 4, false⟩, ⟨11, 8, .rw, 10, false⟩, ⟨7, 0, .rw, 3, false⟩]⟩,
  ⟨0x17, 1, 1, [⟨15, 0, .rw, 1000, false⟩]⟩,
  ⟨0x18, 1, 1, [⟨15, 0, .rw, 0, false⟩]⟩,
  ⟨0x19, 1, 1, [⟨15, 0, .ro, 0, false⟩]⟩,
  ⟨0x1A, 1, 1, [⟨15, 0, .ro, 0, false⟩]⟩,
  ⟨0x1B, 1, 1, [⟨15, 0, .ro, 0, false⟩]⟩,
  ⟨0x1C, 1, 1, [⟨15, 0, .ro, 0, false⟩]⟩,
  ⟨0x1D, 1, 1, [⟨15, 0, .ro, 0, false⟩]⟩,
  ⟨0x1E, 1, 1, [⟨15, 0, .ro, 0, false⟩]⟩,
  ⟨0x1F, 1, 1, [⟨15, 0, .ro, 0, false⟩]⟩,
  ⟨0x20, 1, 1, [⟨15, 0, .ro, 0, false⟩]⟩,
  ⟨0x21, 1, 1, [⟨15, 0, .ro, 0, false⟩]⟩,
  ⟨0x22, 1, 1, [⟨15, 0, .ro, 0, false⟩]⟩,
  ⟨0x23, 1, 1, [⟨15, 0, .ro, 0, false⟩]⟩,
  ⟨0x24, 1, 1, [⟨7, 0, .ro, 0, false⟩]⟩,
  ⟨0x25, 1, 1, [⟨15, 0, .sh, 0, false⟩]⟩,
  ⟨0x26, 1, 1, [⟨15, 15, .sh, 0, false⟩, ⟨14, 14, .sh, 0, false⟩]⟩,
  ⟨0x27, 1, 1, [⟨15, 0, .cnt, 0, false⟩]⟩]
def TK.rows1 : List RegDef := [
  ⟨0x28, 1, 1, [⟨15, 0, .cnt, 0, false⟩]⟩,
  ⟨0x29, 1, 1, [⟨15, 0, .cnt, 0, false⟩]⟩,
  ⟨0x2A, 1, 1, [⟨15, 8, .rw, 0, false⟩, ⟨7, 5, .rw, 0, false⟩, ⟨4, 4, .rw, 0, false⟩, ⟨3, 3, .rw, 0, false⟩, ⟨2, 2, .sc, 0, false⟩]⟩,
  ⟨0x2B, 1, 1, [⟨15, 0, .rw, 0, false⟩]⟩,
  ⟨0x2C, 1, 1, [⟨15, 8, .rw, 0, false⟩, ⟨7, 5, .rw, 0, false⟩, ⟨4, 4, .rw, 0, false⟩, ⟨3, 3, .rw, 0, false⟩, ⟨2, 2, .sc, 0, false⟩]⟩,
  ⟨0x2D, 1, 1, [⟨15, 0, .rw, 0, false⟩]⟩,
  ⟨0x2E, 1, 1, [⟨5, 4, .rw, 0, false⟩, ⟨2, 0, .rw, 0, false⟩]⟩,
  ⟨0x2F, 1, 1, [⟨15, 0, .ro, 0, false⟩]⟩]
def TK.rows : List RegDef := TK.rows0 ++ TK.rows1

/-! ### PTP: base 0x3000, 1 instance(s), stride 0x20 -/
def PTP.PTP_CTRL : Nat := 0x3000
def PTP.PTP_CTRL_CNT_CLR : Field := ⟨PTP.PTP_CTRL, 15, 15⟩
def PTP.PTP_STAT : Nat := 0x3001
def PTP.PTP_STAT_BMCA_BUSY : Field := ⟨PTP.PTP_STAT, 15, 15⟩
def PTP.PTP_STAT_CFG_ERR : Field := ⟨PTP.PTP_STAT, 14, 14⟩
def PTP.PTP_STAT_ACTIVE : Field := ⟨PTP.PTP_STAT, 11, 8⟩
def PTP.HILDO_ETYPE : Nat := 0x3002
def PTP.CLOCK_ID : Nat := 0x3003
def PTP.GM_PROP : Nat := 0x3007
def PTP.GM_PROP_UTC_VALID : Field := ⟨PTP.GM_PROP, 15, 15⟩
def PTP.GM_PROP_TIME_TRACE : Field := ⟨PTP.GM_PROP, 14, 14⟩
def PTP.GM_PROP_FREQ_TRACE : Field := ⟨PTP.GM_PROP, 13, 13⟩
def PTP.GM_PROP_TIME_SOURCE : Field := ⟨PTP.GM_PROP, 7, 0⟩
def PTP.DS_SEL : Nat := 0x3008
def PTP.DS_SEL_INST : Field := ⟨PTP.DS_SEL, 9, 8⟩
def PTP.DS_SEL_ITEM : Field := ⟨PTP.DS_SEL, 3, 0⟩
def PTP.DS_DATA : Nat := 0x3009
def PTP.KEY_CTRL : Nat := 0x300A
def PTP.KEY_CTRL_SLOT : Field := ⟨PTP.KEY_CTRL, 15, 12⟩
def PTP.KEY_CTRL_COMMIT : Field := ⟨PTP.KEY_CTRL, 7, 7⟩
def PTP.KEY_CTRL_ERASE : Field := ⟨PTP.KEY_CTRL, 6, 6⟩
def PTP.KEY_CTRL_PTR : Field := ⟨PTP.KEY_CTRL, 4, 0⟩
def PTP.KEY_DATA : Nat := 0x300B
def PTP.KEY_STAT : Nat := 0x300C
def PTP.MGMT_DROP_CNT : Nat := 0x300D
def PTP.MGMT_RESP_CNT : Nat := 0x300E
def PTP.SIG_DROP_CNT : Nat := 0x300F
def PTP.MALFORMED_CNT : Nat := 0x3010
def PTP.BMCA_RUN_CNT : Nat := 0x3011
def PTP.VOTE_REPAIR : Nat := 0x3012
def PTP.BMCA_LAT : Nat := 0x3013
def PTP.HIST_SEL : Nat := 0x3014
def PTP.HIST_SEL_ENTRY : Field := ⟨PTP.HIST_SEL, 5, 4⟩
def PTP.HIST_SEL_WORD : Field := ⟨PTP.HIST_SEL, 2, 0⟩
def PTP.HIST_DATA : Nat := 0x3015
def PTP.EVT_CLASS108 : Nat := 0x3016
def PTP.EVT_CLASS108_THRESH_N : Field := ⟨PTP.EVT_CLASS108, 15, 8⟩
def PTP.EVT_CLASS108_ROUTE : Field := ⟨PTP.EVT_CLASS108, 7, 5⟩
def PTP.EVT_CLASS108_REACT : Field := ⟨PTP.EVT_CLASS108, 4, 4⟩
def PTP.EVT_CLASS108_INJ_REACT : Field := ⟨PTP.EVT_CLASS108, 3, 3⟩
def PTP.EVT_CLASS108_FORCE : Field := ⟨PTP.EVT_CLASS108, 2, 2⟩
def PTP.EVT_WINDOW108 : Nat := 0x3017
def PTP.EVT_CLASS109 : Nat := 0x3018
def PTP.EVT_CLASS109_THRESH_N : Field := ⟨PTP.EVT_CLASS109, 15, 8⟩
def PTP.EVT_CLASS109_ROUTE : Field := ⟨PTP.EVT_CLASS109, 7, 5⟩
def PTP.EVT_CLASS109_REACT : Field := ⟨PTP.EVT_CLASS109, 4, 4⟩
def PTP.EVT_CLASS109_INJ_REACT : Field := ⟨PTP.EVT_CLASS109, 3, 3⟩
def PTP.EVT_CLASS109_FORCE : Field := ⟨PTP.EVT_CLASS109, 2, 2⟩
def PTP.EVT_WINDOW109 : Nat := 0x3019
def PTP.EVT_CLASS110 : Nat := 0x301A
def PTP.EVT_CLASS110_THRESH_N : Field := ⟨PTP.EVT_CLASS110, 15, 8⟩
def PTP.EVT_CLASS110_ROUTE : Field := ⟨PTP.EVT_CLASS110, 7, 5⟩
def PTP.EVT_CLASS110_REACT : Field := ⟨PTP.EVT_CLASS110, 4, 4⟩
def PTP.EVT_CLASS110_INJ_REACT : Field := ⟨PTP.EVT_CLASS110, 3, 3⟩
def PTP.EVT_CLASS110_FORCE : Field := ⟨PTP.EVT_CLASS110, 2, 2⟩
def PTP.EVT_WINDOW110 : Nat := 0x301B
def PTP.EVT_CLASS111 : Nat := 0x301C
def PTP.EVT_CLASS111_THRESH_N : Field := ⟨PTP.EVT_CLASS111, 15, 8⟩
def PTP.EVT_CLASS111_ROUTE : Field := ⟨PTP.EVT_CLASS111, 7, 5⟩
def PTP.EVT_CLASS111_REACT : Field := ⟨PTP.EVT_CLASS111, 4, 4⟩
def PTP.EVT_CLASS111_INJ_REACT : Field := ⟨PTP.EVT_CLASS111, 3, 3⟩
def PTP.EVT_CLASS111_FORCE : Field := ⟨PTP.EVT_CLASS111, 2, 2⟩
def PTP.EVT_WINDOW111 : Nat := 0x301D
def PTP.TX_SKIP_CNT : Nat := 0x301E
def PTP.BMCA_LAT_MAX : Nat := 0x301F
def PTP.rows0 : List RegDef := [
  ⟨0x00, 1, 1, [⟨15, 15, .sc, 0, false⟩]⟩,
  ⟨0x01, 1, 1, [⟨15, 15, .ro, 0, false⟩, ⟨14, 14, .ro, 0, false⟩, ⟨11, 8, .ro, 0, false⟩]⟩,
  ⟨0x02, 1, 1, [⟨15, 0, .rw, 34997, false⟩]⟩,
  ⟨0x03, 1, 1, [⟨15, 0, .rw, 0, true⟩]⟩,
  ⟨0x04, 1, 1, [⟨15, 0, .rw, 0, true⟩]⟩,
  ⟨0x05, 1, 1, [⟨15, 0, .rw, 0, true⟩]⟩,
  ⟨0x06, 1, 1, [⟨15, 0, .rw, 0, true⟩]⟩,
  ⟨0x07, 1, 1, [⟨15, 15, .rw, 0, false⟩, ⟨14, 14, .rw, 0, false⟩, ⟨13, 13, .rw, 0, false⟩, ⟨7, 0, .rw, 160, false⟩]⟩,
  ⟨0x08, 1, 1, [⟨9, 8, .rw, 0, false⟩, ⟨3, 0, .rw, 0, false⟩]⟩,
  ⟨0x09, 1, 1, [⟨15, 0, .ro, 0, false⟩]⟩,
  ⟨0x0A, 1, 1, [⟨15, 12, .rw, 0, false⟩, ⟨7, 7, .sc, 0, false⟩, ⟨6, 6, .sc, 0, false⟩, ⟨4, 0, .ro, 0, false⟩]⟩,
  ⟨0x0B, 1, 1, [⟨15, 0, .rw, 0, false⟩]⟩,
  ⟨0x0C, 1, 1, [⟨15, 0, .ro, 0, false⟩]⟩,
  ⟨0x0D, 1, 1, [⟨15, 0, .cnt, 0, false⟩]⟩,
  ⟨0x0E, 1, 1, [⟨15, 0, .cnt, 0, false⟩]⟩,
  ⟨0x0F, 1, 1, [⟨15, 0, .cnt, 0, false⟩]⟩,
  ⟨0x10, 1, 1, [⟨15, 0, .cnt, 0, false⟩]⟩,
  ⟨0x11, 1, 1, [⟨15, 0, .cnt, 0, false⟩]⟩,
  ⟨0x12, 1, 1, [⟨15, 0, .cnt, 0, false⟩]⟩,
  ⟨0x13, 1, 1, [⟨15, 0, .ro, 0, false⟩]⟩,
  ⟨0x14, 1, 1, [⟨5, 4, .rw, 0, false⟩, ⟨2, 0, .rw, 0, false⟩]⟩,
  ⟨0x15, 1, 1, [⟨15, 0, .ro, 0, false⟩]⟩,
  ⟨0x16, 1, 1, [⟨15, 8, .rw, 0, false⟩, ⟨7, 5, .rw, 0, false⟩, ⟨4, 4, .rw, 0, false⟩, ⟨3, 3, .rw, 0, false⟩, ⟨2, 2, .sc, 0, false⟩]⟩,
  ⟨0x17, 1, 1, [⟨15, 0, .rw, 0, false⟩]⟩,
  ⟨0x18, 1, 1, [⟨15, 8, .rw, 0, false⟩, ⟨7, 5, .rw, 0, false⟩, ⟨4, 4, .rw, 0, false⟩, ⟨3, 3, .rw, 0, false⟩, ⟨2, 2, .sc, 0, false⟩]⟩,
  ⟨0x19, 1, 1, [⟨15, 0, .rw, 0, false⟩]⟩,
  ⟨0x1A, 1, 1, [⟨15, 8, .rw, 0, false⟩, ⟨7, 5, .rw, 0, false⟩, ⟨4, 4, .rw, 0, false⟩, ⟨3, 3, .rw, 0, false⟩, ⟨2, 2, .sc, 0, false⟩]⟩,
  ⟨0x1B, 1, 1, [⟨15, 0, .rw, 0, false⟩]⟩,
  ⟨0x1C, 1, 1, [⟨15, 8, .rw, 0, false⟩, ⟨7, 5, .rw, 0, false⟩, ⟨4, 4, .rw, 0, false⟩, ⟨3, 3, .rw, 0, false⟩, ⟨2, 2, .sc, 0, false⟩]⟩,
  ⟨0x1D, 1, 1, [⟨15, 0, .rw, 0, false⟩]⟩,
  ⟨0x1E, 1, 1, [⟨15, 0, .cnt, 0, false⟩]⟩,
  ⟨0x1F, 1, 1, [⟨15, 0, .ro, 0, false⟩]⟩]
def PTP.rows : List RegDef := PTP.rows0

/-! ### PTI: base 0x3020, 4 instance(s), stride 0x10 -/
def PTI.INST_CTRL (k : Nat) : Nat := 0x3020 + 16 * k
def PTI.INST_CTRL_EN (k : Nat) : Field := ⟨PTI.INST_CTRL k, 15, 15⟩
def PTI.INST_CTRL_PROFILE (k : Nat) : Field := ⟨PTI.INST_CTRL k, 14, 13⟩
def PTI.INST_CTRL_TRANSPORT (k : Nat) : Field := ⟨PTI.INST_CTRL k, 12, 11⟩
def PTI.INST_CTRL_TK_SEL (k : Nat) : Field := ⟨PTI.INST_CTRL k, 10, 9⟩
def PTI.INST_CTRL_ONE_STEP (k : Nat) : Field := ⟨PTI.INST_CTRL k, 8, 8⟩
def PTI.INST_CTRL_BMCA_EN (k : Nat) : Field := ⟨PTI.INST_CTRL k, 7, 7⟩
def PTI.INST_CTRL_AUTH_EN (k : Nat) : Field := ⟨PTI.INST_CTRL k, 6, 6⟩
def PTI.INST_CTRL_MGMT_EN (k : Nat) : Field := ⟨PTI.INST_CTRL k, 5, 5⟩
def PTI.INST_CTRL_CNT_CLR (k : Nat) : Field := ⟨PTI.INST_CTRL k, 4, 4⟩
def PTI.INST_PORTS (k : Nat) : Nat := 0x3021 + 16 * k
def PTI.INST_PORTS_DOMAIN (k : Nat) : Field := ⟨PTI.INST_PORTS k, 15, 8⟩
def PTI.INST_PORTS_MEMBERS (k : Nat) : Field := ⟨PTI.INST_PORTS k, 7, 0⟩
def PTI.INTERVALS (k : Nat) : Nat := 0x3022 + 16 * k
def PTI.INTERVALS_LOG_SYNC (k : Nat) : Field := ⟨PTI.INTERVALS k, 15, 12⟩
def PTI.INTERVALS_LOG_ANN (k : Nat) : Field := ⟨PTI.INTERVALS k, 11, 8⟩
def PTI.INTERVALS_LOG_DREQ (k : Nat) : Field := ⟨PTI.INTERVALS k, 7, 4⟩
def PTI.INTERVALS_ANN_TO (k : Nat) : Field := ⟨PTI.INTERVALS k, 3, 0⟩
def PTI.TIMING (k : Nat) : Nat := 0x3023 + 16 * k
def PTI.TIMING_SYNC_TO (k : Nat) : Field := ⟨PTI.TIMING k, 15, 12⟩
def PTI.TIMING_QUAL_N (k : Nat) : Field := ⟨PTI.TIMING k, 11, 8⟩
def PTI.TIMING_PD_N (k : Nat) : Field := ⟨PTI.TIMING k, 5, 0⟩
def PTI.PRIO (k : Nat) : Nat := 0x3024 + 16 * k
def PTI.PRIO_PRIORITY1 (k : Nat) : Field := ⟨PTI.PRIO k, 15, 8⟩
def PTI.PRIO_PRIORITY2 (k : Nat) : Field := ⟨PTI.PRIO k, 7, 0⟩
def PTI.CLASS_A (k : Nat) : Nat := 0x3025 + 16 * k
def PTI.CLASS_A_CLASS_LOCKED (k : Nat) : Field := ⟨PTI.CLASS_A k, 15, 8⟩
def PTI.CLASS_A_CLASS_HOLD (k : Nat) : Field := ⟨PTI.CLASS_A k, 7, 0⟩
def PTI.CLASS_B (k : Nat) : Nat := 0x3026 + 16 * k
def PTI.CLASS_B_CLASS_FREE (k : Nat) : Field := ⟨PTI.CLASS_B k, 15, 8⟩
def PTI.CLASS_B_ACCURACY (k : Nat) : Field := ⟨PTI.CLASS_B k, 7, 0⟩
def PTI.VARIANCE (k : Nat) : Nat := 0x3027 + 16 * k
def PTI.QUAL (k : Nat) : Nat := 0x3028 + 16 * k
def PTI.QUAL_CLASS_WARN (k : Nat) : Field := ⟨PTI.QUAL k, 15, 8⟩
def PTI.QUAL_TRACE_REQ (k : Nat) : Field := ⟨PTI.QUAL k, 7, 7⟩
def PTI.NBR_THRESH (k : Nat) : Nat := 0x3029 + 16 * k
def PTI.AUTH_CFG (k : Nat) : Nat := 0x302A + 16 * k
def PTI.AUTH_CFG_SPP (k : Nat) : Field := ⟨PTI.AUTH_CFG k, 15, 8⟩
def PTI.AUTH_CFG_TX_KEY (k : Nat) : Field := ⟨PTI.AUTH_CFG k, 7, 4⟩
def PTI.AUTH_CFG_RX_KEY2 (k : Nat) : Field := ⟨PTI.AUTH_CFG k, 3, 0⟩
def PTI.INST_STAT (k : Nat) : Nat := 0x302B + 16 * k
def PTI.INST_STAT_ISTATE (k : Nat) : Field := ⟨PTI.INST_STAT k, 15, 14⟩
def PTI.INST_STAT_SLAVE_VALID (k : Nat) : Field := ⟨PTI.INST_STAT k, 13, 13⟩
def PTI.INST_STAT_SLAVE_PORT (k : Nat) : Field := ⟨PTI.INST_STAT k, 12, 10⟩
def PTI.INST_STAT_CFG_ERR (k : Nat) : Field := ⟨PTI.INST_STAT k, 9, 9⟩
def PTI.INST_STAT_TWO_STEP_FORCED (k : Nat) : Field := ⟨PTI.INST_STAT k, 8, 8⟩
def PTI.INST_STAT_KEY_MISSING (k : Nat) : Field := ⟨PTI.INST_STAT k, 7, 7⟩
def PTI.INST_EVT (k : Nat) : Nat := 0x302C + 16 * k
def PTI.INST_EVT_GM_CHANGE (k : Nat) : Field := ⟨PTI.INST_EVT k, 15, 15⟩
def PTI.INST_EVT_STATE (k : Nat) : Field := ⟨PTI.INST_EVT k, 14, 14⟩
def PTI.INST_EVT_CFG (k : Nat) : Field := ⟨PTI.INST_EVT k, 13, 13⟩
def PTI.INST_EVT_KEY (k : Nat) : Field := ⟨PTI.INST_EVT k, 12, 12⟩
def PTI.INST_EVT_CLEAR_REFUSED (k : Nat) : Field := ⟨PTI.INST_EVT k, 11, 11⟩
def PTI.INST_EVT_WRITE_LOST (k : Nat) : Field := ⟨PTI.INST_EVT k, 10, 10⟩
def PTI.GM_CHANGE_CNT (k : Nat) : Nat := 0x302D + 16 * k
def PTI.STEPS_RM (k : Nat) : Nat := 0x302E + 16 * k
def PTI.MASTER_PORTS (k : Nat) : Nat := 0x302F + 16 * k
def PTI.MASTER_PORTS_MASTER_PORTS (k : Nat) : Field := ⟨PTI.MASTER_PORTS k, 7, 0⟩
def PTI.rows0 : List RegDef := [
  ⟨0x00, 1, 1, [⟨15, 15, .rw, 0, true⟩, ⟨14, 13, .rw, 0, true⟩, ⟨12, 11, .rw, 0, true⟩, ⟨10, 9, .rw, 0, true⟩, ⟨8, 8, .rw, 0, false⟩, ⟨7, 7, .rw, 1, true⟩, ⟨6, 6, .rw, 0, true⟩, ⟨5, 5, .rw, 0, false⟩, ⟨4, 4, .sc, 0, false⟩]⟩,
  ⟨0x01, 1, 1, [⟨15, 8, .rw, 0, true⟩, ⟨7, 0, .ro, 0, false⟩]⟩,
  ⟨0x02, 1, 1, [⟨15, 12, .rw, 13, false⟩, ⟨11, 8, .rw, 0, false⟩, ⟨7, 4, .rw, 0, false⟩, ⟨3, 0, .rw, 3, false⟩]⟩,
  ⟨0x03, 1, 1, [⟨15, 12, .rw, 3, false⟩, ⟨11, 8, .rw, 4, false⟩, ⟨5, 0, .rw, 8, false⟩]⟩,
  ⟨0x04, 1, 1, [⟨15, 8, .rw, 128, false⟩, ⟨7, 0, .rw, 128, false⟩]⟩,
  ⟨0x05, 1, 1, [⟨15, 8, .rw, 6, false⟩, ⟨7, 0, .rw, 7, false⟩]⟩,
  ⟨0x06, 1, 1, [⟨15, 8, .rw, 248, false⟩, ⟨7, 0, .rw, 254, false⟩]⟩,
  ⟨0x07, 1, 1, [⟨15, 0, .rw, 65535, false⟩]⟩,
  ⟨0x08, 1, 1, [⟨15, 8, .rw, 0, false⟩, ⟨7, 7, .rw, 0, false⟩]⟩,
  ⟨0x09, 1, 1, [⟨15, 0, .rw, 800, false⟩]⟩,
  ⟨0x0A, 1, 1, [⟨15, 8, .rw, 0, true⟩, ⟨7, 4, .rw, 0, true⟩, ⟨3, 0, .rw, 0, true⟩]⟩,
  ⟨0x0B, 1, 1, [⟨15, 14, .ro, 0, false⟩, ⟨13, 13, .ro, 0, false⟩, ⟨12, 10, .ro, 0, false⟩, ⟨9, 9, .ro, 0, false⟩, ⟨8, 8, .ro, 0, false⟩, ⟨7, 7, .ro, 0, false⟩]⟩,
  ⟨0x0C, 1, 1, [⟨15, 15, .w1c, 0, false⟩, ⟨14, 14, .w1c, 0, false⟩, ⟨13, 13, .w1c, 0, false⟩, ⟨12, 12, .w1c, 0, false⟩, ⟨11, 11, .w1c, 0, false⟩, ⟨10, 10, .w1c, 0, false⟩]⟩,
  ⟨0x0D, 1, 1, [⟨15, 0, .cnt, 0, false⟩]⟩,
  ⟨0x0E, 1, 1, [⟨15, 0, .ro, 0, false⟩]⟩,
  ⟨0x0F, 1, 1, [⟨7, 0, .ro, 0, false⟩]⟩]
def PTI.rows : List RegDef := PTI.rows0

/-! ### ETH: base 0x3100, 8 instance(s), stride 0x100 -/
def ETH.ETH_CFG (k : Nat) : Nat := 0x3100 + 256 * k
def ETH.ETH_CFG_EN (k : Nat) : Field := ⟨ETH.ETH_CFG k, 15, 15⟩
def ETH.ETH_CFG_SPEED (k : Nat) : Field := ⟨ETH.ETH_CFG k, 14, 12⟩
def ETH.ETH_CFG_PHY_ROLE (k : Nat) : Field := ⟨ETH.ETH_CFG k, 11, 11⟩
def ETH.ETH_CFG_TX_DOM (k : Nat) : Field := ⟨ETH.ETH_CFG k, 10, 8⟩
def ETH.ETH_CFG_TC10_EN (k : Nat) : Field := ⟨ETH.ETH_CFG k, 7, 7⟩
def ETH.ETH_CFG_SLEEP_ACCEPT (k : Nat) : Field := ⟨ETH.ETH_CFG k, 6, 6⟩
def ETH.ETH_CFG_HILDO_EN (k : Nat) : Field := ⟨ETH.ETH_CFG k, 5, 5⟩
def ETH.ETH_CFG_VLAN_EN (k : Nat) : Field := ⟨ETH.ETH_CFG k, 4, 4⟩
def ETH.ETH_STAT (k : Nat) : Nat := 0x3101 + 256 * k
def ETH.ETH_STAT_LINK (k : Nat) : Field := ⟨ETH.ETH_STAT k, 15, 15⟩
def ETH.ETH_STAT_SPEED_ACT (k : Nat) : Field := ⟨ETH.ETH_STAT k, 14, 12⟩
def ETH.ETH_STAT_ROLE_ACT (k : Nat) : Field := ⟨ETH.ETH_STAT k, 11, 11⟩
def ETH.ETH_STAT_TC10_STATE (k : Nat) : Field := ⟨ETH.ETH_STAT k, 10, 9⟩
def ETH.ETH_STAT_PHY_FAULT (k : Nat) : Field := ⟨ETH.ETH_STAT k, 8, 8⟩
def ETH.ETH_STAT_CFG_ERR (k : Nat) : Field := ⟨ETH.ETH_STAT k, 7, 7⟩
def ETH.ETH_STAT_TX_CLAMP (k : Nat) : Field := ⟨ETH.ETH_STAT k, 6, 6⟩
def ETH.ETH_STAT_SQI (k : Nat) : Field := ⟨ETH.ETH_STAT k, 5, 3⟩
def ETH.ETH_EVT (k : Nat) : Nat := 0x3102 + 256 * k
def ETH.ETH_EVT_LINK_UP (k : Nat) : Field := ⟨ETH.ETH_EVT k, 15, 15⟩
def ETH.ETH_EVT_LINK_DOWN (k : Nat) : Field := ⟨ETH.ETH_EVT k, 14, 14⟩
def ETH.ETH_EVT_PHY_FAULT (k : Nat) : Field := ⟨ETH.ETH_EVT k, 13, 13⟩
def ETH.ETH_EVT_WAKE_RX (k : Nat) : Field := ⟨ETH.ETH_EVT k, 12, 12⟩
def ETH.ETH_EVT_SLEEP (k : Nat) : Field := ⟨ETH.ETH_EVT k, 11, 11⟩
def ETH.ETH_EVT_TX_CLAMP (k : Nat) : Field := ⟨ETH.ETH_EVT k, 10, 10⟩
def ETH.ETH_EVT_CLEAR_REFUSED (k : Nat) : Field := ⟨ETH.ETH_EVT k, 9, 9⟩
def ETH.ETH_EVT_WRITE_LOST (k : Nat) : Field := ⟨ETH.ETH_EVT k, 8, 8⟩
def ETH.PORT_CTRL (k : Nat) : Nat := 0x3103 + 256 * k
def ETH.PORT_CTRL_CNT_CLR (k : Nat) : Field := ⟨ETH.PORT_CTRL k, 15, 15⟩
def ETH.PORT_CTRL_PD_RESTART (k : Nat) : Field := ⟨ETH.PORT_CTRL k, 14, 14⟩
def ETH.PORT_CTRL_SLEEP_REQ (k : Nat) : Field := ⟨ETH.PORT_CTRL k, 13, 13⟩
def ETH.PORT_CTRL_WAKE_REQ (k : Nat) : Field := ⟨ETH.PORT_CTRL k, 12, 12⟩
def ETH.TC10_CFG (k : Nat) : Nat := 0x3104 + 256 * k
def ETH.TC10_CFG_WAKE_FWD (k : Nat) : Field := ⟨ETH.TC10_CFG k, 15, 8⟩
def ETH.MAC_ADDR (k : Nat) : Nat := 0x3105 + 256 * k
def ETH.IP4_ADDR (k : Nat) : Nat := 0x3108 + 256 * k
def ETH.VLAN (k : Nat) : Nat := 0x310A + 256 * k
def ETH.VLAN_PCP (k : Nat) : Field := ⟨ETH.VLAN k, 15, 13⟩
def ETH.VLAN_VID (k : Nat) : Field := ⟨ETH.VLAN k, 11, 0⟩
def ETH.PORT_CFG (k : Nat) : Nat := 0x310B + 256 * k
def ETH.PORT_CFG_INST (k : Nat) : Field := ⟨ETH.PORT_CFG k, 15, 13⟩
def ETH.PORT_CFG_STATIC_ROLE (k : Nat) : Field := ⟨ETH.PORT_CFG k, 12, 11⟩
def ETH.PORT_STAT (k : Nat) : Nat := 0x310C + 256 * k
def ETH.PORT_STAT_PSTATE (k : Nat) : Field := ⟨ETH.PORT_STAT k, 15, 12⟩
def ETH.PORT_STAT_REF_STATE (k : Nat) : Field := ⟨ETH.PORT_STAT k, 11, 9⟩
def ETH.PORT_STAT_FIRST_CAUSE (k : Nat) : Field := ⟨ETH.PORT_STAT k, 8, 6⟩
def ETH.PORT_STAT_AS_CAPABLE (k : Nat) : Field := ⟨ETH.PORT_STAT k, 5, 5⟩
def ETH.PORT_STAT_PD_VALID (k : Nat) : Field := ⟨ETH.PORT_STAT k, 4, 4⟩
def ETH.PORT_STAT_RATE_VALID (k : Nat) : Field := ⟨ETH.PORT_STAT k, 3, 3⟩
def ETH.PORT_EVT (k : Nat) : Nat := 0x310D + 256 * k
def ETH.PORT_EVT_SYNC_TO (k : Nat) : Field := ⟨ETH.PORT_EVT k, 15, 15⟩
def ETH.PORT_EVT_ANN_TO (k : Nat) : Field := ⟨ETH.PORT_EVT k, 14, 14⟩
def ETH.PORT_EVT_PD_FAIL (k : Nat) : Field := ⟨ETH.PORT_EVT k, 13, 13⟩
def ETH.PORT_EVT_AUTH_FAIL (k : Nat) : Field := ⟨ETH.PORT_EVT k, 12, 12⟩
def ETH.PORT_EVT_REF_FAIL (k : Nat) : Field := ⟨ETH.PORT_EVT k, 11, 11⟩
def ETH.PORT_EVT_CLEAR_REFUSED (k : Nat) : Field := ⟨ETH.PORT_EVT k, 10, 10⟩
def ETH.PORT_EVT_WRITE_LOST (k : Nat) : Field := ⟨ETH.PORT_EVT k, 9, 9⟩
def ETH.RX_TRIM (k : Nat) : Nat := 0x310E + 256 * k
def ETH.TX_TRIM (k : Nat) : Nat := 0x310F + 256 * k
def ETH.ASYM (k : Nat) : Nat := 0x3110 + 256 * k
def ETH.RX_LAT (k : Nat) : Nat := 0x3112 + 256 * k
def ETH.TX_LAT (k : Nat) : Nat := 0x3113 + 256 * k
def ETH.MPD (k : Nat) : Nat := 0x3114 + 256 * k
def ETH.OFM (k : Nat) : Nat := 0x3116 + 256 * k
def ETH.RATE (k : Nat) : Nat := 0x3119 + 256 * k
def ETH.NRR (k : Nat) : Nat := 0x311C + 256 * k
def ETH.RX_INTV (k : Nat) : Nat := 0x311F + 256 * k
def ETH.RX_INTV_LOG_SYNC_RX (k : Nat) : Field := ⟨ETH.RX_INTV k, 15, 12⟩
def ETH.RX_INTV_LOG_ANN_RX (k : Nat) : Field := ⟨ETH.RX_INTV k, 11, 8⟩
def ETH.RX_INTV_LOG_DREQ_RX (k : Nat) : Field := ⟨ETH.RX_INTV k, 7, 4⟩
def ETH.PEER_ID (k : Nat) : Nat := 0x3120 + 256 * k
def ETH.PEER_PORT (k : Nat) : Nat := 0x3124 + 256 * k
def ETH.CAP_CFG (k : Nat) : Nat := 0x3125 + 256 * k
def ETH.CAP_CFG_RX_EN (k : Nat) : Field := ⟨ETH.CAP_CFG k, 15, 15⟩
def ETH.CAP_CFG_TX_EN (k : Nat) : Field := ⟨ETH.CAP_CFG k, 14, 14⟩
def ETH.CAP_CFG_MSG (k : Nat) : Field := ⟨ETH.CAP_CFG k, 3, 0⟩
def ETH.RX_PTP_CNT (k : Nat) : Nat := 0x3126 + 256 * k
def ETH.TX_PTP_CNT (k : Nat) : Nat := 0x3127 + 256 * k
def ETH.RX_HILDO_CNT (k : Nat) : Nat := 0x3128 + 256 * k
def ETH.TX_HILDO_CNT (k : Nat) : Nat := 0x3129 + 256 * k
def ETH.RX_DROP_CNT (k : Nat) : Nat := 0x312A + 256 * k
def ETH.FCS_ERR_CNT (k : Nat) : Nat := 0x312B + 256 * k
def ETH.OVERSIZE_CNT (k : Nat) : Nat := 0x312C + 256 * k
def ETH.LINK_DOWN_CNT (k : Nat) : Nat := 0x312D + 256 * k
def ETH.SYNC_RX_CNT (k : Nat) : Nat := 0x312E + 256 * k
def ETH.FUP_MISS_CNT (k : Nat) : Nat := 0x312F + 256 * k
def ETH.DRESP_MISS_CNT (k : Nat) : Nat := 0x3130 + 256 * k
def ETH.ANN_RX_CNT (k : Nat) : Nat := 0x3131 + 256 * k
def ETH.MGMT_RX_CNT (k : Nat) : Nat := 0x3132 + 256 * k
def ETH.SYNC_TO_CNT (k : Nat) : Nat := 0x3133 + 256 * k
def ETH.ANN_TO_CNT (k : Nat) : Nat := 0x3134 + 256 * k
def ETH.PD_FAIL_CNT (k : Nat) : Nat := 0x3135 + 256 * k
def ETH.AUTH_FAIL_CNT (k : Nat) : Nat := 0x3136 + 256 * k
def ETH.RX_LATE_CNT (k : Nat) : Nat := 0x3137 + 256 * k
def ETH.WRONG_DOM_CNT (k : Nat) : Nat := 0x3138 + 256 * k
def ETH.TC10_WAKE_CNT (k : Nat) : Nat := 0x3139 + 256 * k
def ETH.TC10_SLEEP_CNT (k : Nat) : Nat := 0x313A + 256 * k
def ETH.VOTE_REPAIR (k : Nat) : Nat := 0x313B + 256 * k
def ETH.EVT_CLASS (k : Nat) : Nat := 0x313C + 256 * k
def ETH.EVT_CLASS_THRESH_N (k : Nat) : Field := ⟨ETH.EVT_CLASS k, 15, 8⟩
def ETH.EVT_CLASS_ROUTE (k : Nat) : Field := ⟨ETH.EVT_CLASS k, 7, 5⟩
def ETH.EVT_CLASS_REACT (k : Nat) : Field := ⟨ETH.EVT_CLASS k, 4, 4⟩
def ETH.EVT_CLASS_INJ_REACT (k : Nat) : Field := ⟨ETH.EVT_CLASS k, 3, 3⟩
def ETH.EVT_CLASS_FORCE (k : Nat) : Field := ⟨ETH.EVT_CLASS k, 2, 2⟩
def ETH.EVT_WINDOW (k : Nat) : Nat := 0x313D + 256 * k
def ETH.HIST_SEL (k : Nat) : Nat := 0x313E + 256 * k
def ETH.HIST_SEL_ENTRY (k : Nat) : Field := ⟨ETH.HIST_SEL k, 5, 4⟩
def ETH.HIST_SEL_WORD (k : Nat) : Field := ⟨ETH.HIST_SEL k, 2, 0⟩
def ETH.HIST_DATA (k : Nat) : Nat := 0x313F + 256 * k
def ETH.rows0 : List RegDef := [
  ⟨0x00, 1, 1, [⟨15, 15, .rw, 0, true⟩, ⟨14, 12, .rw, 4, true⟩, ⟨11, 11, .rw, 0, true⟩, ⟨10, 8, .rw, 7, false⟩, ⟨7, 7, .rw, 0, false⟩, ⟨6, 6, .rw, 0, false⟩, ⟨5, 5, .rw, 0, false⟩, ⟨4, 4, .rw, 0, false⟩]⟩,
  ⟨0x01, 1, 1, [⟨15, 15, .ro, 0, false⟩, ⟨14, 12, .ro, 0, false⟩, ⟨11, 11, .ro, 0, false⟩, ⟨10, 9, .ro, 0, false⟩, ⟨8, 8, .ro, 0, false⟩, ⟨7, 7, .ro, 0, false⟩, ⟨6, 6, .ro, 0, false⟩, ⟨5, 3, .ro, 0, false⟩]⟩,
  ⟨0x02, 1, 1, [⟨15, 15, .w1c, 0, false⟩, ⟨14, 14, .w1c, 0, false⟩, ⟨13, 13, .w1c, 0, false⟩, ⟨12, 12, .w1c, 0, false⟩, ⟨11, 11, .w1c, 0, false⟩, ⟨10, 10, .w1c, 0, false⟩, ⟨9, 9, .w1c, 0, false⟩, ⟨8, 8, .w1c, 0, false⟩]⟩,
  ⟨0x03, 1, 1, [⟨15, 15, .sc, 0, false⟩, ⟨14, 14, .sc, 0, false⟩, ⟨13, 13, .sc, 0, false⟩, ⟨12, 12, .sc, 0, false⟩]⟩,
  ⟨0x04, 1, 1, [⟨15, 8, .rw, 0, false⟩]⟩,
  ⟨0x05, 1, 1, [⟨15, 0, .rw, 0, false⟩]⟩,
  ⟨0x06, 1, 1, [⟨15, 0, .rw, 0, false⟩]⟩,
  ⟨0x07, 1, 1, [⟨15, 0, .rw, 0, false⟩]⟩,
  ⟨0x08, 1, 1, [⟨15, 0, .rw, 0, false⟩]⟩,
  ⟨0x09, 1, 1, [⟨15, 0, .rw, 0, false⟩]⟩,
  ⟨0x0A, 1, 1, [⟨15, 13, .rw, 0, false⟩, ⟨11, 0, .rw, 0, false⟩]⟩,
  ⟨0x0B, 1, 1, [⟨15, 13, .rw, 7, true⟩, ⟨12, 11, .rw, 3, true⟩]⟩,
  ⟨0x0C, 1, 1, [⟨15, 12, .ro, 0, false⟩, ⟨11, 9, .ro, 0, false⟩, ⟨8, 6, .ro, 0, false⟩, ⟨5, 5, .ro, 0, false⟩, ⟨4, 4, .ro, 0, false⟩, ⟨3, 3, .ro, 0, false⟩]⟩,
  ⟨0x0D, 1, 1, [⟨15, 15, .w1c, 0, false⟩, ⟨14, 14, .w1c, 0, false⟩, ⟨13, 13, .w1c, 0, false⟩, ⟨12, 12, .w1c, 0, false⟩, ⟨11, 11, .w1c, 0, false⟩, ⟨10, 10, .w1c, 0, false⟩, ⟨9, 9, .w1c, 0, false⟩]⟩,
  ⟨0x0E, 1, 1, [⟨15, 0, .rw, 0, false⟩]⟩,
  ⟨0x0F, 1, 1, [⟨15, 0, .rw, 0, false⟩]⟩,
  ⟨0x10, 1, 1, [⟨15, 0, .rw, 0, false⟩]⟩,
  ⟨0x11, 1, 1, [⟨15, 0, .rw, 0, false⟩]⟩,
  ⟨0x12, 1, 1, [⟨15, 0, .ro, 0, false⟩]⟩,
  ⟨0x13, 1, 1, [⟨15, 0, .ro, 0, false⟩]⟩,
  ⟨0x14, 1, 1, [⟨15, 0, .ro, 0, false⟩]⟩,
  ⟨0x15, 1, 1, [⟨15, 0, .ro, 0, false⟩]⟩,
  ⟨0x16, 1, 1, [⟨15, 0, .ro, 0, false⟩]⟩,
  ⟨0x17, 1, 1, [⟨15, 0, .ro, 0, false⟩]⟩,
  ⟨0x18, 1, 1, [⟨15, 0, .ro, 0, false⟩]⟩,
  ⟨0x19, 1, 1, [⟨15, 0, .ro, 0, false⟩]⟩,
  ⟨0x1A, 1, 1, [⟨15, 0, .ro, 0, false⟩]⟩,
  ⟨0x1B, 1, 1, [⟨7, 0, .ro, 0, false⟩]⟩,
  ⟨0x1C, 1, 1, [⟨15, 0, .ro, 0, false⟩]⟩,
  ⟨0x1D, 1, 1, [⟨15, 0, .ro, 0, false⟩]⟩,
  ⟨0x1E, 1, 1, [⟨7, 0, .ro, 0, false⟩]⟩,
  ⟨0x1F, 1, 1, [⟨15, 12, .ro, 0, false⟩, ⟨11, 8, .ro, 0, false⟩, ⟨7, 4, .ro, 0, false⟩]⟩,
  ⟨0x20, 1, 1, [⟨15, 0, .ro, 0, false⟩]⟩,
  ⟨0x21, 1, 1, [⟨15, 0, .ro, 0, false⟩]⟩,
  ⟨0x22, 1, 1, [⟨15, 0, .ro, 0, false⟩]⟩,
  ⟨0x23, 1, 1, [⟨15, 0, .ro, 0, false⟩]⟩,
  ⟨0x24, 1, 1, [⟨15, 0, .ro, 0, false⟩]⟩,
  ⟨0x25, 1, 1, [⟨15, 15, .rw, 0, false⟩, ⟨14, 14, .rw, 0, false⟩, ⟨3, 0, .rw, 0, false⟩]⟩,
  ⟨0x26, 1, 1, [⟨15, 0, .cnt, 0, false⟩]⟩,
  ⟨0x27, 1, 1, [⟨15, 0, .cnt, 0, false⟩]⟩]
def ETH.rows1 : List RegDef := [
  ⟨0x28, 1, 1, [⟨15, 0, .cnt, 0, false⟩]⟩,
  ⟨0x29, 1, 1, [⟨15, 0, .cnt, 0, false⟩]⟩,
  ⟨0x2A, 1, 1, [⟨15, 0, .cnt, 0, false⟩]⟩,
  ⟨0x2B, 1, 1, [⟨15, 0, .cnt, 0, false⟩]⟩,
  ⟨0x2C, 1, 1, [⟨15, 0, .cnt, 0, false⟩]⟩,
  ⟨0x2D, 1, 1, [⟨15, 0, .cnt, 0, false⟩]⟩,
  ⟨0x2E, 1, 1, [⟨15, 0, .cnt, 0, false⟩]⟩,
  ⟨0x2F, 1, 1, [⟨15, 0, .cnt, 0, false⟩]⟩,
  ⟨0x30, 1, 1, [⟨15, 0, .cnt, 0, false⟩]⟩,
  ⟨0x31, 1, 1, [⟨15, 0, .cnt, 0, false⟩]⟩,
  ⟨0x32, 1, 1, [⟨15, 0, .cnt, 0, false⟩]⟩,
  ⟨0x33, 1, 1, [⟨15, 0, .cnt, 0, false⟩]⟩,
  ⟨0x34, 1, 1, [⟨15, 0, .cnt, 0, false⟩]⟩,
  ⟨0x35, 1, 1, [⟨15, 0, .cnt, 0, false⟩]⟩,
  ⟨0x36, 1, 1, [⟨15, 0, .cnt, 0, false⟩]⟩,
  ⟨0x37, 1, 1, [⟨15, 0, .cnt, 0, false⟩]⟩,
  ⟨0x38, 1, 1, [⟨15, 0, .cnt, 0, false⟩]⟩,
  ⟨0x39, 1, 1, [⟨15, 0, .cnt, 0, false⟩]⟩,
  ⟨0x3A, 1, 1, [⟨15, 0, .cnt, 0, false⟩]⟩,
  ⟨0x3B, 1, 1, [⟨15, 0, .cnt, 0, false⟩]⟩,
  ⟨0x3C, 1, 1, [⟨15, 8, .rw, 0, false⟩, ⟨7, 5, .rw, 0, false⟩, ⟨4, 4, .rw, 0, false⟩, ⟨3, 3, .rw, 0, false⟩, ⟨2, 2, .sc, 0, false⟩]⟩,
  ⟨0x3D, 1, 1, [⟨15, 0, .rw, 0, false⟩]⟩,
  ⟨0x3E, 1, 1, [⟨5, 4, .rw, 0, false⟩, ⟨2, 0, .rw, 0, false⟩]⟩,
  ⟨0x3F, 1, 1, [⟨15, 0, .ro, 0, false⟩]⟩]
def ETH.rows : List RegDef := ETH.rows0 ++ ETH.rows1

/-! ### CAP: base 0x3C00, 1 instance(s), stride 0x40 -/
def CAP.CAP_CTRL : Nat := 0x3C00
def CAP.CAP_CTRL_CNT_CLR : Field := ⟨CAP.CAP_CTRL, 15, 15⟩
def CAP.CAP_CTRL_SEQ_CLR : Field := ⟨CAP.CAP_CTRL, 14, 14⟩
def CAP.CAP_CTRL_PEAK_CLR : Field := ⟨CAP.CAP_CTRL, 13, 13⟩
def CAP.CAP_STAT : Nat := 0x3C01
def CAP.CAP_STAT_EXP0_ACTIVE : Field := ⟨CAP.CAP_STAT, 15, 15⟩
def CAP.CAP_STAT_EXP1_ACTIVE : Field := ⟨CAP.CAP_STAT, 14, 14⟩
def CAP.CAP_STAT_EXP0_ERR : Field := ⟨CAP.CAP_STAT, 13, 13⟩
def CAP.CAP_STAT_EXP1_ERR : Field := ⟨CAP.CAP_STAT, 12, 12⟩
def CAP.CAP_EVT : Nat := 0x3C02
def CAP.CAP_EVT_OVERRUN : Field := ⟨CAP.CAP_EVT, 15, 15⟩
def CAP.CAP_EVT_DROP_DIS : Field := ⟨CAP.CAP_EVT, 14, 14⟩
def CAP.CAP_EVT_DROP_INT : Field := ⟨CAP.CAP_EVT, 13, 13⟩
def CAP.CAP_EVT_RING_CRC : Field := ⟨CAP.CAP_EVT, 12, 12⟩
def CAP.CAP_EVT_EXP_LOST : Field := ⟨CAP.CAP_EVT, 11, 11⟩
def CAP.SRC_SEL : Nat := 0x3C03
def CAP.SRC_SEL_SRC : Field := ⟨CAP.SRC_SEL, 6, 0⟩
def CAP.SRC_CFG : Nat := 0x3C04
def CAP.SRC_CFG_EN : Field := ⟨CAP.SRC_CFG, 15, 15⟩
def CAP.SRC_CFG_TK_SEL : Field := ⟨CAP.SRC_CFG, 14, 13⟩
def CAP.SRC_CFG_TARGET : Field := ⟨CAP.SRC_CFG, 12, 8⟩
def CAP.SRC_CFG_EDGE : Field := ⟨CAP.SRC_CFG, 7, 6⟩
def CAP.SRC_CFG_AUX : Field := ⟨CAP.SRC_CFG, 5, 5⟩
def CAP.SRC_DEC : Nat := 0x3C05
def CAP.SRC_STAT : Nat := 0x3C06
def CAP.SRC_STAT_NO_INPUT : Field := ⟨CAP.SRC_STAT, 15, 15⟩
def CAP.SRC_STAT_CFG_ERR : Field := ⟨CAP.SRC_STAT, 14, 14⟩
def CAP.SRC_STAT_IN_FLIGHT : Field := ⟨CAP.SRC_STAT, 7, 0⟩
def CAP.CAPTURED : Nat := 0x3C07
def CAP.DELIVERED : Nat := 0x3C0A
def CAP.OVERRUN : Nat := 0x3C0D
def CAP.DROP_DIS : Nat := 0x3C10
def CAP.DROP_INT : Nat := 0x3C13
def CAP.SEQ : Nat := 0x3C16
def CAP.SKIP_CNT : Nat := 0x3C18
def CAP.GRP (i : Nat) : Nat := 0x3C19 + i
def CAP.EXP_CFG (i : Nat) : Nat := 0x3C1D + 6 * i
def CAP.EXP_CFG_EN (i : Nat) : Field := ⟨CAP.EXP_CFG i, 15, 15⟩
def CAP.EXP_CFG_PORT (i : Nat) : Field := ⟨CAP.EXP_CFG i, 14, 12⟩
def CAP.EXP_CFG_FLUSH_US (i : Nat) : Field := ⟨CAP.EXP_CFG i, 9, 0⟩
def CAP.EXP_MASK (i : Nat) : Nat := 0x3C1E + 6 * i
def CAP.EXP_DST (i : Nat) : Nat := 0x3C1F + 6 * i
def CAP.EXP_FCNT (i : Nat) : Nat := 0x3C22 + 6 * i
def CAP.EXP_LOST_CNT : Nat := 0x3C29
def CAP.VOTE_REPAIR : Nat := 0x3C2A
def CAP.HIST_SEL : Nat := 0x3C2B
def CAP.HIST_SEL_ENTRY : Field := ⟨CAP.HIST_SEL, 5, 4⟩
def CAP.HIST_SEL_WORD : Field := ⟨CAP.HIST_SEL, 2, 0⟩
def CAP.HIST_DATA : Nat := 0x3C2C
def CAP.WM_SUM : Nat := 0x3C2D
def CAP.FULL_SUM : Nat := 0x3C2E
def CAP.IF_TOTAL : Nat := 0x3C2F
def CAP.IF_TOTAL_PEAK : Field := ⟨CAP.IF_TOTAL, 15, 8⟩
def CAP.IF_TOTAL_LIVE : Field := ⟨CAP.IF_TOTAL, 7, 0⟩
def CAP.IF_RING (i : Nat) : Nat := 0x3C30 + i
def CAP.IF_RING_PEAK (i : Nat) : Field := ⟨CAP.IF_RING i, 15, 8⟩
def CAP.IF_RING_LIVE (i : Nat) : Field := ⟨CAP.IF_RING i, 7, 0⟩
def CAP.rows0 : List RegDef := [
  ⟨0x00, 1, 1, [⟨15, 15, .sc, 0, false⟩, ⟨14, 14, .sc, 0, false⟩, ⟨13, 13, .sc, 0, false⟩]⟩,
  ⟨0x01, 1, 1, [⟨15, 15, .ro, 0, false⟩, ⟨14, 14, .ro, 0, false⟩, ⟨13, 13, .ro, 0, false⟩, ⟨12, 12, .ro, 0, false⟩]⟩,
  ⟨0x02, 1, 1, [⟨15, 15, .w1c, 0, false⟩, ⟨14, 14, .w1c, 0, false⟩, ⟨13, 13, .w1c, 0, false⟩, ⟨12, 12, .w1c, 0, false⟩, ⟨11, 11, .w1c, 0, false⟩]⟩,
  ⟨0x03, 1, 1, [⟨6, 0, .rw, 0, false⟩]⟩,
  ⟨0x04, 1, 1, [⟨15, 15, .rw, 0, false⟩, ⟨14, 13, .rw, 0, false⟩, ⟨12, 8, .rw, 0, false⟩, ⟨7, 6, .rw, 0, false⟩, ⟨5, 5, .rw, 0, false⟩]⟩,
  ⟨0x05, 1, 1, [⟨15, 0, .rw, 1, false⟩]⟩,
  ⟨0x06, 1, 1, [⟨15, 15, .ro, 0, false⟩, ⟨14, 14, .ro, 0, false⟩, ⟨7, 0, .ro, 0, false⟩]⟩,
  ⟨0x07, 1, 1, [⟨15, 0, .ro, 0, false⟩]⟩,
  ⟨0x08, 1, 1, [⟨15, 0, .ro, 0, false⟩]⟩,
  ⟨0x09, 1, 1, [⟨15, 0, .ro, 0, false⟩]⟩,
  ⟨0x0A, 1, 1, [⟨15, 0, .ro, 0, false⟩]⟩,
  ⟨0x0B, 1, 1, [⟨15, 0, .ro, 0, false⟩]⟩,
  ⟨0x0C, 1, 1, [⟨15, 0, .ro, 0, false⟩]⟩,
  ⟨0x0D, 1, 1, [⟨15, 0, .ro, 0, false⟩]⟩,
  ⟨0x0E, 1, 1, [⟨15, 0, .ro, 0, false⟩]⟩,
  ⟨0x0F, 1, 1, [⟨15, 0, .ro, 0, false⟩]⟩,
  ⟨0x10, 1, 1, [⟨15, 0, .ro, 0, false⟩]⟩,
  ⟨0x11, 1, 1, [⟨15, 0, .ro, 0, false⟩]⟩,
  ⟨0x12, 1, 1, [⟨15, 0, .ro, 0, false⟩]⟩,
  ⟨0x13, 1, 1, [⟨15, 0, .ro, 0, false⟩]⟩,
  ⟨0x14, 1, 1, [⟨15, 0, .ro, 0, false⟩]⟩,
  ⟨0x15, 1, 1, [⟨15, 0, .ro, 0, false⟩]⟩,
  ⟨0x16, 1, 1, [⟨15, 0, .ro, 0, false⟩]⟩,
  ⟨0x17, 1, 1, [⟨15, 0, .ro, 0, false⟩]⟩,
  ⟨0x18, 1, 1, [⟨15, 0, .cnt, 0, false⟩]⟩,
  ⟨0x19, 4, 1, [⟨15, 0, .rw, 0, false⟩]⟩,
  ⟨0x1D, 2, 6, [⟨15, 15, .rw, 0, false⟩, ⟨14, 12, .rw, 0, false⟩, ⟨9, 0, .rw, 10, false⟩]⟩,
  ⟨0x1E, 2, 6, [⟨15, 0, .rw, 0, false⟩]⟩,
  ⟨0x1F, 2, 6, [⟨15, 0, .rw, 65535, false⟩]⟩,
  ⟨0x20, 2, 6, [⟨15, 0, .rw, 65535, false⟩]⟩,
  ⟨0x21, 2, 6, [⟨15, 0, .rw, 65535, false⟩]⟩,
  ⟨0x22, 2, 6, [⟨15, 0, .ro, 0, false⟩]⟩,
  ⟨0x29, 1, 1, [⟨15, 0, .cnt, 0, false⟩]⟩,
  ⟨0x2A, 1, 1, [⟨15, 0, .cnt, 0, false⟩]⟩,
  ⟨0x2B, 1, 1, [⟨5, 4, .rw, 0, false⟩, ⟨2, 0, .rw, 0, false⟩]⟩,
  ⟨0x2C, 1, 1, [⟨15, 0, .ro, 0, false⟩]⟩,
  ⟨0x2D, 1, 1, [⟨15, 0, .ro, 0, false⟩]⟩,
  ⟨0x2E, 1, 1, [⟨15, 0, .ro, 0, false⟩]⟩,
  ⟨0x2F, 1, 1, [⟨15, 8, .ro, 0, false⟩, ⟨7, 0, .ro, 0, false⟩]⟩,
  ⟨0x30, 16, 1, [⟨15, 8, .ro, 0, false⟩, ⟨7, 0, .ro, 0, false⟩]⟩]
def CAP.rows : List RegDef := CAP.rows0

/-! ### RING: base 0x3D00, 16 instance(s), stride 0x10 -/
def RING.RCFG (k : Nat) : Nat := 0x3D00 + 16 * k
def RING.RCFG_SIZE (k : Nat) : Field := ⟨RING.RCFG k, 15, 12⟩
def RING.RCFG_BASE (k : Nat) : Field := ⟨RING.RCFG k, 11, 3⟩
def RING.RCFG_FLUSH (k : Nat) : Field := ⟨RING.RCFG k, 2, 2⟩
def RING.RCFG_CNT_CLR (k : Nat) : Field := ⟨RING.RCFG k, 1, 1⟩
def RING.WMARK (k : Nat) : Nat := 0x3D01 + 16 * k
def RING.WMARK_WMARK (k : Nat) : Field := ⟨RING.WMARK k, 14, 0⟩
def RING.RSTAT (k : Nat) : Nat := 0x3D02 + 16 * k
def RING.RSTAT_RESIZING (k : Nat) : Field := ⟨RING.RSTAT k, 15, 15⟩
def RING.RSTAT_FULL (k : Nat) : Field := ⟨RING.RSTAT k, 14, 14⟩
def RING.RSTAT_ABOVE_WM (k : Nat) : Field := ⟨RING.RSTAT k, 13, 13⟩
def RING.RSTAT_CFG_ERR (k : Nat) : Field := ⟨RING.RSTAT k, 12, 12⟩
def RING.RSTAT_WM_ARMED (k : Nat) : Field := ⟨RING.RSTAT k, 11, 11⟩
def RING.REVT (k : Nat) : Nat := 0x3D03 + 16 * k
def RING.REVT_WM (k : Nat) : Field := ⟨RING.REVT k, 15, 15⟩
def RING.REVT_OVERRUN (k : Nat) : Field := ⟨RING.REVT k, 14, 14⟩
def RING.REVT_EMPTY_READ (k : Nat) : Field := ⟨RING.REVT k, 13, 13⟩
def RING.USED (k : Nat) : Nat := 0x3D04 + 16 * k
def RING.USED_USED (k : Nat) : Field := ⟨RING.USED k, 14, 0⟩
def RING.FREE (k : Nat) : Nat := 0x3D05 + 16 * k
def RING.FREE_FREE (k : Nat) : Field := ⟨RING.FREE k, 14, 0⟩
def RING.RD_DATA (k : Nat) : Nat := 0x3D06 + 16 * k
def RING.RD_CTRL (k : Nat) : Nat := 0x3D07 + 16 * k
def RING.RD_CTRL_RD_RESTART (k : Nat) : Field := ⟨RING.RD_CTRL k, 15, 15⟩
def RING.RD_CTRL_RD_POS (k : Nat) : Field := ⟨RING.RD_CTRL k, 14, 11⟩
def RING.RD_CTRL_IF_LIMIT (k : Nat) : Field := ⟨RING.RD_CTRL k, 7, 0⟩
def RING.WRITTEN (k : Nat) : Nat := 0x3D08 + 16 * k
def RING.TAKEN (k : Nat) : Nat := 0x3D0A + 16 * k
def RING.FLUSHED (k : Nat) : Nat := 0x3D0C + 16 * k
def RING.EVT_CLASS (k : Nat) : Nat := 0x3D0E + 16 * k
def RING.EVT_CLASS_THRESH_N (k : Nat) : Field := ⟨RING.EVT_CLASS k, 15, 8⟩
def RING.EVT_CLASS_ROUTE (k : Nat) : Field := ⟨RING.EVT_CLASS k, 7, 5⟩
def RING.EVT_CLASS_REACT (k : Nat) : Field := ⟨RING.EVT_CLASS k, 4, 4⟩
def RING.EVT_CLASS_INJ_REACT (k : Nat) : Field := ⟨RING.EVT_CLASS k, 3, 3⟩
def RING.EVT_CLASS_FORCE (k : Nat) : Field := ⟨RING.EVT_CLASS k, 2, 2⟩
def RING.EVT_WINDOW (k : Nat) : Nat := 0x3D0F + 16 * k
def RING.rows0 : List RegDef := [
  ⟨0x00, 1, 1, [⟨15, 12, .rw, 0, true⟩, ⟨11, 3, .rw, 0, false⟩, ⟨2, 2, .sc, 0, false⟩, ⟨1, 1, .sc, 0, false⟩]⟩,
  ⟨0x01, 1, 1, [⟨14, 0, .rw, 0, false⟩]⟩,
  ⟨0x02, 1, 1, [⟨15, 15, .ro, 0, false⟩, ⟨14, 14, .ro, 0, false⟩, ⟨13, 13, .ro, 0, false⟩, ⟨12, 12, .ro, 0, false⟩, ⟨11, 11, .ro, 0, false⟩]⟩,
  ⟨0x03, 1, 1, [⟨15, 15, .w1c, 0, false⟩, ⟨14, 14, .w1c, 0, false⟩, ⟨13, 13, .w1c, 0, false⟩]⟩,
  ⟨0x04, 1, 1, [⟨14, 0, .ro, 0, false⟩]⟩,
  ⟨0x05, 1, 1, [⟨14, 0, .ro, 0, false⟩]⟩,
  ⟨0x06, 1, 1, [⟨15, 0, .ro, 0, false⟩]⟩,
  ⟨0x07, 1, 1, [⟨15, 15, .sc, 0, false⟩, ⟨14, 11, .ro, 0, false⟩, ⟨7, 0, .rw, 32, false⟩]⟩,
  ⟨0x08, 1, 1, [⟨15, 0, .ro, 0, false⟩]⟩,
  ⟨0x09, 1, 1, [⟨15, 0, .ro, 0, false⟩]⟩,
  ⟨0x0A, 1, 1, [⟨15, 0, .ro, 0, false⟩]⟩,
  ⟨0x0B, 1, 1, [⟨15, 0, .ro, 0, false⟩]⟩,
  ⟨0x0C, 1, 1, [⟨15, 0, .ro, 0, false⟩]⟩,
  ⟨0x0D, 1, 1, [⟨15, 0, .ro, 0, false⟩]⟩,
  ⟨0x0E, 1, 1, [⟨15, 8, .rw, 0, false⟩, ⟨7, 5, .rw, 0, false⟩, ⟨4, 4, .rw, 0, false⟩, ⟨3, 3, .rw, 0, false⟩, ⟨2, 2, .sc, 0, false⟩]⟩,
  ⟨0x0F, 1, 1, [⟨15, 0, .rw, 0, false⟩]⟩]
def RING.rows : List RegDef := RING.rows0

/-- Every block of the register space (R387), ascending by base address. -/
def regBlocks : List BlockDef := [
  ⟨0x0000, 1, 0x100, SYS.rows⟩,
  ⟨0x0100, 1, 0x30, PWR.rows⟩,
  ⟨0x0130, 1, 0x20, THM.rows⟩,
  ⟨0x0200, 1, 0x100, REG.rows⟩,
  ⟨0x0300, 1, 0x40, CFG.rows⟩,
  ⟨0x0400, 1, 0x60, NVS.rows⟩,
  ⟨0x0500, 1, 0x30, MEM.rows⟩,
  ⟨0x0600, 1, 0x60, BIST.rows⟩,
  ⟨0x0700, 1, 0x80, LOA.rows⟩,
  ⟨0x0800, 24, 0x40, INM.rows⟩,
  ⟨0x0E00, 1, 0x50, TRK.rows⟩,
  ⟨0x0F00, 1, 0x80, CAS.rows⟩,
  ⟨0x1000, 6, 0x100, DOM.rows⟩,
  ⟨0x1800, 7, 0x100, SYN.rows⟩,
  ⟨0x2000, 40, 0x20, OUT.rows⟩,
  ⟨0x2500, 1, 0x10, OUTC.rows⟩,
  ⟨0x2510, 8, 0x10, PG.rows⟩,
  ⟨0x2800, 4, 0x100, TK.rows⟩,
  ⟨0x3000, 1, 0x20, PTP.rows⟩,
  ⟨0x3020, 4, 0x10, PTI.rows⟩,
  ⟨0x3100, 8, 0x100, ETH.rows⟩,
  ⟨0x3C00, 1, 0x40, CAP.rows⟩,
  ⟨0x3D00, 16, 0x10, RING.rows⟩]

/-- The row of a block's table that an offset falls on. -/
def findRow (off : Nat) : List RegDef → Option RegDef
  | [] => none
  | r :: rs =>
    if r.off ≤ off ∧ off < r.off + r.num * r.step ∧ (off - r.off) % r.step = 0 then some r else findRow off rs

/-- The register at an address, if the spec implements one there (R387, R413). -/
def findReg (a : Nat) : List BlockDef → Option RegDef
  | [] => none
  | b :: bs =>
    if b.base ≤ a ∧ a < b.base + b.count * b.stride then
      (findRow ((a - b.base) % b.stride) b.rows).orElse fun _ => findReg a bs
    else findReg a bs

/-- The map's answer for an address. -/
def regAt (a : Nat) : Option RegDef := findReg a regBlocks

/-- An address with no register is unmapped (R387, R413). -/
def mapped (a : Nat) : Bool := (regAt a).isSome

end Sys2Proof.Machine
end

