-- ==== Sys2Proof/Machine/Ops.lean ====
section
/-! DEFINITION. Reading and writing state: vectors of like blocks, the register store, fields, multi-word values and
counters. -/
namespace Sys2Proof.Machine

/-- Element i, or the default outside the range. -/
def vat {α : Type} [Inhabited α] {n : Nat} (v : Vector α n) (i : Nat) : α :=
  if h : i < n then v[i] else default

/-- The vector with element i changed; an index outside the range changes nothing. -/
def vup {α : Type} {n : Nat} (v : Vector α n) (i : Nat) (f : α → α) : Vector α n :=
  if h : i < n then v.set i (f v[i]) else v

/-- Reset words that differ between the like registers of one table row: the nominal of references 16 to 23 (R48), the
early-output entries (14) and SYN0 to SYN5, whose COMP bit is reserved. -/
def resetOverride (a : Nat) : Option Nat :=
  if a = 0x0C01 ∨ a = 0x0C02 ∨ a = 0x0C41 ∨ a = 0x0C42 ∨ a = 0x0C81 ∨ a = 0x0C82 ∨ a = 0x0CC1 ∨ a = 0x0CC2 then some 0
  else if a = 0x0D01 ∨ a = 0x0D02 ∨ a = 0x0D41 ∨ a = 0x0D42 ∨ a = 0x0D81 ∨ a = 0x0D82 ∨ a = 0x0DC1 ∨ a = 0x0DC2 then
    some 0
  else if a = 0x0064 then some 0xDC11
  else if a = 0x0068 ∨ a = 0x006C then some 0x1C00
  else if a = 0x0065 ∨ a = 0x0069 ∨ a = 0x006D then some 1
  else if a = 0x0066 ∨ a = 0x006A ∨ a = 0x006E then some 0
  else if 0x1800 ≤ a ∧ a < 0x1E00 ∧ a % 0x100 = 0 then some 0
  else none

/-- The word a register holds right after reset (R14), 0 where its table gives a dash (log entry 8). -/
def resetWord (a : Nat) : Word :=
  match resetOverride a with
  | some n => BitVec.ofNat 16 n
  | none =>
    match regAt a with
    | none => 0
    | some r => BitVec.ofNat 16 (r.fields.foldl (fun n f => setBits n f.hi f.lo f.reset) 0)

/-- The entry of a store at an address. -/
def Store.find {α : Type} (a : Nat) : List (Nat × α) → Option α
  | [] => none
  | (b, x) :: rest => if a = b then some x else Store.find a rest

/-- The store without an address. -/
def Store.erase {α : Type} (a : Nat) : List (Nat × α) → List (Nat × α)
  | [] => []
  | (b, x) :: rest => if a = b then Store.erase a rest else (b, x) :: Store.erase a rest

/-- The store with (a, w) put in its place. -/
def Store.put {α : Type} (a : Nat) (w : α) : List (Nat × α) → List (Nat × α)
  | [] => [(a, w)]
  | (b, x) :: rest =>
    if a < b then (a, w) :: (b, x) :: rest
    else if a = b then (a, w) :: rest
    else (b, x) :: Store.put a w rest

/-- The canonical form of a store: addresses strictly rising, and every entry one that `listed` admits. -/
def Store.wf {α : Type} (listed : Nat → α → Bool) : List (Nat × α) → Bool
  | [] => true
  | [(a, w)] => listed a w
  | (a, w) :: (b, x) :: rest => listed a w && decide (a < b) && Store.wf listed ((b, x) :: rest)

/-- The word at an address: the listed one, or the reset word. -/
def RegStore.get (r : RegStore) (a : Nat) : Word := (Store.find a r).getD (resetWord a)

/-- The store with a word written, kept canonical: a word equal to the reset word is not listed. -/
def RegStore.set (r : RegStore) (a : Nat) (w : Word) : RegStore :=
  if w = resetWord a then Store.erase a r else Store.put a w r

def RegStore.wf (r : RegStore) : Bool := Store.wf (fun a w => decide (w ≠ resetWord a)) r

/-- The vote of three copies of a field (R407): none where all three differ. -/
def majority (x y z : Nat) : Option Nat := if x = y ∨ x = z then some x else if y = z then some y else none

/-- What the copies of a register show: each field as a whole is what at least two copies hold (R407).  A field whose three
copies all differ is split, and R409 gives it its safe value when it is found. -/
def Copies.vote (c : Copies) (a : Nat) : Word :=
  if c.one = c.two then c.one
  else
    match regAt a with
    | none => c.one
    | some r =>
      BitVec.ofNat 16 (r.fields.foldl (fun w f =>
        let v := majority (bitsOf c.one.toNat f.hi f.lo) (bitsOf c.two.toNat f.hi f.lo) (bitsOf c.three.toNat f.hi f.lo)
        setBits w f.hi f.lo (v.getD (bitsOf c.one.toNat f.hi f.lo))) 0)

/-- The voted word of a register. -/
def VoteStore.get (r : VoteStore) (a : Nat) : Word :=
  match Store.find a r with
  | some c => c.vote a
  | none => resetWord a

/-- The store with the three copies of a register put, kept canonical. -/
def VoteStore.putCopies (r : VoteStore) (a : Nat) (c : Copies) : VoteStore :=
  if c = ⟨resetWord a, resetWord a, resetWord a⟩ then Store.erase a r else Store.put a c r

/-- A write sets all three copies (R407). -/
def VoteStore.set (r : VoteStore) (a : Nat) (w : Word) : VoteStore := r.putCopies a ⟨w, w, w⟩

/-- The three copies of one field as the scrubber finds them. -/
def VoteStore.upset (r : VoteStore) (a hi lo x y z : Nat) : VoteStore :=
  let w := (r.get a).toNat
  let put := fun v => BitVec.ofNat 16 (setBits w hi lo v)
  r.putCopies a ⟨put x, put y, put z⟩

def VoteStore.wf (r : VoteStore) : Bool :=
  Store.wf (fun a c => decide (c ≠ ⟨resetWord a, resetWord a, resetWord a⟩)) r

/-- The stored word of a register. -/
def State.reg (s : State) (a : Nat) : Nat := (s.regs.get a).toNat

def State.setReg (s : State) (a n : Nat) : State := { s with regs := s.regs.set a (BitVec.ofNat 16 n) }

/-- A stored field. -/
def State.fld (s : State) (f : Field) : Nat := bitsOf (s.reg f.addr) f.hi f.lo

def State.bit (s : State) (f : Field) : Bool := s.fld f == 1

def State.setFld (s : State) (f : Field) (v : Nat) : State :=
  s.setReg f.addr (setBits (s.reg f.addr) f.hi f.lo v)

/-- Hardware sets a one-bit flag; the register-file cycle keeps it (R410). -/
def State.flag (s : State) (f : Field) : State :=
  { s.setFld f 1 with cyc := { s.cyc with sets := (f.addr, f.lo) :: s.cyc.sets } }

/-- Sets a one-bit flag if the condition holds. -/
def State.flagIf (s : State) (c : Bool) (f : Field) : State := if c then s.flag f else s

/-- A value that spans n registers, least significant word at the lowest address (R17). -/
def State.wide (s : State) (a n : Nat) : Nat :=
  (List.range n).foldl (fun acc i => acc + s.reg (a + i) * 65536 ^ i) 0

def State.setWide (s : State) (a n v : Nat) : State :=
  (List.range n).foldl (fun t i => t.setReg (a + i) (v / 65536 ^ i % 65536)) s

/-- The applied value of a setting that takes effect when its highest register is written (R53, R185, R391). -/
def State.eff1 (s : State) (a : Nat) : Nat := (s.eff.get a).toNat

def State.effWide (s : State) (a n : Nat) : Nat :=
  (List.range n).foldl (fun acc i => acc + s.eff1 (a + i) * 65536 ^ i) 0

/-- Applies the n registers from a: what is staged comes into force. -/
def State.applyEff (s : State) (a n : Nat) : State :=
  (List.range n).foldl (fun t i => { t with eff := t.eff.set (a + i) (t.regs.get (a + i)) }) s

/-- The count that hardware added, in the register-file cycle in progress, to the counter at an address with this lowest
bit. -/
def Cycle.added (c : Cycle) (a lo : Nat) : Nat :=
  (c.incs.filter fun x => x.1 == a && x.2.1 == lo).foldl (fun n x => n + x.2.2) 0

/-- A 16-bit counter of the counter class: adds k and saturates at 0xFFFF; the register-file cycle keeps what was added
(R45, R410). -/
def State.bump (s : State) (a : Nat) (k : Nat := 1) : State :=
  { s.setReg a (satNat 16 (s.reg a + k)) with cyc := { s.cyc with incs := (a, 0, k) :: s.cyc.incs } }

/-- A counter that fills only a field: adds 1 and saturates. -/
def State.bumpFld (s : State) (f : Field) : State :=
  { s.setFld f (satNat (f.hi + 1 - f.lo) (s.fld f + 1)) with cyc := { s.cyc with incs := (f.addr, f.lo, 1) :: s.cyc.incs } }

/-- Clears the n registers from a; a count added in the same register-file cycle stays (R45, R410). -/
def State.zeroRegs (s : State) (a n : Nat) : State :=
  (List.range n).foldl (fun t i => t.setReg (a + i) (satNat 16 (t.cyc.added (a + i) 0))) s

/-- Software has written the field in the register-file cycle in progress. -/
def State.softWrote (s : State) (f : Field) : Bool :=
  s.cyc.wrote.any fun w => w.addr == f.addr && bitsOf w.mask f.hi f.lo != 0

/-- Software sets a go bit whose operation runs, which has no effect unless that ends in the same register-file cycle (R410). -/
def State.goNote (s : State) (f : Field) (runs : Bool) : State :=
  if runs then { s with cyc := { s.cyc with again := (f.addr, f.lo) :: s.cyc.again } } else s

/-- The operation of a go bit ends: a software set in the same register-file cycle starts a new one (R410). -/
def State.goEnd (s : State) (f : Field) (start : State → State) : State :=
  if s.cyc.again.contains (f.addr, f.lo) then
    start { s with cyc := { s.cyc with again := s.cyc.again.filter fun x => x != (f.addr, f.lo) } }
  else s

/-- A hardware update of a shared field: software's write in the same cycle wins (R410). -/
def State.setShared (s : State) (f : Field) (v : Nat) : State := if s.softWrote f then s else s.setFld f v

/-- MTB time in ns. -/
def State.now (s : State) : Nat := s.mtb.toNat

/-- The epoch number (R34). -/
def State.epoch (s : State) : Nat := s.now / 25000

/-- A new register-file cycle of 4 ns begins (R19): `s` is the state before, `t` the state that time has reached. -/
def State.cycleFrom (t s : State) : State :=
  if s.now / 4 = t.now / 4 then t else { t with found := s.toBlocks, cyc := Cycle.none }

/-- A free value (log entry 4): the state reads one and moves on. -/
def State.takeFree (s : State) : Nat × State := (Config.freeNat s.free, { s with free := s.free + 1 })

def State.monAt (s : State) (k : Nat) : Monitor := vat s.mon k
def State.monUp (s : State) (k : Nat) (f : Monitor → Monitor) : State := { s with mon := vup s.mon k f }
def State.trkAt (s : State) (k : Nat) : Tracker := vat s.trk k
def State.trkUp (s : State) (k : Nat) (f : Tracker → Tracker) : State := { s with trk := vup s.trk k f }
def State.fltAt (s : State) (k : Nat) : SrcState := vat s.flt k
def State.fltUp (s : State) (k : Nat) (f : SrcState → SrcState) : State := { s with flt := vup s.flt k f }

end Sys2Proof.Machine
end

