-- ==== Sys2Proof/Machine/Flags.lean ====
section
/-! DEFINITION. Events: raising them, classifying them, histories, severe latches, pending bits and the IRQ_N and FAULT_N
pads (R473 to R495).  A command raises its events into `State.evq`; when the command ends, `State.classifyAll` takes
them, as the block classifiers do in one register-file cycle (R479, R489, R490). -/
namespace Sys2Proof.Machine

/-- The address of a source's EVT_CLASS register; its EVT_WINDOW is the next address (R473, R476). -/
def clsAddr (src : Nat) : Nat :=
  if src < 4 then 0x0034 + 2 * src
  else if src < 8 then 0x0120 + 2 * (src - 4)
  else if src < 12 then 0x0316 + 2 * (src - 8)
  else if src < 16 then 0x0210 + 2 * (src - 12)
  else if src < 20 then 0x0718 + 2 * (src - 16)
  else if src < 22 then 0x0137 + 2 * (src - 20)
  else if src < 24 then 0x0518 + 2 * (src - 22)
  else if src < 26 then 0x0412 + 2 * (src - 24)
  else if src < 28 then 0x061A + 2 * (src - 26)
  else if src < 30 then 0x0F20 + 2 * (src - 28)
  else if src < 32 then 0x0E09 + 2 * (src - 30)
  else if src < 56 then 0x082C + 64 * (src - 32)
  else if src < 74 then
    0x1000 + 256 * ((src - 56) / 3) + (if (src - 56) % 3 = 0 then 0x45 else if (src - 56) % 3 = 1 then 0x19 else 0x47)
  else if src < 88 then 0x181B + 256 * ((src - 74) / 2) + 2 * ((src - 74) % 2)
  else if src < 92 then 0x2508 + 2 * (src - 88)
  else if src < 100 then 0x282A + 256 * ((src - 92) / 2) + 2 * ((src - 92) % 2)
  else if src < 108 then 0x313C + 256 * (src - 100)
  else if src < 112 then 0x3016 + 2 * (src - 108)
  else 0x3D0E + 16 * (src - 112)

/-- The source an EVT_CLASS register classifies (R473), if the address is one. -/
def clsSrc (a : Nat) : Option Nat := (List.range 128).find? fun s => clsAddr s == a

/-- Fields of an EVT_CLASS register (R476). -/
def clsThresh (s : State) (src : Nat) : Nat := bitsOf (s.reg (clsAddr src)) 15 8
def clsRoute (s : State) (src : Nat) : Nat := bitsOf (s.reg (clsAddr src)) 7 5
def clsReact (s : State) (src : Nat) : Bool := bitsOf (s.reg (clsAddr src)) 4 4 == 1
def clsInjReact (s : State) (src : Nat) : Bool := bitsOf (s.reg (clsAddr src)) 3 3 == 1
def clsWindow (s : State) (src : Nat) : Nat := s.reg (clsAddr src + 1)

/-- The block history a source writes to (R473): one index per block. -/
def histOf (src : Nat) : Nat :=
  if src < 4 then 0
  else if src < 8 then 1
  else if src < 12 then 2
  else if src < 16 then 3
  else if src < 20 then 4
  else if src < 22 then 5
  else if src < 24 then 6
  else if src < 26 then 7
  else if src < 28 then 8
  else if src < 30 then 9
  else if src < 32 then 10
  else if src < 56 then 11 + (src - 32)
  else if src < 74 then 35 + (src - 56) / 3
  else if src < 88 then 41 + (src - 74) / 2
  else if src < 92 then 48
  else if src < 100 then 49 + (src - 92) / 2
  else if src < 108 then 53 + (src - 100)
  else if src < 112 then 61
  else 62

/-- Where word 5 of a source's block layout holds its cause code. -/
def causeLo (src : Nat) : Nat :=
  if src = 0 then 13
  else if 32 ≤ src ∧ src < 56 then 7
  else if 56 ≤ src ∧ src < 74 ∧ (src - 56) % 3 = 2 then 6
  else 0

def Severity.rank : Severity → Nat
  | .info => 0
  | .warn => 1
  | .severe => 2

def Severity.max (a b : Severity) : Severity := if a.rank ≤ b.rank then b else a

/-- Puts an event on the way to its classifier. -/
def State.post (s : State) (e : Event) : State := { s with evq := s.evq ++ [e] }

/-- Raises a real event (R474): cause code, the other subfields of word 5, word 6. -/
def State.raise (s : State) (src : Nat) (sev : Severity) (cause : Nat := 0) (rest : Nat := 0) (word6 : Nat := 0)
    (outs : List Nat := []) : State :=
  s.post ⟨src, sev, true, false, cause, rest, word6, outs⟩

/-- The lower non-zero cause code of two (R490). -/
def lowCause (a b : Nat) : Nat := if a = 0 then b else if b = 0 then a else min a b

/-- Two conditions of one source in one cycle make one event (R490, R494). -/
def Event.merge (a b : Event) : Event :=
  { src := a.src, sev := a.sev.max b.sev, real := a.real || b.real, inj := a.inj || b.inj,
    cause := if a.real && b.real then lowCause a.cause b.cause else if a.real then a.cause else b.cause,
    rest := if b.real then b.rest else a.rest, word6 := if b.real then b.word6 else a.word6,
    outs := a.outs ++ b.outs }

/-- The queue with at most one event per source (R490). -/
def mergeInto (e : Event) : List Event → List Event
  | [] => [e]
  | x :: xs => if x.src = e.src then x.merge e :: xs else x :: mergeInto e xs

def mergeAll (l : List Event) : List Event := l.foldl (fun acc e => mergeInto e acc) []

/-- The domains of a set. -/
def domsWhere (s : State) (p : Domain → Bool) : List Nat := (List.range 6).filter fun d => p (vat s.dom d)

/-- The coverage of a source's reaction, fixed at the classification (R476). -/
def coverOf (s : State) (src : Nat) (outs : List Nat) : Cover :=
  if src = 2 ∨ src = 3 ∨ src = 4 ∨ src = 5 ∨ src = 7 ∨ src = 21 then .all
  else if src = 19 then .doms ((List.range 6).filter fun d => bitsOf s.loa.expired d d == 1)
  else if src = 28 ∨ src = 29 then .doms (domsWhere s fun x => x.sel.isSome && x.selRef == 32)
  else if src = 30 ∨ src = 31 then .doms (List.range 6)
  else if 32 ≤ src ∧ src < 56 then .doms (domsWhere s fun x => x.sel.isSome && x.selRef == src - 32)
  else if 56 ≤ src ∧ src < 74 then .doms [(src - 56) / 3]
  else if 74 ≤ src ∧ src < 88 then .tree ((src - 74) / 2)
  else if 88 ≤ src ∧ src < 91 then .outs outs
  else if 100 ≤ src ∧ src < 108 then
    .doms (domsWhere s fun x => x.sel.isSome && (x.selRef == src - 84 || x.selRef == src - 76))
  else .none

/-- The counted WARN times still in a source's window at time t (R477). -/
def inWindow (w t : Nat) (warns : List Nat) : List Nat :=
  if w = 0 then warns else warns.filter fun x => t < x + w * 1000000

/-- The word of a class register that an event of the register-file cycle in progress meets: a write in that cycle comes after
it (R495). -/
def foundWord (s : State) (a : Nat) : Nat :=
  if s.cyc.wrote.any fun w => w.addr == a then (s.found.regs.get a).toNat else s.reg a

def threshNow (s : State) (src : Nat) : Nat := bitsOf (foundWord s (clsAddr src)) 15 8
def windowNow (s : State) (src : Nat) : Nat := foundWord s (clsAddr src + 1)

/-- The severity an event is recorded with: SEVERE when its count reaches THRESH_N (R477, R478). -/
def finalSev (s : State) (e : Event) : Severity :=
  match e.sev with
  | .info => .info
  | .severe => .severe
  | .warn =>
    if threshNow s e.src ≠ 0 ∧
        threshNow s e.src ≤ (inWindow (windowNow s e.src) s.now (s.now :: (s.fltAt e.src).warns)).length then .severe
    else .warn

/-- A severe latch with hardware effect (R493): a real event set it, or the source's INJ_REACT is 1. -/
def latchActs (s : State) (src : Nat) (c : SrcState) : Bool := c.sev && (c.real || clsInjReact s src)

/-- The classifier after an event (R477 to R479, R482, R493). -/
def SrcState.take (c : SrcState) (s : State) (e : Event) (sev : Severity) : SrcState :=
  let c1 := { c with warns := if e.sev = .warn then (s.now :: c.warns).take 255 else c.warns, pend := true }
  if sev = .severe then
    if c.sev then { c1 with real := c.real || e.real }
    else { c1 with sev := true, real := e.real, cause := e.cause, cover := coverOf s e.src e.outs, direct := e.sev = .severe }
  else c1

/-- The history entry of an event (R474). -/
def entryOf (s : State) (e : Event) (sev : Severity) : HistEntry :=
  ⟨s.now, e.real, e.inj, sev, e.src, e.rest + e.cause * 2 ^ causeLo e.src, e.word6⟩

/-- A hold of one epoch in every domain, ordered by a SAFE reaction on sources 30 and 31 (R485). -/
def State.holdAll (s : State) : State := { s with dom := s.dom.map fun x => { x with holdNext := true } }

/-- A severe event joins the on-module fault log (R435, R475). -/
def State.logFault (s : State) (e : HistEntry) : State :=
  { s with nvs := s.nvs.log e, cyc := { s.cyc with logged := s.cyc.logged + 1 } }

/-- One event reaches its classifier: history, count, latch and pending bit change together (R479). -/
def State.classify (s : State) (e : Event) : State :=
  let sev := finalSev s e
  let en := entryOf s e sev
  let gained := sev = .severe ∧ ¬ latchActs s e.src (s.fltAt e.src) ∧ latchActs s e.src ((s.fltAt e.src).take s e sev)
  let t := { s with flt := vup s.flt e.src fun c => c.take s e sev,
                    hist := vup s.hist (histOf e.src) fun h => (en :: h).take 4 }
  let t := if sev = .severe then t.logFault en else t
  if gained ∧ (e.src = 30 ∨ e.src = 31) ∧ clsReact s e.src then t.holdAll else t

/-- Whether event a is recorded before event b in one cycle (R489): higher severity first, then lower source. -/
def before (s : State) (a b : Event) : Bool :=
  let ra := (finalSev s a).rank
  let rb := (finalSev s b).rank
  decide (rb < ra) || (decide (ra = rb) && decide (a.src ≤ b.src))

def insertEv (s : State) (e : Event) : List Event → List Event
  | [] => [e]
  | x :: xs => if before s e x then e :: x :: xs else x :: insertEv s e xs

/-- Unit u is under test, outside the start-up run (R497). -/
def State.testing (s : State) (u : Nat) : Bool := s.bist.active.any fun x => x.1 == u

/-- Unit u is under test or marked unusable (R504). -/
def State.unitOut (s : State) (u : Nat) : Bool := s.testing u || (vat s.bist.units u).unusable

/-- The units whose test takes the block of a source out of service (R497, R495): the digital island holds domain loops,
collector, capture fabric, pulse generators and time keepers (01: clock islands). -/
def unitsOf (src : Nat) : List Nat :=
  if 12 ≤ src ∧ src < 16 then [45]
  else if 28 ≤ src ∧ src < 30 then [41, 42]
  else if 30 ≤ src ∧ src < 32 then [43]
  else if 32 ≤ src ∧ src < 56 then [13 + (src - 32) / 4]
  else if 56 ≤ src ∧ src < 74 then [43]
  else if 74 ≤ src ∧ src < 88 then [19 + (src - 74) / 2, 26 + (src - 74) / 2]
  else if 92 ≤ src ∧ src < 100 then [43]
  else if 100 ≤ src ∧ src < 108 then [33 + (src - 100)]
  else if 112 ≤ src then [43]
  else []

/-- The block of a source is under self-test (R495). -/
def State.muted (s : State) (src : Nat) : Bool := (unitsOf src).any s.testing

/-- The fault log without the n newest entries, which joined it in the register-file cycle in progress; `old` is the log as the
cycle found it. -/
def Nvs.unlog (x old : Nvs) (n : Nat) : Nvs :=
  { x with faultLog := (x.faultLog.drop n ++ old.faultLog.drop (256 - n)).take 256,
           unstored := if x.unstored = 255 then old.unstored else x.unstored - n }

/-- The classifiers and histories without the events of the register-file cycle in progress, which are classified again
together with those that follow in it (R489, R490). -/
def State.rewind (s : State) : State :=
  let srcs := s.cyc.evs.map (·.src)
  { s with flt := srcs.foldl (fun v k => vup v k fun c => { vat s.found.flt k with refused := c.refused }) s.flt,
           hist := srcs.foldl (fun v k => vup v (histOf k) fun _ => vat s.found.hist (histOf k)) s.hist,
           nvs := s.nvs.unlog s.found.nvs s.cyc.logged, cyc := { s.cyc with evs := [], logged := 0 } }

/-- A source's latch, count and coverage end (R487). -/
def SrcState.unlatch (c : SrcState) : SrcState := { c with sev := false, real := false, cover := .none, cause := 0, warns := [] }

/-- The clears of the cycle act again on the sources of its events: a count is cleared after the cycle's event is counted, and a
latch that the event has classified severe stays set (R488, R495).  `sevs` are those sources. -/
def State.reclear (s : State) (srcs sevs : List Nat) : State :=
  s.cyc.clears.foldl (fun t c =>
    (srcs.filter fun k => c.1 == none || c.1 == some k).foldl (fun t k =>
      t.fltUp k fun x => if !c.2 then { x with warns := [] } else if sevs.contains k then x else x.unlatch) t) s

/-- Every event raised by the command reaches its classifier, with those that reached one earlier in the same register-file
cycle: one a source (R490), in the order of R489; a block under self-test raises none (R495). -/
def State.classifyAll (s : State) : State :=
  let new := (mergeAll s.evq).filter fun e => !s.muted e.src
  if new.isEmpty then { s with evq := [] }
  else
    let r := { s with evq := [] }.rewind
    let all := new.foldl (fun acc e => mergeInto e acc) s.cyc.evs
    let t := (all.foldl (fun acc e => insertEv r e acc) []).foldl State.classify r
    let sevs := (all.filter fun e => finalSev r e == .severe).map Event.src
    { t with cyc := { t.cyc with evs := all } }.reclear (all.map Event.src) sevs

/-- An event of the source was classified in the register-file cycle in progress, and as severe. -/
def State.raisedNow (s : State) (src : Nat) : Bool := s.cyc.evs.any fun e => e.src == src
def State.severeNow (s : State) (src : Nat) : Bool :=
  s.cyc.evs.any fun e => e.src == src && finalSev s.rewind e == .severe

/-- A count or a latch is cleared in the register-file cycle in progress; no source stands for all. -/
def State.cleared (s : State) (src : Option Nat) (latch : Bool) : State :=
  { s with cyc := { s.cyc with clears := s.cyc.clears ++ [(src, latch)] } }

/-- IRQ_N[k] is low while a pending source is routed to it (R482). -/
def irqOf (s : State) (k : Nat) : Bool :=
  (List.range 128).any fun src => (s.fltAt src).pend && clsRoute s src == k + 1

/-- FAULT_N is low while a severe latch with hardware effect is set (R483), or while the MTB has stopped under a declared
clock fault (R481). -/
def faultOf (s : State) : Bool := ((List.range 128).any fun k => latchActs s k (s.fltAt k)) || s.clockStop

/-- The output pads follow the latches and pending bits (R482, R483). -/
def State.drivePads (s : State) : State :=
  { s with pads := { s.pads with irqLow := (List.range 4).map (irqOf s), faultLow := faultOf s } }

end Sys2Proof.Machine
end

