-- ==== Sys2Proof/Machine/Band.lean ====
section
/-! DEFINITION. The frequency plan of a synthesiser in force and its band table: prediction, selection and coverage
(06: R188 to R197). -/
namespace Sys2Proof.Machine

def State.synAt (s : State) (k : Nat) : Synth := vat s.syn k
def State.synUp (s : State) (k : Nat) (f : Synth → Synth) : State := { s with syn := vup s.syn k f }

/-- f_PFD in Hz (R188). -/
def pfdHz (sel : Nat) : Nat := 160000000 / 2 ^ (sel % 4)

/-- The base divider of the present instant: N_cur during a glide (R209). -/
def Synth.nCur (y : Synth) : Nat :=
  if y.nBase ≤ y.nNew then min y.nNew (y.nBase + y.nBase * y.glAcc / (1000000 * pfdHz y.pfd))
  else max y.nNew (y.nBase - y.nBase * y.glAcc / (1000000 * pfdHz y.pfd))

/-- The plan in the shadows (R205): N with a 48-bit fraction, PFD_SEL, LBW. -/
def shadowN (s : State) (k : Nat) : Nat := s.fld (SYN.N_INT_N_INT k) * 2 ^ 48 + s.wide (SYN.N_FRAC k) 3
def shadowPfd (s : State) (k : Nat) : Nat := s.fld (SYN.CTRL_PFD_SEL k)
def shadowLbw (s : State) (k : Nat) : Nat := min 4 (s.fld (SYN.BAND_CFG_LBW k))

/-- PULLIN of a domain in force in ppt (R159); ±5 ppm for SYNS (R194). -/
def pullinOf (s : State) (k : Nat) : Nat :=
  if k = 6 then 5000000
  else
    let v := s.effWide (DOM.PULLIN k) 2
    if v = 0 then 500000000 else min v 500000000

/-- The die temperature of a synthesiser in 0.01 °C. -/
def dieT (s : State) (k : Nat) : Int := s.thm.dies.getD k 0

/-- Entries in use: COUNT, at most 64 (R192). -/
def bandCount (s : State) (k : Nat) : Nat := min 64 (s.fld (SYN.BT_CTRL_COUNT k))

/-- The predicted centre of a band at the present die temperature, in Hz times 10^6 (R194). -/
def entryFc (s : State) (k : Nat) (e : BandEntry) : Int :=
  (e.fcal : Int) * (1000000000 + e.slope * (dieT s k - toSigned 16 (s.reg (SYN.T_CAL k))))

/-- The predicted centre of an entry of the band table. -/
def bandFc (s : State) (k i : Nat) : Int := entryFc s k (vat (s.synAt k).table i)

/-- f_plan in Hz times 10^6 times 2^48. -/
def planHz (pfd n : Nat) : Int := ((pfdHz pfd * n * 1000000 : Nat) : Int)

/-- The half-span of a band in Hz times 10^6 times 2^48 (R192). -/
def tuneHalf (s : State) (k : Nat) : Int :=
  ((min 2000 (max 1 (s.fld (SYN.BAND_CFG_TUNE_HALF k))) * 100000 * 1000000 * 2 ^ 48 : Nat) : Int)

/-- d[i] of R194, scaled by 10^12. -/
def bandD (s : State) (k i pfd n : Nat) : Int :=
  ((planHz pfd n - bandFc s k i * 2 ^ 48).natAbs : Int) * 1000000000000 + planHz pfd n * pullinOf s k

/-- Entry i is written and covers the target. -/
def bandCovers (s : State) (k i pfd n : Nat) : Bool :=
  decide (i < bandCount s k) && (vat (s.synAt k).table i).written &&
    decide (bandD s k i pfd n ≤ tuneHalf s k * 1000000000000)

/-- f_plan lies in the tuning range of the VCO (R189). -/
def planOk (pfd n : Nat) : Bool :=
  decide (10000000000 * 1000000 * 2 ^ 48 ≤ planHz pfd n) && decide (planHz pfd n ≤ 12800000000 * 1000000 * 2 ^ 48)

/-- Band selection (R194) for a plan: a covering band in use is kept, else the entry with the most margin, the lowest
index on a tie. -/
def bandSelect (s : State) (k pfd n : Nat) (cur : Option Nat) : Option Nat :=
  if !planOk pfd n then none
  else
    let best := (List.range 64).foldl (fun acc i =>
      if bandCovers s k i pfd n then
        match acc with
        | none => some i
        | some b => if bandD s k i pfd n < bandD s k b pfd n then some i else some b
      else acc) none
    match cur with
    | some c => if bandCovers s k c pfd n then some c else best
    | none => best

/-- Coverage C of the band in use in ppt (R196); the entry in use stays as it was selected (R193, R227). -/
def coverC (s : State) (k : Nat) : Option Int :=
  let y := s.synAt k
  match y.cur with
  | none => none
  | some _ =>
    if y.st == .off then none
    else
      let f := planHz y.pfd y.nCur
      some (((tuneHalf s k - (f - entryFc s k y.entry * 2 ^ 48).natAbs) * 1000000000000).fdiv (max 1 f))

/-- PRED of an entry in 0.25 MHz, to the nearest: 0 at or above COUNT and for an entry not written (R193, R195). -/
def predOf (s : State) (k i : Nat) : Nat :=
  if i < bandCount s k ∧ (vat (s.synAt k).table i).written then
    satNat 16 (rnear 20 (bandFc s k i) 250000000000).toNat
  else 0

end Sys2Proof.Machine
end

