-- ==== Sys2Proof/Machine/Inm.lean ====
section
/-! DEFINITION. Input monitors and phase trackers (02: R46 to R100; 03: R101 to R121): measurement, tests, the
qualification machine, tracking and the epoch collector. -/
namespace Sys2Proof.Machine

def QState.code : QState → Nat
  | .absent => 0
  | .wait => 1
  | .valid => 2
  | .suspect => 3
  | .failed => 4

/-- The domains may use a reference only while it is VALID or SUSPECT (R82). -/
def QState.usable (q : QState) : Bool := q == .valid || q == .suspect

/-! ### Settings in force -/

/-- NOM_NUM and NOM_DEN in force; a NOM_DEN of 0 is treated as 1 (R50, R53). -/
def nomNum (s : State) (k : Nat) : Nat := s.effWide (INM.NOM_NUM k) 3
def nomDen (s : State) (k : Nat) : Nat := max 1 (s.eff1 (INM.NOM_DEN k))

/-- The nominal is outside 0.5 Hz to 1.25 GHz, or above 250 MHz on an LVCMOS receiver (R47, R50). -/
def nomBad (s : State) (k : Nat) : Bool :=
  let n := nomNum s k
  let d := nomDen s k
  decide (2 * n < d) || decide (1250000000 * d < n) ||
    (decide (k < 16) && (s.fld (INM.IN_CFG_FORMAT k) == 1 || s.fld (INM.IN_CFG_FORMAT k) == 2) &&
      decide (250000000 * d < n))

/-- A pulse reference has a nominal below 1 kHz (R51); a recovered clock is none, its nominal being that of a line rate (R48). -/
def isPulse (s : State) (k : Nat) : Bool := decide (k < 16) && decide (nomNum s k < 1000 * nomDen s k)

/-- Thresholds applied: a value above its range is applied as the range maximum (R73). -/
def inmWarn (s : State) (k : Nat) : Nat := min 500000000 (s.effWide (INM.WARN k) 2)
def inmLimit (s : State) (k : Nat) : Nat := min 500000000 (s.effWide (INM.LIMIT k) 2)
def inmPlim (s : State) (k : Nat) : Nat := min 500000000 (s.effWide (INM.PEER_LIMIT k) 2)

/-- HYST exceeds LIMIT/2 (R74). -/
def hystBad (s : State) (k : Nat) : Bool := decide (inmLimit s k < 2 * s.effWide (INM.HYST k) 2)

/-- The hysteresis applied: LIMIT/2 when HYST exceeds it (R74). -/
def inmHyst (s : State) (k : Nat) : Nat :=
  if hystBad s k then inmLimit s k / 2 else s.effWide (INM.HYST k) 2

/-- QSTAT.CFG_ERR (R47, R50, R72, R74).  The nominal of references 16 to 23 that hardware has not filled yet is no error of
the configuration (R48). -/
def inmCfgErr (s : State) (k : Nat) : Bool :=
  (decide (k < 16) && decide (2 < s.fld (INM.IN_CFG_FORMAT k))) || (nomBad s k && (decide (k < 16) || nomNum s k != 0)) ||
    s.fld (INM.PEER_CFG_MODE k) == 3 || hystBad s k

/-- The grace of a pulse reference in ns (R54). -/
def inmGrace (s : State) (k : Nat) : Nat := min 200 (max 1 (s.fld (INM.LOS_CFG_GRACE k))) * 1000000

/-- The averaging window in ns, never shorter than two nominal periods of a pulse reference (R58). -/
def inmWindow (s : State) (k : Nat) : Nat :=
  let w := [100000000, 1000000000, 10000000000, 100000000000].getD (s.fld (INM.MEAS_CFG_AVG k)) 0
  if isPulse s k then max w (cdiv (2000000000 * nomDen s k) (nomNum s k)) else w

/-- Half a nominal period of a pulse reference in ps: its window is counted in whole nominal periods (R58). -/
def winSlack (s : State) (k : Nat) : Nat := if isPulse s k then 500000000000 * nomDen s k / nomNum s k else 0

/-- The Windsock interval in s (R65) and the drift fit length (R66). -/
def wsInt (s : State) (k : Nat) : Nat := min 3600 (max 1 (s.fld (INM.WS_INT_INT k)))
def driftN (s : State) (k : Nat) : Nat := min 64 (max 2 (s.fld (INM.MEAS_CFG_DRIFT_N k)))

/-- The wait-to-restore time in s, or the boot time until the first qualification (R76, R79). -/
def wtrOf (s : State) (k : Nat) : Nat :=
  if s.bit (INM.BOOT_WTR_BOOT_EN k) && !(s.monAt k).bootDone then min 3600 (s.fld (INM.BOOT_WTR_BOOT_WTR k))
  else min 3600 (s.fld (INM.WTR_WTR k))

/-- BOOTQ: the boot WTR is the one that applies to a wait (R79). -/
def bootQ (s : State) (k : Nat) : Bool :=
  s.bit (INM.BOOT_WTR_BOOT_EN k) && !(s.monAt k).bootDone && (s.monAt k).st == .wait

/-- Seconds remaining in WAIT: the WTR less the time already waited (R76, R80). -/
def wtrLeft (s : State) (k : Nat) : Nat :=
  if (s.monAt k).st == .wait then wtrOf s k - (s.monAt k).waited / 1000000000 else 0

/-- The module is past start-up and not DORMANT (R454, R462). -/
def PState.serves : PState → Bool
  | .run | .park | .keep | .nap => true
  | .off | .boot | .dormant => false

/-- A cycle or pulse is in progress on the output's pad. -/
def Output.busy (o : Output) : Bool := o.onTree || decide (0 < o.bypLeft) || decide (0 < o.pulse)

/-- Monitor k has work, so that its input island is in use (R508, R509): the conditions of R46 and R48, no cycle of the output of
its pad in progress (R231), for the Ethernet references the MAC/PCS island in service (R504, R507), and the module past
start-up. -/
def inmWants (s : State) (k : Nat) : Bool :=
  s.fld (INM.IN_CFG_ROLE k) == 1 && !(decide (k < 16) && (vat s.outs k).busy) && s.bit (INM.IN_CFG_MON_EN k) && !nomBad s k &&
    (decide (k < 16) ||
      (s.bit (ETH.ETH_CFG_EN (k - 16)) && !s.bit (ETH.ETH_CFG_PHY_ROLE (k - 16)) && s.pwr.st == .run &&
        !s.unitOut (33 + (k - 16)))) &&
    s.pwr.st.serves

/-- The conditions under which monitor k monitors: its island is in service too (R504, R507). -/
def inmOn (s : State) (k : Nat) : Bool := inmWants s k && !s.unitOut (13 + k / 4)

def forceFail (s : State) (k : Nat) : Bool := s.bit (INM.QUAL_CTRL_FORCE_FAIL k)

/-! ### The time-of-day message that waits for an edge (R93) -/

/-- The paired reference (R92). -/
def pairRef (s : State) : Nat := s.fld SYS.TOD_CFG_PAIR_REF

/-- A rejected message (R94): VALID clears and the confirmation restarts (log entry 11). -/
def State.todReject (s : State) (code : Nat) : State :=
  let s := s.bump SYS.TOD_ERR_CNT
  { s with tod := { s.tod with valid := false, confirmed := 0, lastErr := code, prevSec := none, next := none } }

/-- No edge of reference k will come for the LABEL NEXT message that waits: LOS of the paired reference is declared first
(R93), or its monitor becomes ABSENT (log entry 11). -/
def State.todLos (s : State) (k : Nat) : State :=
  match s.tod.next with
  | some x => if k = x.1 then s.todReject 6 else s
  | none => s

/-! ### State changes -/

/-- The number of the measurement epoch that an instant lies in: that of the edge that closes it (R34, R37). -/
def State.epochOf (s : State) : Nat := cdiv s.now 25000

/-- Every change of QSTAT.STATE raises source 32 + k: WARN on entry to FAILED, INFO else (R83). -/
def State.monTo (s : State) (k : Nat) (q : QState) (cause : Nat) : State :=
  let old := (s.monAt k).st
  if old = q then s
  else
    let s := s.monUp k fun m => { m with st := q, firstCause := if q = .failed then cause else 0, ripe := false }
    let s := if q = .failed then s.bump (INM.FAIL_CNT k) else s
    s.raise (32 + k) (if q = .failed then .warn else .info) cause (q.code * 8192 + old.code * 1024)

/-- A failing cause arises (R85): of several in one epoch the first in the order LOS, HIT, FREQ, PEER, PROJ, SW counts. -/
def Monitor.arise (m : Monitor) (ep code : Nat) : Monitor :=
  { m with arose := if m.aroseEp = ep ∧ m.arose ≠ 0 then min m.arose code else code, aroseEp := ep }

/-- A failing cause takes monitor k to FAILED; where it entered FAILED in this epoch, the cause is one of the several that arose
in it: one state change, one event, and FIRST_CAUSE is the first of them (R85, R90; DEDUCED, log entry 62). -/
def State.monFail (s : State) (k code : Nat) : State :=
  let ep := s.epochOf
  let s := s.monUp k fun m => m.arise ep code
  let m := s.monAt k
  if m.st = .failed then (if m.failEp = ep then s.monUp k fun m => { m with firstCause := m.arose } else s)
  else (s.monTo k .failed m.arose).monUp k fun m => { m with failEp := ep }

/-- Entry to WAIT with a full WTR.  The step that finds every failing condition gone and enters WAIT is not one of the two
clean steps of R78: two further steps are needed (DESIGN CHOICE: the rule does not say from which step the two are counted; log
entry 63). -/
def State.monWait (s : State) (k : Nat) : State :=
  (s.monUp k fun m => { m with waited := 0, clear := 0, ripe := false }).monTo k .wait 0

/-- The Windsock record is cleared, and its interval clock starts anew at the next epoch edge (R65). -/
def Monitor.clearWs (m : Monitor) : Monitor :=
  { m with ws := [], wsStart := none, wsBad := true, wsEnd := none, drift := 0, driftOk := false, projT := 0xFFFF }

/-- The measurement starts again (R59). -/
def Monitor.clearMeas (m : Monitor) : Monitor :=
  { m with measStart := none, measReady := false, samples := [], freq := false, peer := false, proj := false,
           warn := false, warnClr := 0 }

/-- Tracker k re-anchors at its next edge (R110). -/
def State.trkReanchor (s : State) (k : Nat) : State := s.trkUp k fun t => { t with reanchor := true }

/-- PREDIV: the smallest exponent that brings the nominal to 20 MHz or below (R106). -/
def predivOf (num den : Nat) : Nat := ((List.range 6).find? fun p => decide (num ≤ 20000000 * den * 2 ^ p)).getD 6

/-- Entry to ABSENT: the record is cleared, latched causes are kept (R81), and the tracker becomes inactive (R102). -/
def State.monAbsent (s : State) (k : Nat) : State :=
  let s := s.monTo k .absent 0
  let s := s.monUp k fun m =>
    { m.clearWs.clearMeas with los := false, hitNow := false, hitRun := false, gustBase := none, hits := 0,
                               lastEdge := none, edged := false }
  let s := s.trkUp k fun t =>
    { t with active := false, anchored := false, newEdge := false, reanchor := true, reanchored := false }
  s.todLos k

/-- A monitor leaves ABSENT (R54, R81, R102): it waits, and the instant stands in for the previous edge.  Its tracker takes
PREDIV from the nominal (R106).  A link that is down is LOS from the start (R48). -/
def State.monStart (s : State) (k : Nat) : State :=
  let s := s.monUp k fun m => { m with lastEdge := some (s.now * 1000), edged := false, waited := 0, clear := 0 }
  let s := s.trkUp k fun t =>
    { t with active := true, anchored := false, newEdge := false, reanchor := true, reanchored := false,
             num := nomNum s k, den := nomDen s k, prediv := predivOf (nomNum s k) (nomDen s k) }
  let s := s.monTo k .wait 0
  let s :=
    if 16 ≤ k ∧ ¬ (vat s.eth (k - 16)).link then s.monUp k fun m => { m.arise s.epochOf 1 with los := true } else s
  if forceFail s k then (s.flag (INM.CAUSE_C_SW k)).monFail k 6 else s

/-- A write that changes whether a monitor monitors takes effect at the write (R81). -/
def State.monReconfig (s : State) (k : Nat) : State :=
  if inmOn s k then
    if (s.monAt k).st = .absent then s.monStart k else s
  else if (s.monAt k).st = .absent then s else s.monAbsent k

/-- A change of nominal frequency (R53): WAIT with a full WTR, the record cleared, the tracker re-anchors. -/
def State.nominalChanged (s : State) (k : Nat) : State :=
  if (s.monAt k).st = .absent then s.monReconfig k
  else if nomBad s k then s.monAbsent k
  else
    let s := (s.monUp k fun m => m.clearWs.clearMeas).trkReanchor k
    let s := s.monWait k
    if forceFail s k then (s.flag (INM.CAUSE_C_SW k)).monFail k 6 else s

/-! ### Trackers -/

/-- T in ps as a rational: numerator (R107). -/
def Tracker.tNum (t : Tracker) : Nat := 2 ^ t.prediv * t.den * 1000000000000

/-- PHASE of the edge with grid index g and stamp x (R107). -/
def Tracker.phaseAt (t : Tracker) (g : Int) (x : Nat) : Int := rdiv 1 (g * t.tNum) t.num - ((x : Int) - t.delay)

/-- The anchor edge: its grid index is the nearest, so PHASE lies in (−T/2, T/2] (R107, R110). -/
def Tracker.anchor (t : Tracker) (num den x : Nat) : Tracker :=
  let t := { t with num := num, den := den, prediv := predivOf num den }
  let y : Int := (x : Int) - t.delay
  let g := (2 * y * t.num + t.tNum).fdiv (2 * t.tNum)
  { t with anchored := true, reanchor := false, reanchored := true, newEdge := true, grid := g, stamp := x,
           phase := t.phaseAt g x }

/-- Further tracked edges: n of them, the last stamped x. -/
def Tracker.edges (t : Tracker) (n x : Nat) : Tracker :=
  if n = 0 then t
  else { t with grid := t.grid + n, stamp := x, newEdge := true, phase := t.phaseAt (t.grid + n) x }

/-- The nominal rate of tracker k: the reference's, or the cascade marker's 1 MHz for tracker 24 (R101, R363). -/
def trkNum (s : State) (k : Nat) : Nat := if k = 24 then 1000000 else nomNum s k
def trkDen (s : State) (k : Nat) : Nat := if k = 24 then 1 else nomDen s k

/-- Tracked edges of one epoch reach tracker k: n edges, the first and the last stamp in ps (R107, R110, R111).  A first edge
that is the one tracked last (LOS_CLEAR has brought it already) counts once. -/
def State.trkEdges (s : State) (k n first last : Nat) : State :=
  s.trkUp k fun t =>
    if n = 0 ∨ ¬ t.active then t
    else if t.reanchor ∨ ¬ t.anchored then (t.anchor (trkNum s k) (trkDen s k) first).edges (n - 1) last
    else t.edges (if first = t.stamp then n - 1 else n) last

/-- The waiting input delay was written in the register-file cycle of the close: it applies at the following close (R112,
R120). -/
def Tracker.delayLate (t : Tracker) (now : Nat) : Bool := t.delayAt / 4 == now / 4

/-- The epoch close of tracker k: a pending input delay takes effect and moves PHASE by the change (R112), and a good
calibration is swapped in (R105). -/
def Tracker.close (t : Tracker) (late : Bool) : Tracker × Bool :=
  let d := if late then 0 else t.delayNext - t.delay
  ({ t with delay := t.delay + d, phase := t.phase + d, calOk := t.calOk || t.calSwap, calSwap := false }, d ≠ 0)

/-- Tracker 24 takes IN_DELAY24 and the D_UP that has arrived; a change of D_UP of at most 2 ps is no DSTEP (R371). -/
def State.casDelay (s : State) : State × Bool :=
  let own := if (s.trkAt 24).delayLate s.now then (s.trkAt 24).delay - s.cas.dUp else toSigned 16 (s.reg (TRK.IN_DELAY 24))
  let small := decide ((s.cas.dUpNext - s.cas.dUp).natAbs ≤ 2) &&
    decide ((s.trkAt 24).delay = own + s.cas.dUp)
  (({ s with cas := { s.cas with dUp := s.cas.dUpNext } }).trkUp 24 fun t =>
    { t with delayNext := own + s.cas.dUpNext }, small)

/-- The result of tracker k for the epoch that closes at MTB time t ns (R113, R114). -/
def resultOf (t : Tracker) (k now : Nat) (los dstep hit : Bool) : Result :=
  { src := k, valid := t.anchored, newEdge := t.newEdge, los := los, reanchor := t.reanchored, dstep := dstep,
    hit := hit, etag := now / 25000 % 16, age := satNat 16 (rdiv 2 ((now * 1000 : Nat) - (t.stamp : Int)) 1000).toNat,
    phase := t.phase }

/-! ### The Gust filter (R62 to R64, R86) -/

/-- A result differs from its prediction by more than THR (R62): the last accepted phase carried on at the raw rate that
FOFS implies (R109; log entry 10).  The prediction spans the time since the last accepted result: one epoch or one nominal
period after an accepted one, and as much longer as hits have kept the base (R63; DESIGN CHOICE, log entry 64: R62 names only
the first span). -/
def gustHit (s : State) (k : Nat) (m : Monitor) (b : Nat × Int) (stamp : Nat) (ph : Int) : Bool :=
  let thr := 100 * min 10000 (s.fld (INM.GUST_CFG_THR k))
  let dt : Nat := if isPulse s k then stamp - b.1 else s.now * 1000 - b.1
  decide ((thr : Int) * 1000000000000 * 2 ^ 40 <
    ((ph - b.2) * 1000000000000 * 2 ^ 40 - (m.fofs * 2 ^ 40 - s.loa.termF) * dt).natAbs)

/-- One result at the filter (R62 to R64).  A seed (the first result, a re-anchor, a changed input delay: R56, R110, R112) is the
new base and is not tested, so it is neither a hit nor a break in a hit run (R86). -/
def Monitor.gust (m : Monitor) (s : State) (k : Nat) (stamp : Nat) (ph : Int) (seed : Bool) : Monitor :=
  let at' := if isPulse s k then stamp else s.now * 1000
  match m.gustBase with
  | none => { m with gustBase := some (at', ph), hitNow := false, hitRun := false }
  | some b =>
    if seed then { m with gustBase := some (at', ph), hitNow := false, hitRun := false }
    else if s.fld (INM.GUST_CFG_THR k) == 0 || !gustHit s k m b stamp ph then
      { m with gustBase := some (at', ph), hits := 0, hitNow := false, hitRun := false }
    else if max 1 (s.fld (INM.GUST_RUN_RUN k)) ≤ m.hits + 1 then
      { m with gustBase := some (at', ph), hits := 0, hitNow := true, hitRun := true }
    else { m with hits := m.hits + 1, hitNow := true, hitRun := false }

/-! ### Frequency, drift and peers (R57 to R72) -/

/-- The resolution of FOFS in ppt: 10 in the shortest window, 1 in the others (R58). -/
def fofsStep (s : State) (k : Nat) : Nat := if s.fld (INM.MEAS_CFG_AVG k) = 0 then 10 else 1

/-- FOFS from the window: the least-squares slope in ppt with the model term in use removed (R57, R58; log entry 9). -/
def fofsOf (step : Nat) (termF : Int) (l : List (Nat × Int)) (old : Int) : Int :=
  if l.length < 2 then old
  else
    let nd := lsqSlope (l.map fun q => ((q.1 : Int), q.2))
    satSigned 40 (step * rdiv 3 (nd.1 * 1000000000000 * 2 ^ 40 + termF * nd.2) (nd.2 * 2 ^ 40 * step))

/-- The measurement at t ps, the epoch edge of a clock reference or the stamp of an on-time edge (R58, R59): samples older than
the window leave, and FOFS is the slope of the rest.  MEAS_READY sets after one full window and then stays: a raised AVG does not
clear it, since R59 names only the entry from ABSENT, a change of nominal and LOS (DESIGN CHOICE, log entry 65). -/
def Monitor.measure (m : Monitor) (s : State) (k t : Nat) : Monitor :=
  let w := inmWindow s k * 1000
  let l := m.samples.filter fun q => decide (t ≤ q.1 + w + winSlack s k)
  let full := match m.measStart with
    | some st => decide (st + w ≤ t + winSlack s k)
    | none => false
  { m with samples := l, fofs := fofsOf (fofsStep s k) s.loa.termF l m.fofs, measReady := m.measReady || full }

/-- A new accepted phase sample (R58). -/
def Monitor.sample (m : Monitor) (stamp : Nat) (ph : Int) : Monitor :=
  { m with samples := (stamp, ph) :: m.samples, measStart := some (m.measStart.getD stamp) }

/-- DRIFT in 0.01 ppt/s from the newest DRIFT_N Windsock samples (R66). -/
def driftOf (n int : Nat) (ws : List Int) : Int :=
  if ws.length < n then 0
  else
    let pts := ((ws.take n).reverse.zipIdx).map fun q => ((q.2 : Int), q.1)
    let nd := lsqSlope pts
    satSigned 32 (rdiv 4 (nd.1 * 100) (nd.2 * int))

/-- The projected crossing in s as a rational, in the direction of the drift (R67); none without a limit. -/
def projOf (limit : Nat) (m : Monitor) : Option (Int × Int) :=
  if limit = 0 ∨ ¬ m.driftOk ∨ m.drift = 0 then none
  else if 0 < m.drift then some (max 0 (((limit : Int) - m.fofs) * 100), m.drift)
  else some (max 0 (((limit : Int) + m.fofs) * 100), -m.drift)

/-- PROJ_T: whole seconds, saturating at 65,534; 0xFFFF for no crossing (R68). -/
def projTOf (p : Option (Int × Int)) : Nat :=
  match p with
  | none => 0xFFFF
  | some (n, d) => min 65534 (n.fdiv d).toNat

/-- The peers of reference k: other members of its group that are VALID or SUSPECT and measured (R59, R69). -/
def peersOf (s : State) (k : Nat) : List Nat :=
  let g := s.fld (INM.PEER_CFG_GRP k)
  if g = 0 then []
  else (List.range 24).filter fun j =>
    j != k && s.fld (INM.PEER_CFG_GRP j) == g && (s.monAt j).st.usable && (s.monAt j).measReady

/-- PEER_DEV against the median of the peers' FOFS (R70, R71). -/
def peerDevOf (s : State) (f : Int) (ps : List Nat) : Int :=
  if ps.isEmpty then 0 else satSigned 32 (rdiv 5 (2 * f - median2 (ps.map fun j => (s.monAt j).fofs)) 2)

/-- DRIFT as the record and DRIFT_N give it (R66). -/
def Monitor.fitDrift (m : Monitor) (s : State) (k : Nat) : Monitor :=
  { m with drift := driftOf (driftN s k) (wsInt s k) m.ws, driftOk := decide (driftN s k ≤ m.ws.length) }

/-- What an epoch shows of every reference, whatever its state: its peers, its deviation from them, and the projected crossing
(R67 to R71). -/
def Monitor.observe (m : Monitor) (s : State) (k : Nat) : Monitor :=
  let ps := peersOf s k
  { m with peers := ps.length, peerDev := peerDevOf s m.fofs ps, projT := projTOf (projOf (inmLimit s k) m) }

/-- The warn, limit, peer and projection tests of one evaluation step (R59, R68, R71, R72, R75). -/
def Monitor.tests (m : Monitor) (s : State) (k : Nat) : Monitor :=
  let m := m.observe s k
  let pd := m.peerDev
  let pr := projOf (inmLimit s k) m
  if !m.measReady then { m with freq := false, peer := false, proj := false, warn := false, warnClr := 0 }
  else
    let mode := s.fld (INM.PEER_CFG_MODE k)
    let x : Nat := (if mode = 2 then pd else m.fofs).natAbs
    let h := if m.st = .failed ∨ m.st = .wait then inmHyst s k else 0
    let w := inmWarn s k
    let dw := s.reg (INM.DRIFT_WARN k)
    let d := m.drift.natAbs
    let hold := (decide (w ≠ 0) && decide (w ≤ x)) || (decide (dw ≠ 0) && decide (dw ≤ d))
    let clr := (decide (w = 0) || decide (x + inmHyst s k ≤ w)) && (decide (dw = 0) || decide (2 * d ≤ dw))
    let n := if clr then m.warnClr + 1 else 0
    let hz := min 3600 (max 1 (s.fld (INM.PROJ_CFG_HORIZON k)))
    { m with
      freq := decide (inmLimit s k ≠ 0) && decide (inmLimit s k < x + h),
      peer := (mode == 1 || mode == 2) && decide (inmPlim s k ≠ 0) && decide (2 ≤ m.peers) &&
        decide (inmPlim s k < pd.natAbs + h),
      proj := s.bit (INM.PROJ_CFG_PREEMPT k) && mode != 2 &&
        (match pr with
         | none => false
         | some (a, b) => decide (a ≤ hz * b)),
      warn := hold || (m.warn && decide (n < 2)),
      warnClr := n }

/-- DISAGREE: exactly one peer, and the two disagree by more than PEER_LIMIT (R71). -/
def disagrees (s : State) (k : Nat) (m : Monitor) : Bool :=
  let mode := s.fld (INM.PEER_CFG_MODE k)
  m.measReady && (mode == 1 || mode == 2) && m.peers == 1 && decide (inmPlim s k ≠ 0) &&
    decide (inmPlim s k < m.peerDev.natAbs)

/-- The disagreement that latched DISAGREE in monitor k holds: its own test, or that of the monitor whose one peer it is (R71,
R88). -/
def disagreeLive (s : State) (k : Nat) : Bool :=
  disagrees s k (s.monAt k) || (List.range 24).any fun j => disagrees s j (s.monAt j) && peersOf s j == [k]

/-- Latches DISAGREE in one monitor, with its INFO event (R71, R83). -/
def State.latchDisagree (s : State) (k : Nat) : State :=
  if s.bit (INM.CAUSE_DISAGREE k) then s
  else
    let c := (s.monAt k).st.code
    (s.flag (INM.CAUSE_DISAGREE k)).raise (32 + k) .info 0 (c * 8192 + c * 1024)

/-! ### The qualification machine (R76 to R90) -/

/-- Any failing condition of R76. -/
def failing (s : State) (k : Nat) (m : Monitor) : Bool :=
  m.los || m.hitRun || m.freq || m.peer || m.proj || forceFail s k

/-- FIRST_CAUSE: the first applicable cause in the order of R85. -/
def firstCauseOf (m : Monitor) : Nat :=
  if m.los then 1 else if m.hitRun then 2 else if m.freq then 3 else if m.peer then 4 else if m.proj then 5 else 6

/-- The first of the causes that the step has brought. -/
def newCauseOf (a b : Monitor) : Nat :=
  firstCauseOf { b with los := b.los && !a.los, freq := b.freq && !a.freq, peer := b.peer && !a.peer, proj := b.proj && !a.proj }

/-- Latches the CAUSE bits of the live failing conditions (R81, R85). -/
def State.latchCauses (s : State) (k : Nat) (m : Monitor) : State :=
  let s := s.flagIf m.los (INM.CAUSE_C_LOS k)
  let s := s.flagIf m.hitRun (INM.CAUSE_C_HIT k)
  let s := s.flagIf m.freq (INM.CAUSE_C_FREQ k)
  let s := s.flagIf m.peer (INM.CAUSE_C_PEER k)
  let s := s.flagIf m.proj (INM.CAUSE_C_PROJ k)
  s.flagIf (forceFail s k) (INM.CAUSE_C_SW k)

/-- A failing condition that was absent before appears (R77). -/
def appears (a b : Monitor) : Bool :=
  (!a.los && b.los) || b.hitRun || (!a.freq && b.freq) || (!a.peer && b.peer) || (!a.proj && b.proj)

/-- The decision of one evaluation step of monitor k: `old` is the monitor before the step, the state holds it after its tests
(R76, R77, R81, R85). -/
def State.monDecide (s : State) (k : Nat) (old : Monitor) : State :=
  let m := s.monAt k
  let s := if m.st = .absent then s else s.latchCauses k m
  let bad := failing s k m
  let s := s.monUp k fun m => { m with clear := if bad || !m.measReady then 0 else m.clear + 1 }
  match m.st with
  | .absent => s
  | .valid | .suspect =>
    if bad then s.monFail k (firstCauseOf m) else s.monTo k (if m.warn then .suspect else .valid) 0
  | .failed => if !bad then s.monWait k else if appears old m then s.monFail k (newCauseOf old m) else s
  | .wait =>
    let s :=
      if appears old m then
        (s.monUp k fun m => { m.arise s.epochOf (newCauseOf old m) with waited := 0, ripe := false }).bump (INM.WTR_RST_CNT k)
      else s
    if forceFail s k then s.monFail k 6 else s

/-- The DISAGREE latch in both monitors (R71). -/
def State.monDisagree (s : State) (k : Nat) : State :=
  if disagrees s k (s.monAt k) then ((peersOf s k).foldl State.latchDisagree s).latchDisagree k else s

/-- The wait is over (R76, R78): WTR_LEFT has reached 0, or with a WTR of 0 two clean steps are done. -/
def waitOver (s : State) (k : Nat) : Bool :=
  let m := s.monAt k
  m.st == .wait && m.measReady && !failing s k m &&
    (if wtrOf s k = 0 then decide (2 ≤ m.clear) else decide (wtrOf s k * 1000000000 ≤ m.waited))

/-- An evaluation step decides whether the wait ends (R80, R81). -/
def State.monRipe (s : State) (k : Nat) : State := s.monUp k fun m => { m with ripe := m.ripe || waitOver s k }

/-- The evaluation step of a pulse reference at its on-time edge. -/
def State.monStep (s : State) (k : Nat) (old : Monitor) : State :=
  let s := s.monUp k fun m => m.tests s k
  ((s.monDisagree k).monDecide k old).monRipe k

/-- A tested result reaches monitor k: the Gust filter and the count of hits (R62, R63); an accepted one with a new edge is a
sample (R58). -/
def State.monResult (s : State) (k : Nat) (stamp : Nat) (ph : Int) (newEdge seed : Bool) : State :=
  let s := s.monUp k fun m => m.gust s k stamp ph seed
  let m := s.monAt k
  let s := if m.hitNow then s.bump (INM.HIT_CNT k) else s
  if m.hitNow || !newEdge then s else s.monUp k fun m => m.sample stamp ph

/-- The waited time of a reference in WAIT: it runs only while every failing condition is absent and MEAS_READY is 1
(R76). -/
def State.monCountdown (s : State) (k : Nat) : State :=
  s.monUp k fun m =>
    if m.st = .wait ∧ m.measReady ∧ ¬ failing s k m then { m with waited := m.waited + 25000 } else m

/-- The Windsock interval clock at an epoch edge: the first interval after the record was cleared begins (R65; DESIGN CHOICE,
log entry 66), and an interval with LOS or a re-anchor yields no sample (R562). -/
def Monitor.wsEpoch (m : Monitor) (t : Tracker) (epoch len : Nat) : Monitor :=
  match m.wsEnd with
  | some _ => { m with wsBad := m.wsBad || m.los || t.reanchored }
  | none =>
    { m with wsEnd := some (epoch + len), wsStart := if t.anchored && !m.los then some t.phase else none,
             wsBad := m.los || !t.anchored }

/-- The result of the epoch reaches monitor k (R58, R62, R65): a clock reference tests and measures every result of an epoch
without LOS (R86); a pulse reference, which does so at its on-time edges, takes a changed input delay as its new base (R112). -/
def State.monEpoch (s : State) (k : Nat) (dstep : Bool) : State :=
  let t := s.trkAt k
  let s := s.monUp k fun m => m.wsEpoch t s.epoch (wsInt s k * 40000)
  if isPulse s k then
    s.monUp k fun m => if dstep && m.gustBase.isSome then { m with gustBase := some (t.stamp, t.phase) } else m
  else
    let s := s.monUp k fun m => { m with hitNow := false, hitRun := false }
    if (s.monAt k).los || !t.anchored then s
    else (s.monResult k t.stamp t.phase t.newEdge (t.reanchored || dstep)).monUp k fun m => m.measure s k (s.now * 1000)

/-- The tests of the epoch, each against the states and offsets that the others have at this epoch (R61, R69): a pulse reference
is tested at its on-time edge instead, and an ABSENT one only looks at its peers. -/
def State.monsTest (s : State) : State :=
  { s with mon := Vector.ofFn fun (k : Fin 24) =>
      let m := s.monAt k
      if m.st = .absent ∨ isPulse s k then m.observe s k else m.tests s k }

/-- The decision of monitor k at the epoch: `o` is the state before the epoch's results. -/
def State.monClose (s o : State) (k : Nat) : State :=
  if (s.monAt k).st = .absent then s
  else
    let s := if isPulse s k then s else (s.monDisagree k).monDecide k (o.monAt k)
    (s.monCountdown k).monRipe k

/-- WTR_LEFT has reached 0, or the two-step rule of a zero WTR was met, at an evaluation step (R76, R78, R80, R81). -/
def wtrDone (s : State) (k : Nat) : Bool := (s.monAt k).st == .wait && (s.monAt k).ripe

/-- WTR_EXPIRE (R81): WAIT ends in VALID, or in SUSPECT if the warn condition holds at that moment. -/
def State.wtrExpire (s : State) (k : Nat) : State :=
  if wtrDone s k then
    let s := s.monTo k (if (s.monAt k).warn then .suspect else .valid) 0
    s.monUp k fun m => { m with bootDone := true }
  else s

/-- LOS is declared (R54, R55, R77, R81).  A re-anchor of the same epoch is undone with it: LOS and REANCHOR never meet in one
result (R120). -/
def State.losSet (s : State) (k : Nat) : State :=
  let old := s.monAt k
  if old.st = .absent ∨ old.los then s
  else
    let s := (s.monUp k fun m => { m.clearMeas with los := true, wsBad := true }).bump (INM.LOS_CNT k)
    let s := (s.flag (INM.CAUSE_C_LOS k)).trkUp k fun t => { t with reanchor := true, reanchored := false }
    match old.st with
    | .wait =>
      (s.monUp k fun m => { m.arise s.epochOf 1 with waited := 0, clear := 0, ripe := false }).bump (INM.WTR_RST_CNT k)
    | _ => s.monFail k 1

/-- No edge has come for the time that R54 gives: 2.5 nominal periods of a clock reference, one nominal period and the grace
of a pulse reference, after the last edge known here; references 16 to 23 lose their clock with their link (R49). -/
def losDue (s : State) (k : Nat) : Bool :=
  if 16 ≤ k then !(vat s.eth (k - 16)).link
  else
    let period := 1000000000000 * nomDen s k
    let wait := if isPulse s k then period / nomNum s k + inmGrace s k * 1000 else 5 * period / (2 * nomNum s k)
    let last := max ((s.monAt k).lastEdge.getD 0) (s.trkAt k).stamp
    decide (last + wait ≤ s.now * 1000 + 999)

/-- An on-time edge of a pulse reference is the evaluation step of its monitor (R58, R62, R81), and the first one after a loss
clears LOS, anchors the tracker and seeds the filter (R56, R110).  An edge that has been taken already is no second one. -/
def State.pulseEdge (s : State) (k stamp : Nat) : State :=
  let old := s.monAt k
  let t := s.trkAt k
  if old.st = .absent ∨ ¬ isPulse s k then s
  else if t.anchored ∧ ¬ t.reanchor ∧ t.stamp = stamp then s
  else
    let s := s.trkEdges k 1 stamp stamp
    let s := s.monUp k fun m =>
      { m with los := false, lastEdge := some stamp, edged := true, hitNow := false, hitRun := false }
    let s := s.monResult k stamp (s.trkAt k).phase true (t.reanchor || !t.anchored)
    let s := s.monUp k fun m => m.measure s k stamp
    s.monStep k old

/-- LOS clears at the first edge after the loss, which is the tracker's anchor and re-seeds the filter (R56, R110); for
references 16 to 23 only while the link is up (R48, R49). -/
def State.losClear (s : State) (k stamp : Nat) : State :=
  if (s.monAt k).st = .absent ∨ ¬ (s.monAt k).los ∨ (16 ≤ k ∧ ¬ (vat s.eth (k - 16)).link) then s
  else if isPulse s k then s.pulseEdge k stamp
  else
    let s := s.monUp k fun m => { m with los := false, gustBase := none, lastEdge := some stamp, edged := true }
    s.trkEdges k 1 stamp stamp

/-- The present Windsock interval is over (R65). -/
def wsDue (s : State) (k : Nat) : Bool :=
  match (s.monAt k).wsEnd with
  | some e => (s.monAt k).st != .absent && decide (e ≤ s.epoch)
  | none => false

/-- A Windsock interval ends (R65, R562): the mean offset over the interval from the phases at its ends, corrected by the model
term in use at its end for the whole interval (DESIGN CHOICE, log entry 67: the rule does not say which term corrects an
interval in which it moves).  The interval clock runs on. -/
def State.windsock (s : State) (k : Nat) : State :=
  if ¬ wsDue s k then s
  else
    let t := s.trkAt k
    let len := wsInt s k * 40000
    s.monUp k fun m =>
      let y := fun p => satSigned 40 (rdiv 6 ((t.phase - p) * 2 ^ 40 + s.loa.termF * wsInt s k) (wsInt s k * 2 ^ 40))
      let ws := match m.wsStart with
        | some p => if m.wsBad then m.ws else (y p :: m.ws).take 64
        | none => m.ws
      let e := m.wsEnd.getD 0
      Monitor.fitDrift
        { m with ws := ws, wsEnd := some (e + len * (1 + (s.epoch - e) / len)),
                 wsStart := if t.anchored && !m.los then some t.phase else none, wsBad := m.los || !t.anchored } s k

/-- Writing REQUAL: WAIT with a full WTR (R81). -/
def State.requal (s : State) (k : Nat) : State :=
  if (s.monAt k).st = .absent then s
  else
    let s := s.monWait k
    if forceFail s k then s.monFail k 6 else s

/-- A change of FORCE_FAIL (R81, R90). -/
def State.forceFailWritten (s : State) (k : Nat) : State :=
  let m := s.monAt k
  if m.st = .absent then s
  else if forceFail s k then (s.flag (INM.CAUSE_C_SW k)).monFail k 6
  else if m.st = .failed ∧ ¬ failing s k m then s.monWait k
  else s

/-! ### The epoch edge: trackers and collector (R110 to R118) -/

/-- One tracker closes the epoch and presents its result; its monitor takes it and writes HIT (R111, R114, R116, R117): a clock
reference tests every result, a pulse reference those with a new edge (R62). -/
def State.closeTrk (s : State) (k : Nat) : State :=
  let p := if k = 24 then s.casDelay else (s, false)
  let s := p.1
  let t := s.trkAt k
  let cd := t.close (decide (k < 24) && t.delayLate s.now)
  let dstep := cd.2 && !p.2
  let s := s.trkUp k fun _ => cd.1
  if !t.active then s
  else
    let s := if k = 24 then s else s.monEpoch k dstep
    let m := s.monAt k
    let mon := decide (k < 24)
    let r := resultOf cd.1 k s.now (mon && m.los) dstep (mon && m.hitNow && (t.newEdge || !isPulse s k))
    let s := { s with coll := { s.coll with entries := s.coll.entries ++ [r] } }
    s.trkUp k fun t => { t with newEdge := false, reanchored := false }

/-- No result is produced while the digital island or the MTB core is under self-test (03: coincidences). -/
def resultsOff (s : State) : Bool := s.testing 43 || s.testing 47

/-- The trackers close: every active one presents its result, and the monitors test and decide (R61, R112, R116). -/
def State.closeAll (s : State) : State :=
  if resultsOff s then s
  else (List.range 24).foldl (fun t k => t.monClose s k) ((List.range 25).foldl State.closeTrk s).monsTest

/-- The collector's counts after an edge, and an armed snapshot (R116, R120, TRK.CTRL.ARM). -/
def State.collect (s : State) : State :=
  let n := s.coll.entries.length
  let c := { s.coll with lastN := n, peak := max s.coll.peak n }
  if c.armed then
    let src := s.fld TRK.CTRL_SNAP_SRC
    let r := (s.coll.entries.find? fun r => r.src == src).getD
      ⟨src, false, false, false, false, false, false, s.epoch % 16, 0, 0⟩
    { s with coll := { c with armed := false, snap := some r } }
  else { s with coll := c }

/-- The collector's entry of a source: only a result of the epoch that is processed is used (R37). -/
def collOf (s : State) (src : Nat) : Option Result := s.coll.entries.find? fun r => r.src == src && r.etag == s.epoch % 16

/-- COLLECTOR_RELEASE: the entries of the epoch are released (R117). -/
def State.collRelease (s : State) : State := { s with coll := { s.coll with entries := [] } }

/-- A TDC calibration completes (R105): `fs` is its nonlinearity in femtoseconds; above ±5 ps it is discarded. -/
def State.tdcCal (s : State) (k : Nat) (fs : Nat) : State :=
  if 5000 < fs then
    let s := s.trkUp k fun t => { t with calOk := false, calSwap := false }
    let s := (s.flag TRK.EVT_STAT_TDC_CAL).bumpFld TRK.CNT_CAL_CNT
    let s := { s with coll := { s.coll with calTrk := k } }
    s.raise 31 .warn 3 (k * 256)
  else s.trkUp k fun t => { t with calSwap := true }

end Sys2Proof.Machine
end

