-- ==== Sys2Proof/Machine/Loa.lean ====
section
/-! DEFINITION. The local oscillator assembly: oven, accelerometer, the frequency model and its banks, learning, and the
term in use (05: R169 to R177, R559). -/
namespace Sys2Proof.Machine

def Oven.code : Oven → Nat
  | .cold => 0
  | .warming => 1
  | .settled => 2

/-- The POWERED_HOURS spread counter (R447). -/
def poweredHours (s : State) : Nat := vat s.nvs.ctr 9

/-! ### The frequency model (R172) -/

/-- Terms of the odd series of 2·atanh, z and z² with an 80-bit fraction. -/
def atanhTerms (z2 : Nat) : Nat → Nat → Nat → Nat
  | 0, _, _ => 0
  | n + 1, i, p => p / (2 * i + 1) + atanhTerms z2 n (i + 1) (p * z2 / 2 ^ 80)

/-- ln(num/den) for num ≥ den, with an 80-bit fraction (log entry 6). -/
def lnFix (num den : Nat) : Nat :=
  let k := (num / den).log2
  let b := den * 2 ^ k
  let z := (num - b) * 2 ^ 80 / (num + b)
  k * 837963523372001241319907 + 2 * atanhTerms (z * z / 2 ^ 80) 27 0 z

/-- A signed 32-bit value of the ACTIVE bank in force. -/
def act32 (s : State) (a : Nat) : Int := toSigned 32 (s.effWide a 2)

/-- Powered hours since the model origin, 0 before it. -/
def modelHours (s : State) : Nat := poweredHours s - s.effWide (LOA.BANK_AGE_T0 0) 2

/-- MODEL_ERR of R172 in ppt with a 40-bit fraction, at a resonator temperature in 0.01 °C; the g term is left out while
ACC_OK is 0 or G_EN is 0 (R176). -/
def modelAt (s : State) (tRes : Int) : Int :=
  let h := modelHours s
  let dT := tRes - toSigned 16 (s.eff1 (LOA.BANK_T_REF 0))
  let dTc := s.loa.tCase - toSigned 16 (s.eff1 (LOA.BANK_T_CASE_REF 0))
  let tau := max 1 (s.eff1 (LOA.BANK_AGE_TAU 0))
  let g :=
    if s.loa.accOk && s.bit LOA.COMP_CTRL_G_EN then
      act32 s (LOA.BANK_GX 0) * s.loa.acc.1 + act32 s (LOA.BANK_GY 0) * s.loa.acc.2.1 +
        act32 s (LOA.BANK_GZ 0) * s.loa.acc.2.2
    else 0
  toSigned 40 (s.effWide (LOA.BANK_F0 0) 3) * 2 ^ 40
    + (act32 s (LOA.BANK_AGE_LIN 0) * h * 2 ^ 40).fdiv 24
    + (act32 s (LOA.BANK_AGE_LOG 0) * lnFix (24 * tau + 10 * h) (24 * tau)).fdiv (2 ^ 40)
    + (act32 s (LOA.BANK_C1 0) * dT * 2 ^ 40).fdiv 100
    + (act32 s (LOA.BANK_C2 0) * dT * dT * 2 ^ 40).fdiv 10000
    + (act32 s (LOA.BANK_C3 0) * dT * dT * dT * 2 ^ 40).fdiv 100000000
    + (act32 s (LOA.BANK_D1 0) * dTc * 2 ^ 40).fdiv 100
    + (g * 2 ^ 40).fdiv 100000

/-- The model value of the present sensor readings. -/
def modelF (s : State) : Int := modelAt s s.loa.tRes

/-- What the term in use settles to (R559): 0 without COMP_EN. -/
def targetF (s : State) : Int := if s.loa.compOn then modelF s else 0

/-- The ACTIVE bank differs from the one in force. -/
def activeChanged (s : State) : Bool :=
  (List.range 32).any fun i => s.regs.get (0x0720 + i) != s.eff.get (0x0720 + i)

/-- Moves a number towards 0 by at most `by'`. -/
def towards0 (x by' : Int) : Int := if x ≤ by' ∧ -by' ≤ x then 0 else if 0 < x then x - by' else x + by'

/-- The model at an epoch edge (R172, R174, R559): a change of bank or of COMP_EN is slewed at 1 ppt per epoch. -/
def State.loaEpoch (s : State) : State :=
  let old := targetF s
  let ch := activeChanged s || (s.loa.compOn != s.bit LOA.COMP_CTRL_COMP_EN)
  let s := if activeChanged s then s.applyEff 0x0720 32 else s
  let s := { s with loa := { s.loa with compOn := s.bit LOA.COMP_CTRL_COMP_EN } }
  let ramp := towards0 (if ch then s.loa.rampF + old - targetF s else s.loa.rampF) (2 ^ 40)
  { s with loa := { s.loa with rampF := ramp, termF := targetF s + ramp } }

/-- Sensor readings arrive (R38, R560). -/
def State.sense (s : State) (x : Sense) : State :=
  let l := match x.acc with
    | some a => { s.loa with acc := a }
    | none => s.loa
  match x.temps with
  | none => { s with loa := l }
  | some t =>
    { s with loa := { l with tRes := t.res, tOven := t.oven, tCase := t.case, power := t.power },
             thm := s.thm.read t.case t.dies }

/-! ### Oven (R169, R561) -/

/-- The oven may heat: EN is 1 and the module is above KEEP. -/
def ovenOn (s : State) : Bool :=
  s.bit LOA.OVEN_CTRL_EN && !s.pwr.holdup && (s.pwr.st == .run || s.pwr.st == .park || s.pwr.st == .boot)

/-- T_RES within ±0.05 K of the 112 °C setpoint. -/
def atTemp (s : State) : Bool := decide (s.loa.tRes ≤ 11205) && decide (11195 ≤ s.loa.tRes)

/-- Both conditions of SETTLED (R169). -/
def ovenCond (s : State) : Bool :=
  ovenOn s && atTemp s && decide ((modelF s - modelAt s 11200).natAbs ≤ 5000 * 2 ^ 40)

/-- Since when both conditions have held; evaluated at every epoch and at every reading. -/
def State.ovenTrack (s : State) : State :=
  { s with loa := { s.loa with okSince := if ovenCond s then some (s.loa.okSince.getD s.now) else none } }

/-- The state the readings call for (R169). -/
def ovenNext (s : State) : Oven :=
  if !ovenOn s || decide (s.loa.tRes < 9200) then .cold
  else match s.loa.okSince with
    | some t => if t + 10000000000 ≤ s.now then .settled else .warming
    | none => .warming

/-- Every change raises source 16: WARN on leaving SETTLED, INFO else (R169). -/
def State.ovenTo (s : State) (q : Oven) : State :=
  if s.loa.oven = q then s
  else
    let left := s.loa.oven == .settled
    let s := (s.flagIf left LOA.LOA_EVT_OVEN_LEFT).raise 16 (if left then .warn else .info) 0
      (q.code * 16384 + s.loa.expired)
    { s with loa := { s.loa with oven := q } }

/-- OVEN_STATE_CHANGE, OVEN_EN_WRITE: the oven takes the state its conditions call for. -/
def State.ovenUpdate (s : State) : State :=
  let s := s.ovenTrack
  s.ovenTo (ovenNext s)

/-! ### Accelerometer (R176) and holdover-valid (R177) -/

/-- The accelerometer is found faulted: once per fault. -/
def State.accFault (s : State) : State :=
  if s.loa.accFaulted then s
  else
    let s := { s with loa := { s.loa with accOk := false, accFaulted := true } }
    ((s.flag LOA.LOA_EVT_ACC_FAULT).bump LOA.ACC_FAULT_CNT).raise 17 .warn 0 (s.loa.oven.code * 16384 + s.loa.expired)

/-- 8,000 consecutive good samples. -/
def State.accRecover (s : State) : State := { s with loa := { s.loa with accOk := true, accFaulted := false } }

/-- MODEL_STAT.HO_VALID (R177). -/
def hoValid (s : State) : Bool :=
  s.loa.oven == .settled && decide (s.fld LOA.HV_CFG_HV_HOURS ≤ s.eff1 (LOA.BANK_LEARN_HOURS 0)) &&
    (s.loa.accOk || !s.bit LOA.COMP_CTRL_G_EN) && decide (s.eff1 (LOA.BANK_SIG_F 0) ≤ s.fld LOA.HV_CFG_HV_RESID)

/-! ### Banks (R173 to R175) -/

/-- A change of ACTIVE raises source 18 and is counted (R174). -/
def State.activeEvent (s : State) : State :=
  ((s.flag LOA.LOA_EVT_MODEL_UPD).bump LOA.MODEL_UPD_CNT).raise 18 .info 0 (s.loa.oven.code * 16384 + s.loa.expired)

/-- The multi-word values of an LOA bank (R186). -/
def bankGroups (b : Nat) : List (Nat × Nat) :=
  [(b, 3), (b + 3, 2), (b + 5, 2), (b + 8, 2), (b + 0xA, 2), (b + 0xC, 2), (b + 0xE, 2), (b + 0x12, 2), (b + 0x14, 2),
   (b + 0x16, 2), (b + 0x18, 2)]

/-- A word of the STAGED bank is written: a value applies as a whole with its highest register (R185, R186). -/
def State.stagedWritten (s : State) (a : Nat) : State :=
  match (bankGroups 0x0760).find? fun g => decide (g.1 ≤ a) && decide (a < g.1 + g.2) with
  | some g => if a + 1 = g.1 + g.2 then s.applyEff g.1 g.2 else s
  | none => s.applyEff a 1

/-- Word i of bank b as a copy takes it: STAGED as applied. -/
def bankWord (s : State) (b i : Nat) : Nat := if b = 2 then s.eff1 (0x0760 + i) else s.reg (0x0720 + 32 * b + i)

/-- Copies bank b (1 FACTORY, 2 STAGED) into ACTIVE; refused while its VALID is 0 (BANK_STAT). -/
def State.copyBank (s : State) (b : Nat) : State :=
  if s.bit (LOA.BANK_STAT_VALID b) then
    ((List.range 32).foldl (fun t i => t.setReg (0x0720 + i) (bankWord s b i)) s).activeEvent
  else s.flag LOA.LOA_EVT_CLEAR_REFUSED

/-- The parameters that learning may refine, with their place in a bank and width in words (R175). -/
def learnSlot : Nat → Option (Nat × Nat)
  | 0 => some (0x00, 3)
  | 1 => some (0x03, 2)
  | 2 => some (0x05, 2)
  | 3 => some (0x07, 1)
  | 4 => some (0x08, 2)
  | 5 => some (0x0A, 2)
  | 6 => some (0x0C, 2)
  | 7 => some (0x0E, 2)
  | 8 => some (0x12, 2)
  | 9 => some (0x14, 2)
  | 10 => some (0x16, 2)
  | 11 => some (0x1A, 1)
  | 12 => some (0x1B, 1)
  | 13 => some (0x1C, 1)
  | _ => none

/-- One refined parameter; a Γ refinement needs G_LEARN_EN and is bounded to 10 % or 2 ppt/g (R175). -/
def State.learnOne (s : State) (p : Nat × Int) : State :=
  match learnSlot p.1 with
  | none => s
  | some (off, n) =>
    let a := 0x0720 + off
    if 8 ≤ p.1 ∧ p.1 ≤ 10 then
      if s.bit LOA.COMP_CTRL_G_LEARN_EN then
        let cur := toSigned 32 (s.wide a 2)
        let b : Int := max 200 (cur.natAbs / 10)
        s.setWide a 2 (ofSigned 32 (max (cur - b) (min (cur + b) p.2)))
      else s
    else s.setWide a n (ofSigned (if p.1 = 0 then 40 else 16 * n) p.2)

end Sys2Proof.Machine
end

