-- ==== Sys2Proof/Machine/Dom.lean ====
section
/-! DEFINITION. The six timing domains: candidates, selection, the Weathervane rule, switching, the loop, the pull-in
clamp, lock, and holdover with its budget (04: R122 to R153; 05: R154 to R185).  Names ending in `F` carry a 40-bit
fraction. -/
namespace Sys2Proof.Machine

def DState.code : DState → Nat
  | .freerun => 0
  | .acquire => 1
  | .locked => 2
  | .switching => 3
  | .holdover => 4

/-- The states in which the loop follows a reference. -/
def DState.following (q : DState) : Bool := q == .acquire || q == .locked || q == .switching

def State.domAt (s : State) (d : Nat) : Domain := vat s.dom d
def State.domUp (s : State) (d : Nat) (f : Domain → Domain) : State := { s with dom := vup s.dom d f }

/-! ### Settings -/

def domMode (s : State) (d : Nat) : Nat := s.fld (DOM.SEL_CTRL_MODE d)

/-- The preferred slot, none for 8 to 15 (R128). -/
def domPref (s : State) (d : Nat) : Option Nat :=
  let p := s.fld (DOM.SEL_CTRL_PREF_SLOT d)
  if p < 8 then some p else none

def slotEn (s : State) (d i : Nat) : Bool := s.bit (DOM.SLOT_EN d i)
def slotRef (s : State) (d i : Nat) : Nat := s.fld (DOM.SLOT_REF_ID d i)
def slotRank (s : State) (d i : Nat) : Nat := s.fld (DOM.SLOT_RANK d i)

/-- A lower-numbered enabled slot names the same reference (R123). -/
def slotDup (s : State) (d i : Nat) : Bool :=
  (List.range i).any fun j => slotEn s d j && slotRef s d j == slotRef s d i

/-- Slot i is a candidate (R123). -/
def isCand (s : State) (d i : Nat) : Bool := slotEn s d i && decide (slotRef s d i < 40) && !slotDup s d i

/-- SEL_STAT.CFG_ERR (R123, R128): a REF_ID of 40 to 62 in any slot, or an enabled slot whose reference a lower enabled slot
names (log entry 73). -/
def selCfgErr (s : State) (d : Nat) : Bool :=
  ((List.range 8).any fun i =>
      slotRef s d i != 0x3F && (decide (40 ≤ slotRef s d i) || slotEn s d i && slotDup s d i))
    || (decide (8 ≤ s.fld (DOM.SEL_CTRL_PREF_SLOT d)) && s.fld (DOM.SEL_CTRL_PREF_SLOT d) != 15)

/-- WV_LIM in force in ppt (R136). -/
def wvLim (s : State) (d : Nat) : Nat := min 500000000 (s.effWide (DOM.WV_LIM d) 2)

/-- The software offset in force in ppt (R160). -/
def domOffset (s : State) (d : Nat) : Int := toSigned 40 (s.effWide (DOM.OFFSET d) 3)

/-- The slope limit in ns/s, 0 off (R159). -/
def domSlope (s : State) (d : Nat) : Nat := min 1000 (s.fld (DOM.SLOPE_SLOPE d))

/-- LOCK_THR in ps with a 40-bit fraction, and LOCK_TIME in epochs (R159). -/
def lockThrF (s : State) (d : Nat) : Nat := max 1 (s.reg (DOM.LOCK_THR d)) * 100 * 2 ^ 40
def lockEpochs (s : State) (d : Nat) : Nat :=
  if s.reg (DOM.LOCK_TIME d) = 0 then 2 else s.reg (DOM.LOCK_TIME d) * 40

/-- 2π/κ with a 100-bit fraction, and ζ in thousandths, by the DAMP code (R158, R159; log entry 5). -/
def loopConst (damp : Nat) : Nat × Nat :=
  if damp = 0 then (3870145597105458150501581569759, 707)
  else if damp = 1 then (2836149891584128515530441578245, 1200)
  else if damp = 2 then (1531793751802891267747168987615, 2500)
  else (788603100755492904493806280256, 5000)

def domBw (s : State) (d : Nat) : Nat := min 10000000 (max 1 (s.effWide (DOM.BW d) 2))

/-- The proportional term kp·e (R158). -/
def propF (s : State) (d : Nat) (errF : Int) : Int :=
  let c := loopConst (s.fld (DOM.LOOP_CTRL_DAMP d))
  let p := (errF * (2 * c.2 * c.1 * domBw s d : Nat)).fdiv (10000000 * 2 ^ 100)
  let lim : Int := domSlope s d * 1000 * 2 ^ 40
  if domSlope s d = 0 then p else max (-lim) (min lim p)

/-- The integral increment ki·e (R158). -/
def integStepF (s : State) (d : Nat) (errF : Int) : Int :=
  let c := loopConst (s.fld (DOM.LOOP_CTRL_DAMP d))
  (errF * (c.1 * c.1 * domBw s d * domBw s d * 25 : Nat)).fdiv (100000000000000 * 2 ^ 200)

/-- The band to which FREQ is limited: PULLIN, narrowed while PULLIN_LTD to the coverage of the synthesiser's band in use
(R162, R196). -/
def freqLim (s : State) (d : Nat) : Int :=
  if (s.domAt d).pullinLtd then ((min (pullinOf s d) (s.domAt d).limC : Nat) : Int) else pullinOf s d

/-! ### References as candidates (R25 to R27, R124, R126) -/

/-- The domain whose output a domain selects, if it does. -/
def selDom (x : Domain) : Option Nat :=
  if x.sel.isSome ∧ 33 ≤ x.selRef ∧ x.selRef ≤ 38 then some (x.selRef - 33) else none

/-- Domain e selects domain d, directly or through other domains (R27). -/
def leadsTo (s : State) (d : Nat) : Nat → Nat → Bool
  | 0, _ => false
  | n + 1, e =>
    match selDom (s.domAt e) with
    | none => false
    | some f => f == d || leadsTo s d n f

/-- The qualification of a reference as domain d sees it (R25 to R27). -/
def refState (s : State) (d r : Nat) : QState :=
  if r < 24 then (s.monAt r).st
  else if r < 32 then (vat s.eth (r - 24)).qual
  else if r = 32 then s.cas.ref
  else if r < 39 then
    let e := r - 33
    if e = d ∨ leadsTo s d 6 e then .failed
    else if (s.domAt e).st == .locked || (s.domAt e).st == .holdover then .valid else .failed
  else if r = 39 then
    match s.loa.oven with
    | .cold => .wait
    | .warming => .suspect
    | .settled => .valid
  else .absent

/-- The frequency of a reference against the model-corrected LOA in ppt (R126). -/
def refFreqF (s : State) (r : Nat) : Int :=
  if r < 24 then (s.monAt r).fofs * 2 ^ 40
  else if r < 32 then (vat s.eth (r - 24)).rateF
  else if r = 32 then s.cas.fofs * 2 ^ 40
  else if r < 39 then (s.domAt (r - 33)).freqF
  else 0

/-- The collector source of a reference 0 to 32 (R113). -/
def srcOfRef (r : Nat) : Nat := if r < 24 then r else if r < 32 then r + 8 else 24

/-- Prediction over a time in ns at a rate in ppt against the raw MTB (R557). -/
def predF (phase : Int) (rateF : Int) (ns : Nat) : Int := phase * 2 ^ 40 + (rateF * ns).fdiv 1000000000

/-- A pulse reference: the on-time edge of an INM reference below 1 kHz (R51). -/
def refPulse (s : State) (r : Nat) : Bool := decide (r < 24) && isPulse s r

/-- The result of this epoch is missing or carries HIT (R119, R161). -/
def refHeld (s : State) (r : Nat) : Bool :=
  decide (r ≤ 32) &&
    match collOf s (srcOfRef r) with
    | none => true
    | some x => x.hit

/-- The PHASE of a reference predicted from its last good result (R557). -/
def goodF (s : State) (r : Nat) (rateF : Int) : Int :=
  match vat s.good r with
  | some g => predF g.phase rateF (g.age + 25000 * (s.epoch - g.epoch))
  | none => 0

/-- The PHASE of a reference at this epoch's edge, before the trim phase (R157, R557). -/
def refPhaseF (s : State) (r : Nat) (rateF : Int) : Int :=
  if r ≤ 32 then
    match collOf s (srcOfRef r) with
    | none => goodF s r rateF
    | some x =>
      if x.hit || (refPulse s r && !x.newEdge) then goodF s r rateF
      else if refPulse s r then predF x.phase rateF x.age
      else x.phase * 2 ^ 40
  else if r < 39 then (s.domAt (r - 33)).phaseF
  else s.loa.ph39F

/-- A candidate as the snapshot shows it. -/
structure Cand where
  slot : Nat
  ref : Nat
  rank : Nat
  q : QState
  usable : Bool
  freqF : Int
  phF : Int
  deriving DecidableEq, Repr, Inhabited

/-- The phase of a reference is known (R124). -/
def phaseKnown (s : State) (r : Nat) : Bool := decide (33 ≤ r) || (vat s.good r).isSome

/-- One slot of domain d at the snapshot (R122 to R126).  The selected reference is predicted at INTEG, every other candidate
at its own frequency (R557); in an epoch whose hold a SAFE reaction orders the selected one is predicted (R161, R485). -/
def candOf (s : State) (d i : Nat) : Cand :=
  let r := slotRef s d i
  let q := refState s d r
  let f := refFreqF s r
  let x := s.domAt d
  let selected := x.sel == some i && x.selRef == r
  let rate := (if selected then x.integF else f) - s.loa.termF
  { slot := i, ref := r, rank := slotRank s d i, q := q, usable := q.usable && phaseKnown s r, freqF := f,
    phF := (if x.holdNext && selected && decide (r ≤ 32) then goodF s r rate else refPhaseF s r rate) + x.trimF }

def cands (s : State) (d : Nat) : List Cand := ((List.range 8).filter (isCand s d)).map (candOf s d)

/-! ### Selection (R131 to R139) -/

/-- Plain order: the incumbent, then VALID before SUSPECT, then the lowest slot (R135). -/
def plainPick (t : List Cand) (inc : Option Nat) : Nat :=
  match t.find? fun c => some c.slot == inc with
  | some c => c.slot
  | none =>
    match t.find? fun c => c.q == .valid with
    | some c => c.slot
    | none => (t.head?.map (·.slot)).getD 0

def maxF (t : List Cand) : Int := t.foldl (fun m c => max m c.freqF) ((t.head?.map (·.freqF)).getD 0)
def minF (t : List Cand) : Int := t.foldl (fun m c => min m c.freqF) ((t.head?.map (·.freqF)).getD 0)

/-- The tie set disagrees (R136). -/
def disagree (lim : Nat) (t : List Cand) : Bool :=
  lim != 0 && decide (2 ≤ t.length) && decide ((lim : Int) * 2 ^ 40 < maxF t - minF t)

/-- Whether a is closer than b to v/2: least |F − v|, then the incumbent, then VALID, then the lowest slot (R137). -/
def closer (v2 : Int) (inc : Option Nat) (a b : Cand) : Bool :=
  let da := (2 * a.freqF - v2).natAbs
  let db := (2 * b.freqF - v2).natAbs
  if da ≠ db then decide (da < db)
  else if some a.slot = inc then true
  else if some b.slot = inc then false
  else if (a.q == .valid) ≠ (b.q == .valid) then a.q == .valid
  else decide (a.slot ≤ b.slot)

def closest (v2 : Int) (inc : Option Nat) (t : List Cand) : Nat :=
  match t with
  | [] => 0
  | c :: cs => (cs.foldl (fun b x => if closer v2 inc b x then b else x) c).slot

/-- The best rank present. -/
def bestRank (t : List Cand) : Nat := t.foldl (fun m c => min m c.rank) 15

/-- third(t): the best-ranked usable candidate that is not in t, the lowest slot among equals (R137). -/
def thirdOf (us t : List Cand) : Option Cand :=
  let o := us.filter fun c => !(t.any fun x => x.slot == c.slot)
  o.find? fun c => c.rank == bestRank o

/-- vane_pick (R137): the slot named and the basis (2 THIRD, 3 MEDIAN, 4 LOA, 5 INCUMBENT). -/
def vanePick (us t : List Cand) (inc : Option Nat) (loaValid : Bool) : Nat × Nat :=
  match thirdOf us t with
  | some c => (closest (2 * c.freqF) inc t, 2)
  | none =>
    if 3 ≤ t.length then (closest (median2 (t.map (·.freqF))) inc t, 3)
    else if loaValid then (closest 0 inc t, 4)
    else (plainPick t inc, 5)

/-- The causes of a switch, coded as SEL_STAT2.LAST_CAUSE. -/
inductive Cause where
  | fail | revert | manual | vane
  deriving DecidableEq, Repr, Inhabited

def Cause.code : Cause → Nat
  | .fail => 1
  | .revert => 2
  | .manual => 3
  | .vane => 4

/-- The outcome of R131. -/
inductive Pick where
  | keep
  | go (slot : Nat) (c : Cause)
  | none
  deriving DecidableEq, Repr, Inhabited

/-- What the procedure decides beside the outcome: the tie sets that disagree, the basis, the challenger and since which
epoch it is named. -/
structure Verdict where
  pick : Pick
  tied : Nat
  basis : Nat
  vane : Option (Nat × Nat)
  deriving DecidableEq, Repr, Inhabited

def slotMask (t : List Cand) : Nat := t.foldl (fun m c => m + 2 ^ c.slot) 0

/-- R135: picking from a set of usable candidates of one rank. -/
def pickFrom (s : State) (d : Nat) (us t : List Cand) (inc : Option Nat) : Nat × Nat × Nat :=
  if disagree (wvLim s d) t then
    let v := vanePick us t inc (hoValid s)
    (v.1, slotMask t, v.2)
  else (plainPick t inc, 0, if wvLim s d = 0 || t.length < 2 then 0 else 1)

/-- The challenger and its hold (R139): the epoch since which it is named at every epoch. -/
def challenger (x : Domain) (e : Nat) (named : Option Nat) : Option (Nat × Nat) :=
  match named with
  | none => none
  | some w =>
    match x.vane with
    | some (w', f) => if w' = w then some (w, f) else some (w, e)
    | none => some (w, e)

/-- The hold time of R139 in epochs. -/
def wvHold (s : State) (d : Nat) : Nat :=
  let h := s.fld (DOM.WV_HOLD_HOLD_S d)
  if h = 0 then 1 else 40000 * h

/-- The procedure of R131 at epoch e, in AUTO and FORCED mode.  In FORCED only the preferred slot is ever selected, so a
selected slot that is not the preferred one counts as not usable (R127, R128; log entry 74).  Step 6 is followed to the
letter, on a preferred slot too (R127, R131; log entry 75).  A manual request is one of R129 in FORCED as in AUTO, for a
SUSPECT slot too (log entry 76).  Where the selected slot's tie set and the set picked from in step 6 both disagree, TIED
shows the set picked from (R138; log entry 77). -/
def select (s : State) (d : Nat) (cs : List Cand) : Verdict :=
  let x := s.domAt d
  let us : List Cand := cs.filter (·.usable)
  let forced := domMode s d == 1
  let inc := if x.resel then none else x.sel
  let selC : Option Cand := us.find? fun c =>
    some c.slot == inc && c.ref == x.selRef && (!forced || some c.slot == domPref s d)
  let prefC : Option Cand := match domPref s d with
    | some p => us.find? fun c => c.slot == p
    | none => none
  let prefValid := match prefC with
    | some c => c.q == .valid
    | none => false
  let onPref := x.sel.isSome && x.sel == domPref s d && !x.resel
  let failCause := if x.resel then Cause.manual else .fail
  -- the selected slot's tie set, evaluated at every epoch (R138, R139)
  let tie : List Cand := match selC with
    | some c => us.filter fun y => y.rank == c.rank
    | none => []
  let dis := disagree (wvLim s d) tie
  let vp := vanePick us tie inc (hoValid s)
  let named := if !forced && dis && !onPref && some vp.1 != inc then some vp.1 else none
  let ch := challenger x s.epoch named
  let basis := if dis then vp.2 else if wvLim s d = 0 ∨ tie.length < 2 then 0 else 1
  let base : Verdict := { pick := .keep, tied := if dis then slotMask tie else 0, basis := basis, vane := ch }
  match prefC with
  | some p =>
    if (x.manPend && prefValid || x.manReq) && !onPref then { base with pick := .go p.slot .manual }
    else if selC.isNone && (!forced || prefValid) then { base with pick := .go p.slot failCause }
    else if selC.isNone then { base with pick := .none }
    else if !forced && s.bit (DOM.SEL_CTRL_REVERT d) && prefValid && !onPref then
      { base with pick := .go p.slot .revert }
    else rest forced selC us ch base
  | none =>
    if selC.isNone then
      if forced || us.isEmpty then { base with pick := .none }
      else
        let t := us.filter fun y => y.rank == bestRank us
        let r := pickFrom s d us t inc
        { base with pick := .go r.1 failCause, tied := r.2.1, basis := r.2.2 }
    else rest forced selC us ch base
where
  /-- Steps 6 to 8 of R131. -/
  rest (forced : Bool) (selC : Option Cand) (us : List Cand) (ch : Option (Nat × Nat)) (base : Verdict) : Verdict :=
    match selC with
    | none => base
    | some c =>
      let better := us.filter fun y => y.q == .valid && decide (y.rank < c.rank)
      if !forced && s.bit (DOM.SEL_CTRL_REVERT d) && !better.isEmpty then
        let t := better.filter fun y => y.rank == bestRank better
        let r := pickFrom s d us t (s.domAt d).sel
        { base with pick := .go r.1 .revert, tied := if r.2.1 = 0 then base.tied else r.2.1,
                    basis := if r.2.1 = 0 then base.basis else r.2.2 }
      else
        match ch with
        | some (w, f) =>
          if f + wvHold s d ≤ s.epoch then { base with pick := .go w .vane, vane := none } else base
        | none => base

/-! ### State changes and their events -/

/-- A change of DSTATE raises source 56 + 3d: WARN on entry to HOLDOVER, INFO else (R165).  Its word 5 shows the cause of
the last switch as SEL_STAT2 does (log entry 21). -/
def State.domTo (s : State) (d : Nat) (q : DState) : State :=
  let old := (s.domAt d).st
  if old = q then s
  else
    (s.domUp d fun x => { x with st := q }).raise (56 + 3 * d) (if q = .holdover then .warn else .info) 0
      (q.code * 8192 + old.code * 1024 + (s.domAt d).lastCause)

/-- An alarm of source 58 + 3d with its code (HIST_SEL). -/
def State.domAlarm (s : State) (d : Nat) (sev : Severity) (code : Nat) : State :=
  let c := (s.domAt d).st.code
  s.raise (58 + 3 * d) sev code (c * 8192 + c * 1024)

/-- The selection follows a slot (R131). -/
def State.domSelect (s : State) (d : Nat) (c : Cand) : State :=
  s.domUp d fun x =>
    { x with sel := some c.slot, selRef := c.ref, manReq := false,
             manPend := x.manPend && !(domPref s d == some c.slot), resel := false, vane := none }

/-- Nothing is selected. -/
def Domain.deselect (x : Domain) : Domain := { x with sel := none, selRef := 0x3F, resel := false, vane := none }

def limF (lim v : Int) : Int := max (-(lim * 2 ^ 40)) (min (lim * 2 ^ 40) v)

/-- BO_OFS set at a decision (R141); the style is fixed for the switch (R145), and a running slew stops (R144). -/
def State.buildOut (s : State) (d : Nat) (c : Cand) : State :=
  let style := s.bit (DOM.SEL_CTRL_STYLE d)
  s.domUp d fun x =>
    { x with boF := c.phF - x.phaseF, style := style, boSlew := false, boReset := false, swD := s.epoch }

/-- An acquisition (R165, R167): BO_OFS as at a switch, INTEG from the candidate's frequency. -/
def State.domAcquire (s : State) (d : Nat) (c : Cand) : State :=
  let lim := freqLim s d
  let s := (s.domSelect d c).buildOut d c
  let s := s.domUp d fun x => { x with integF := limF lim c.freqF, lockN := 0, unlockN := 0 }
  s.domTo d .acquire

/-- The counter of a cause. -/
def causeCnt (d : Nat) : Cause → Nat
  | .fail => DOM.SW_FAIL_CNT d
  | .revert => DOM.SW_REVERT_CNT d
  | .manual => DOM.SW_MANUAL_CNT d
  | .vane => DOM.SW_VANE_CNT d

/-- A switch is decided (R140, R147, R150). -/
def State.domSwitch (s : State) (d : Nat) (c : Cand) (why : Cause) (restart : Bool) : State :=
  let s := (s.domSelect d c).buildOut d c
  let s := s.domUp d fun x => { x with lastCause := why.code, swEpochs := 0, clampAtD := x.clamped }
  let s := ((s.bump (DOM.SWITCH_CNT d)).bump (causeCnt d why)).flag (DOM.SEL_EVT_SWITCHED d)
  let s := s.flagIf restart (DOM.SEL_EVT_RESTART d)
  let old := (s.domAt d).st
  let s := s.raise (57 + 3 * d) (if why = .fail then .warn else .info) 0 (3 * 8192 + old.code * 1024 + why.code)
  s.domTo d .switching

/-! ### Holdover (R178 to R181) -/

/-- A square root whose rounding the spec does not state. -/
def rsqrt (site n : Nat) : Nat :=
  let r := isqrt n
  if r * r = n then r else r + (if Config.roundUp site n 1 then 1 else 0)

/-- The samples of R179 and what they give: n, HO_FREQ, grade (0 NONE, 1 PARTIAL, 2 FULL), standard error in ppt. -/
def hoForm (s : State) (d : Nat) : Nat × Int × Nat × Nat :=
  let x := s.domAt d
  let sec := s.now / 1000000000
  let excl := s.fld (DOM.HO_CFG_HO_EXCL d)
  let avg := min 3600 (s.fld (DOM.HO_AVG_HO_AVG d))
  let l := (x.ho.filter fun p => decide (excl + p.1 < sec) && decide (sec ≤ excl + avg + p.1)).map (·.2)
  let n := l.length
  if n = 0 ∨ avg = 0 then (n, x.integF, 0, 0)
  else
    let mean := (sumInt l).fdiv n
    let sq := sumInt (l.map fun v => (v - mean) * (v - mean))
    let se := if n < 2 then 0 else rsqrt 31 (sq.toNat / ((n - 1) * n * 2 ^ 80))
    (n, mean, if avg / 2 ≤ n then 2 else 1, se)

/-- TE_ENTRY in ps (R180): three times the RMS of PH_ERR over the last second, or from ACQUIRE |PH_ERR| + LOCK_THR. -/
def teEntryOf (s : State) (d : Nat) : Nat :=
  let x := s.domAt d
  if x.st = .acquire then (rdiv 32 x.errF (2 ^ 40)).natAbs + max 1 (s.reg (DOM.LOCK_THR d)) * 100
  else if x.errs.isEmpty then 0
  else rsqrt 33 (9 * (sumInt (x.errs.map fun e => e * e)).toNat / x.errs.length)

/-- Entry to HOLDOVER from a following state (R165, R179, R180). -/
def State.domHoldover (s : State) (d : Nat) : State :=
  let h := hoForm s d
  let te := teEntryOf s d
  let sf := s.eff1 (LOA.BANK_SIG_F 0) + h.2.2.2
  let s := s.domUp d fun x =>
    { x.deselect with hoFreqF := h.2.1, grade := h.2.2.1, hoN := h.1, hoSe := h.2.2.2,
                      sigf := if h.2.2.1 = 0 then max 1000 sf else sf, teEntry := te, caseAt := s.loa.tCase,
                      dtcMax := 0, nCold := 0, nNog := 0, secCold := false, secNog := false, hoExp := false,
                      hoTime := 0, hoStart := s.now, hoTe := cdiv te 1000 }
  (s.bump (DOM.HO_CNT d)).domTo d .holdover

/-- Entry to HOLDOVER with R131's flag: NO_CAND when no candidate is usable. -/
def State.domLose (s : State) (d : Nat) (us : List Cand) : State :=
  (s.flagIf us.isEmpty (DOM.SEL_EVT_NO_CAND d)).domHoldover d

/-- HO_BUDGET_UPDATE (R180, R181): a whole second of HO_TIME has passed.  The budget expires when HO_TE passes HO_LIMIT: at a
second at which it exceeds the limit and did not at the second before. -/
def State.hoBudget (s : State) (d : Nat) : State :=
  let x := s.domAt d
  if x.st ≠ .holdover ∨ s.now < x.hoStart + (x.hoTime + 1) * 1000000000 then s
  else
    let t := x.hoTime + 1
    let nc := x.nCold + (if x.secCold then 1 else 0)
    let ng := x.nNog + (if x.secNog then 1 else 0)
    let sf := s.eff1 (LOA.BANK_SIG_F 0) + x.hoSe
    let sf := if x.grade = 0 then max 1000 sf else sf
    let num := (x.teEntry + sf * t + 5000 * nc + 100 * ng) * 172800
      + s.eff1 (LOA.BANK_SIG_T 0) * x.dtcMax * t * 1728 + s.eff1 (LOA.BANK_SIG_A 0) * t * t
    let te := cdiv num (172800 * 1000)
    let lim := s.effWide (DOM.HO_LIMIT d) 2
    let exp := decide (lim ≠ 0) && decide (lim < te)
    let first := exp && !x.hoExp
    let s := s.domUp d fun x =>
      { x with hoTime := t, nCold := nc, nNog := ng, sigf := sf, hoTe := te, secCold := s.loa.oven != .settled,
               secNog := !s.loa.accOk, hoExp := exp }
    if first then
      let m := setBits s.loa.expired d d 1
      let s := ({ s with loa := { s.loa with expired := m } }).flag (DOM.HO_STAT_EXPIRED d)
      let s := (s.flag LOA.LOA_EVT_HO_EXP).domAlarm d .warn 3
      s.raise 19 .warn 0 (s.loa.oven.code * 16384 + m)
    else s

/-- The budget is exceeded in the present holdover (R181): a clear of EXPIRED is refused. -/
def hoOver (s : State) (d : Nat) : Bool :=
  let x := s.domAt d
  let lim := s.effWide (DOM.HO_LIMIT d) 2
  x.st == .holdover && lim != 0 && decide (lim < x.hoTe)

/-- Domain d is eligible for learning (R175). -/
def learnOk (s : State) (d : Nat) : Bool :=
  let x := s.domAt d
  x.st == .locked && decide (x.selRef ≤ 32) && refState s d x.selRef == .valid && !x.clamped && !x.frozen &&
    s.loa.oven == .settled && s.bit LOA.COMP_CTRL_LEARN_EN

/-- The learning domain: LEARN_DOM, eligible or not, or with AUTO the lowest-numbered eligible one; 7 none (R175, R183). -/
def learnPick (s : State) : Nat :=
  let l := s.fld LOA.COMP_CTRL_LEARN_DOM
  if l < 6 then (if s.bit LOA.COMP_CTRL_LEARN_EN then l else 7)
  else ((List.range 6).find? (learnOk s)).getD 7

/-- MODEL_LEARN_UPDATE (R175): the sequencer writes a learned update into ACTIVE; learning pauses while the learning domain
is not eligible (R183). -/
def State.learnUpdate (s : State) (ps : List (Nat × Int)) : State :=
  if learnOk s s.loa.learnDom then
    let s := ps.foldl State.learnOne s
    (s.setReg (LOA.BANK_SEQ 0) ((s.reg (LOA.BANK_SEQ 0) + 1) % 65536)).activeEvent
  else s

/-- One domain's second ends: a qualified second enters the history (R178). -/
def State.domSecond (s : State) (d sec : Nat) : State :=
  s.domUp d fun x =>
    if x.secNo = sec then x
    else
      { x with ho := if x.secN = 40000 ∧ ¬ x.secBad then ((x.secNo, x.secSum.fdiv 40000) :: x.ho).take 3600 else x.ho,
               secNo := sec, secSum := 0, secN := 0, secBad := x.st != .locked }

/-- The learning domain is taken; another one starts a new residual record (R175). -/
def State.learnTake (s : State) : State :=
  let p := learnPick s
  { s with loa := { s.loa with learnDom := p, resids := if p = s.loa.learnDom then s.loa.resids else [] } }

/-- HOLDOVER_SECOND (R178, R175): the domains' seconds, the learning domain's hours and residual record. -/
def State.holdoverSecond (s : State) : State :=
  let sec := s.now / 1000000000
  let ld := s.loa.learnDom
  let x := s.domAt ld
  let good := decide (ld < 6) && x.secNo != sec && decide (x.secN = 40000) && !x.secBad && learnOk s ld
  let mean := x.secSum.fdiv 40000
  let s := if (List.range 6).any fun d => (s.domAt d).secNo != sec then
      (List.range 6).foldl (fun t d => t.domSecond d sec) s else s
  let s :=
    if good then
      let l : Loa := { s.loa with resids := (mean :: s.loa.resids).take 3600, learnSecs := s.loa.learnSecs + 1 }
      if l.learnSecs < 3600 then { s with loa := l }
      else (({ s with loa := { l with learnSecs := 0 } }).bump (LOA.BANK_LEARN_HOURS 0)).activeEvent
    else s
  s.learnTake

/-! ### The loop (R155 to R166) -/

/-- The clamp at one epoch (R162 to R164): `raw` is the unclamped FREQ, `fresh` says that it was formed in this epoch. -/
def State.domClamp (s : State) (d : Nat) (raw : Int) (fresh : Bool) : State :=
  let lim := freqLim s d * 2 ^ 40
  let out := decide (lim < raw) || decide (raw < -lim)
  let ofs := domOffset s d * 2 ^ 40
  let was := (s.domAt d).clamped
  let on := if fresh then out else out || was
  let s := s.domUp d fun x =>
    { x with clamped := on, freqF := max (-lim) (min lim raw),
             integF := if !x.st.following then x.integF
                       else if lim < raw then min x.integF (lim - ofs)
                       else if raw < -lim then max x.integF (-lim - ofs) else x.integF }
  if on && !was then ((s.flag (DOM.LOOP_EVT_CLAMP d)).bump (DOM.CLAMP_CNT d)).domAlarm d .warn 1 else s

/-- BO_OFS is slewing (R143): in every state of the domain (log entry 78), but for a frozen SWITCHING, which keeps BO_OFS
(R150). -/
def Domain.slewing (x : Domain) : Bool := x.boSlew && !(x.frozen && x.st == .switching)

/-- BO_OFS slews towards zero (R143, R144). -/
def Domain.slew (x : Domain) (slope : Nat) : Domain :=
  if x.slewing then
    let step : Int := if slope = 0 then 25 * 2 ^ 40 else slope * 2 ^ 40 / 40
    let b := towards0 x.boF step
    { x with boF := b, boSlew := b != 0, boReset := x.boReset && b != 0 }
  else x

/-- The lock and unlock tests of one epoch (R166). -/
def State.domTests (s : State) (d : Nat) (held : Bool) : State :=
  let x := s.domAt d
  let skip := x.clamped || x.frozen || held
  let ok := decide (x.errF.natAbs ≤ lockThrF s d) && !x.clamped
  let far := decide (2 * lockThrF s d < x.errF.natAbs)
  let s := s.domUp d fun x =>
    { x with lockOk := ok, lockN := if ok && !skip then x.lockN + 1 else 0,
             unlockN := if skip then x.unlockN else if far then x.unlockN + 1 else 0 }
  let x := s.domAt d
  if x.st = .acquire ∧ lockEpochs s d ≤ x.lockN then
    (s.domUp d fun x => { x with unlockN := 0, lockedEp := 0, secBad := true }).domTo d .locked
  else if x.st = .locked ∧ lockEpochs s d ≤ x.unlockN then
    let s := s.domTo d .acquire
    let s := s.domUp d fun x => { x with lockN := 0, unlockN := 0 }
    ((s.flag (DOM.LOOP_EVT_UNLOCK d)).bump (DOM.UNLOCK_CNT d)).domAlarm d .warn 2
  else s

/-- One epoch of the loop on the selected candidate (R157, R158, R161).  A result missing or hit at decision epoch D is no
hold: the switch completes as in R140 (R183; log entry 79). -/
def State.domLoop (s : State) (d : Nat) (c : Cand) (decided acquired : Bool) (held : Bool) : State :=
  let x := s.domAt d
  let e := c.phF - x.phaseF - x.boF
  let repeat' := decided || held || x.frozen
  let ofs := domOffset s d * 2 ^ 40
  let atD1 := x.st == .switching && decide (s.epoch = x.swD + 1)
  let integ := if repeat' then x.integF
    else (if atD1 && x.clampAtD then limF (freqLim s d) c.freqF else x.integF) + integStepF s d e
  let raw := if repeat' then x.freqF else integ + propF s d e + ofs
  let s := s.domUp d fun x =>
    { x with errF := e, integF := integ, hitHold := held, holdNext := false,
             boResid := if atD1 then satSym 16 (rdiv 34 e (2 ^ 40)) else x.boResid,
             boSlew := x.boSlew || (atD1 && x.style) || (acquired && x.style && decide (x.boF ≠ 0)) }
  let s := if held then (s.flag (DOM.LOOP_EVT_HIT_HOLD d)).bump (DOM.HIT_HOLD_CNT d) else s
  let s := s.domClamp d raw (!repeat')
  let s := s.domUp d fun x => { x with clampAtD := if decided then x.clamped else x.clampAtD }
  let s := s.domUp d fun x => if decided || acquired then x else x.slew (domSlope s d)
  s.domTests d (held || decided)

/-- FREQ without a selection: HO_FREQ or nothing, plus OFFSET (R155); an ordered hold repeats FREQ (R485). -/
def State.domFree (s : State) (d : Nat) : State :=
  let x := s.domAt d
  let base := if x.st = .holdover then x.hoFreqF else 0
  let s := s.domUp d fun x =>
    { x with hitHold := x.holdNext, holdNext := false, lockOk := false, lockN := 0, unlockN := 0, errs := [] }
  let s := if x.holdNext then (s.flag (DOM.LOOP_EVT_HIT_HOLD d)).bump (DOM.HIT_HOLD_CNT d) else s
  let s := if x.frozen || x.holdNext then s.domClamp d x.freqF false
    else s.domClamp d (base + domOffset s d * 2 ^ 40) true
  s.domUp d fun x => x.slew (domSlope s d)

/-- The records of one epoch: seconds of the history, PH_ERR of the last second, LOCKED_S, holdover seconds. -/
def State.domRecord (s : State) (d : Nat) (held : Bool) : State :=
  let sec := s.now / 1000000000
  let ok := (s.domAt d).st == .locked && refState s d (s.domAt d).selRef == .valid && !(s.domAt d).clamped &&
    !(s.domAt d).frozen && !held
  s.domUp d fun x =>
    let x := if x.secNo = sec then x else { x with secNo := sec, secSum := 0, secN := 0, secBad := false }
    { x with secSum := x.secSum + x.integF, secN := x.secN + 1, secBad := x.secBad || !ok,
             errs := if x.st.following then ((rdiv 35 x.errF (2 ^ 40)) :: x.errs).take 40000 else x.errs,
             lockedEp := if x.st == .locked || x.st == .switching then x.lockedEp + 1 else 0,
             secCold := x.secCold || s.loa.oven != .settled, secNog := x.secNog || !s.loa.accOk,
             dtcMax := if x.st = .holdover then max x.dtcMax (s.loa.tCase - x.caseAt).natAbs else x.dtcMax }

/-- DISAGREE, TIED and the beginning of a disagreement (R138). -/
def State.domDisagree (s : State) (d : Nat) (v : Verdict) : State :=
  let begins := v.tied != 0 && !(s.domAt d).disagree
  let s := s.domUp d fun x => { x with tied := v.tied, basis := v.basis, vane := v.vane, disagree := v.tied != 0 }
  let s := s.flagIf (v.tied != 0) (DOM.SEL_EVT_DISAGREE d)
  if begins then s.domAlarm d .info 4 else s

/-- What the decision of R131 does in each state (R140, R150, R165): the state, and whether a switch or an acquisition
was decided in this epoch. -/
def State.domDecide (s : State) (d : Nat) (cs us : List Cand) (p : Pick) : State × Bool × Bool :=
  let x := s.domAt d
  match p with
  | .none =>
    if x.st.following then (s.domLose d us, false, false) else (s, false, false)
  | .keep =>
    if x.st = .switching ∧ x.swD + 2 ≤ s.epoch then
      ((s.domUp d fun x => { x with swEpochs := satNat 8 (s.epoch - x.swD) }).domTo d .locked, false, false)
    else (s, false, false)
  | .go k why =>
    match cs.find? fun c => c.slot == k with
    | none => (s, false, false)
    | some c =>
      match x.st with
      | .locked => (s.domSwitch d c why false, true, false)
      | .switching => (s.domSwitch d c why true, true, false)
      | .acquire => ((s.domAcquire d c).flag (DOM.LOOP_EVT_REACQ d), false, true)
      | .freerun => (s.domAcquire d c, false, true)
      | .holdover => (s.domAcquire d c, false, true)

/-- The module's domains follow references only in RUN and PARK (R168). -/
def domsFollow (s : State) : Bool := s.pwr.st == .run || s.pwr.st == .park

/-- A manual request that is no longer usable at the snapshot waits (R129). -/
def State.domManual (s : State) (d : Nat) (us : List Cand) : State :=
  s.domUp d fun x =>
    if x.manReq ∧ ¬ (us.any fun c => some c.slot == domPref s d) then { x with manReq := false, manPend := true } else x

/-- One domain at its snapshot (R125): selection, switching, loop, clamp and records. -/
def State.domEpoch (s : State) (d : Nat) (cs : List Cand) (held : Nat → Bool) : State :=
  let us := cs.filter (·.usable)
  let s := s.domUp d fun x =>
    { x with usable := slotMask us, ofs := domOffset s d,
             cph := (List.range 8).map fun i =>
               ((cs.find? fun c => c.slot == i).map fun c => c.phF - x.phaseF).getD 0,
             cfr := (List.range 8).map fun i => ((cs.find? fun c => c.slot == i).map (·.freqF)).getD 0 }
  let mode := domMode s d
  if mode = 3 then
    let s := s.domUp d fun x => { x.deselect with manPend := false, manReq := false, disagree := false, tied := 0 }
    ((s.domTo d .freerun).domFree d).domRecord d false
  else if mode = 2 ∨ ¬ domsFollow s then
    let s := s.domUp d fun x =>
      { x with manPend := x.manPend && mode != 2, manReq := false, disagree := false, tied := 0 }
    let st := (s.domAt d).st
    let s :=
      if st.following then s.domLose d us
      else if st = .freerun ∧ mode = 2 ∧ domsFollow s then
        ((s.domUp d fun x => { x with hoFreqF := 0, grade := 0, hoN := 0, hoSe := 0, caseAt := s.loa.tCase, dtcMax := 0,
                                      nCold := 0, nNog := 0, secCold := false, secNog := false, hoExp := false,
                                      hoTime := 0, hoStart := s.now, teEntry := 0, hoTe := 0,
                                      sigf := max 1000 (s.eff1 (LOA.BANK_SIG_F 0)) }).flagIf us.isEmpty
          (DOM.SEL_EVT_NO_CAND d)).domTo d .holdover
      else s
    (s.domFree d).domRecord d false
  else
    let s := s.domManual d us
    let v := select s d cs
    let s := s.domDisagree d v
    let r := s.domDecide d cs us v.pick
    let s := r.1
    let x := s.domAt d
    match cs.find? fun c => some c.slot == x.sel with
    | some c =>
      let h := x.holdNext || (held c.ref && !r.2.1)
      (s.domLoop d c r.2.1 r.2.2 h).domRecord d (h || r.2.1)
    | none => (s.domFree d).domRecord d false

/-- DOMAIN_SNAPSHOT (R125): every domain reads at one instant and processes the epoch. -/
def State.domSnapshot (s : State) : State :=
  let view := (List.range 6).map fun d => cands s d
  (List.range 6).foldl (fun t d => t.domEpoch d (view.getD d []) (refHeld s)) s

/-- The phases advance over one epoch at the rates in force, the trim phase at the OFFSET that the snapshot put into FREQ (R156,
R160). -/
def State.domAdvance (s : State) : State :=
  let term := s.loa.termF
  let adv := fun (f : Int) => (f * 25).fdiv 1000000
  let s := { s with loa := { s.loa with ph39F := s.loa.ph39F + adv (-term) } }
  (List.range 6).foldl (fun t d =>
    t.domUp d fun x =>
      { x with phaseF := x.phaseF + adv (x.freqF - term),
               trimF := if x.st.following then x.trimF + adv (x.ofs * 2 ^ 40) else x.trimF }) s

/-- Good results of the epoch that closes (R557). -/
def State.keepGood (s : State) : State :=
  { s with good := s.coll.entries.foldl (fun g r =>
      let i := if r.src < 24 then r.src else if r.src = 24 then 32 else r.src - 8
      if !r.valid then vup g i fun _ => none
      else if r.newEdge && !r.hit then vup g i fun _ => some ⟨s.epoch, r.age, r.phase⟩ else g) s.good }

/-! ### Writes (R127 to R130, R144) -/

/-- A change of PREF_SLOT (R129).  Whether the new slot is usable is judged at the write (log entry 80). -/
def State.prefWritten (s : State) (d : Nat) : State :=
  let m := domMode s d
  if 2 ≤ m then s
  else
    match domPref s d with
    | none => s.domUp d fun x => { x with manPend := false, manReq := false }
    | some p =>
      if (s.domAt d).sel = some p then s.domUp d fun x => { x with manPend := false, manReq := false }
      else
        let u := isCand s d p && (candOf s d p).usable
        s.domUp d fun x => { x with manPend := !u, manReq := u }

/-- A slot register was written (R130): EN cleared or REF_ID changed on the selected slot. -/
def State.slotWritten (s : State) (d i : Nat) : State :=
  let x := s.domAt d
  if x.sel = some i ∧ (¬ slotEn s d i ∨ slotRef s d i ≠ x.selRef) then s.domUp d fun x => { x with resel := true }
  else s

/-- A change of MODE: entry to HOLD or FREERUN clears MAN_PEND (R127, R129). -/
def State.modeWritten (s : State) (d : Nat) : State :=
  if 2 ≤ domMode s d then s.domUp d fun x => { x with manPend := false, manReq := false } else s

/-- BO_RESET written 1 (R144). -/
def State.boResetWritten (s : State) (d : Nat) : State :=
  s.domUp d fun x => if x.boF = 0 then x else { x with boSlew := true, boReset := true }

/-- The loop is frozen by a loss of lock of its synthesiser (R183). -/
def State.domFreeze (s : State) (d : Nat) : State :=
  if d < 6 ∧ ¬ (s.domAt d).frozen then
    ((s.domUp d fun x => { x with frozen := true, secBad := true }).flag (DOM.LOOP_EVT_FROZEN_SEEN d)).domAlarm d .warn 5
  else s

def State.domUnfreeze (s : State) (d : Nat) : State := s.domUp d fun x => { x with frozen := false }

/-- The module enters KEEP or a lower power state: every domain not in FREERUN enters HOLDOVER (R168). -/
def State.domsKeep (s : State) : State :=
  (List.range 6).foldl (fun t d => if (t.domAt d).st.following then t.domLose d ((cands t d).filter (·.usable)) else t) s

end Sys2Proof.Machine
end

