-- ==== Sys2Proof/Machine/PtpBase.lean ====
section
/-! DEFINITION. Settings and small readings of the Ethernet ports and PTP instances that other blocks need (09: R289 to
R318). -/
namespace Sys2Proof.Machine

def PortState.code : PortState → Nat
  | .none => 0
  | .initializing => 1
  | .faulty => 2
  | .disabled => 3
  | .listening => 4
  | .preMaster => 5
  | .master => 6
  | .passive => 7
  | .uncalibrated => 8
  | .slave => 9

def State.ethAt (s : State) (n : Nat) : EthPort := vat s.eth n
def State.ethUp (s : State) (n : Nat) (f : EthPort → EthPort) : State := { s with eth := vup s.eth n f }
def State.ptpAt (s : State) (i : Nat) : PtpInst := vat s.ptp i
def State.ptpUp (s : State) (i : Nat) (f : PtpInst → PtpInst) : State := { s with ptp := vup s.ptp i f }

/-- The member ports of instance i (R301). -/
def members (s : State) (i : Nat) : List Nat := (List.range 8).filter fun n => (s.ethAt n).inst == i

/-- The slave port of an instance: SLAVE or UNCALIBRATED (INST_STAT.SLAVE_PORT). -/
def slavePort (s : State) (i : Nat) : Option Nat := (members s i).find? fun n => (s.ethAt n).pst == .slave

/-- The instance is bound to time keeper t and is a slave with a selected master (R278). -/
def ptpServes (s : State) (i t : Nat) : Bool :=
  (s.ptpAt i).en && s.fld (PTI.INST_CTRL_TK_SEL i) == t && (slavePort s i).isSome

end Sys2Proof.Machine
end

