-- ==== Sys2Proof/Machine/Tod.lean ====
section
/-! DEFINITION. The time-of-day receiver (02: R91 to R97, R563). -/
namespace Sys2Proof.Machine

/-- Days from 1970-01-01 to a date of the Gregorian calendar, for years from 1970 on. -/
def daysOf (y m d : Nat) : Nat :=
  let y' := if m ≤ 2 then y - 1 else y
  let mp := if m ≤ 2 then m + 9 else m - 3
  y' * 365 + y' / 4 - y' / 100 + y' / 400 + (153 * mp + 2) / 5 + (d - 1) - 719468

/-- The dates and times that parse.  R96 states no range but the leap second: any day from 1 to 31 of any month, second 60 at any
minute and years from 1970 on are taken (DESIGN CHOICE, log entry 68). -/
def dateOk (y m d h mi sec : Nat) : Bool :=
  decide (1970 ≤ y) && decide (1 ≤ m) && decide (m ≤ 12) && decide (1 ≤ d) && decide (d ≤ 31) && decide (h ≤ 23) &&
    decide (mi ≤ 59) && decide (sec ≤ 60)

/-- UTC seconds since 1970-01-01, counted without leap seconds (R96). -/
def utcSeconds (y m d h mi sec : Nat) : Nat := daysOf y m d * 86400 + h * 3600 + mi * 60 + sec

/-- The TAI − UTC in use: the software value, or that of the last accepted binary frame (R97). -/
def todUtc (s : State) : Int :=
  match s.tod.utcFrame with
  | some v => if s.bit SYS.TOD_CFG2_UTC_SRC then v else toSigned 16 (s.reg SYS.TOD_UTC_OFS)
  | none => toSigned 16 (s.reg SYS.TOD_UTC_OFS)

/-- The nominal of the paired reference is exactly 1 Hz (R92). -/
def pairOk (s : State) : Bool := nomNum s (pairRef s) == nomDen s (pairRef s)

/-- What an accepted binary frame brings besides its second and its leap flags: TAI − UTC when valid (R97). -/
def Tod.withExtra (t : Tod) (x : Option (Nat × Option Int)) (utcSrc : Bool) : Tod :=
  match x with
  | none => t
  | some (_, utc) => { t with utcFrame := if utcSrc then utc.orElse (fun _ => t.utcFrame) else t.utcFrame }

/-- An accepted message labels the on-time edge with its TAI second (R93, R94). -/
def State.todAccept (s : State) (sec edge : Nat) (x : Option (Nat × Option Int)) : State :=
  let ok := match s.tod.prevSec with
    | some p => sec == p + 1
    | none => true
  if !ok then s.todReject 4
  else
    let n := min 15 (s.tod.confirmed + 1)
    let t := { s.tod with sec := sec, prevSec := some sec, confirmed := n, lastErr := 0, next := none,
                          label := some (edge, sec), acceptAt := some s.now,
                          valid := s.tod.valid || decide (max 1 (s.fld SYS.TOD_CFG_CONFIRM) ≤ n) }
    { s with tod := t.withExtra x (s.bit SYS.TOD_CFG2_UTC_SRC) }

/-- Pairs a checked message whose last byte arrives at `arr` ps, with the on-time edge that has come last (R93).  A second
LABEL NEXT message before the following edge takes the place of the first, which is not counted (DESIGN CHOICE, log entry 69:
the rule speaks of one message). -/
def State.todPair (s : State) (sec arr : Nat) (x : Option (Nat × Option Int)) : State :=
  let r := pairRef s
  match (s.monAt r).lastEdge, (s.monAt r).edged with
  | some e, true =>
    let period := 1000000000000 * nomDen s r / max 1 (nomNum s r)
    if arr < e + 1000000000 ∨ e + period < arr + 10000000000 then s.todReject 5
    else if s.bit SYS.TOD_CFG_LABEL then { s with tod := { s.tod with next := some (r, sec, x) } }
    else s.todAccept sec e x
  | _, _ => s.todReject 6

/-- FMT accepts the binary frame, ZDA or RMC (R95). -/
def fmtTakes (s : State) (code : Nat) : Bool := s.fld SYS.TOD_CFG_FMT == code || s.fld SYS.TOD_CFG_FMT == 3

/-! ### NMEA 0183 (R96) -/

/-- The parts of a text between the separators c. -/
def splitOn (c : Nat) : List Byte → List (List Byte)
  | [] => [[]]
  | b :: bs =>
    if b.toNat = c then [] :: splitOn c bs
    else match splitOn c bs with
      | [] => [[b]]
      | w :: ws => (b :: w) :: ws

/-- The number that n decimal digits spell. -/
def decimal (n : Nat) (bs : List Byte) : Option Nat :=
  if bs.length = n ∧ bs.all fun b => decide (0x30 ≤ b.toNat) && decide (b.toNat ≤ 0x39) then
    some (bs.foldl (fun a b => 10 * a + (b.toNat - 0x30)) 0)
  else none

/-- The value of a hexadecimal digit. -/
def hexDigit (b : Byte) : Option Nat :=
  let n := b.toNat
  if 0x30 ≤ n ∧ n ≤ 0x39 then some (n - 0x30)
  else if 0x41 ≤ n ∧ n ≤ 0x46 then some (n - 0x37)
  else if 0x61 ≤ n ∧ n ≤ 0x66 then some (n - 0x57)
  else none

/-- The text of a sentence between "$" and "*". -/
def nmeaBody (bs : List Byte) : List Byte := (bs.drop 1).takeWhile fun b => b.toNat != 0x2A

/-- The checksum of a sentence: the exclusive or of its text, as two hexadecimal digits after the "*". -/
def nmeaSumOk (bs : List Byte) : Bool :=
  match (bs.drop (1 + (nmeaBody bs).length)) with
  | _ :: h :: l :: _ =>
    (match hexDigit h, hexDigit l with
      | some a, some b => 16 * a + b == (nmeaBody bs).foldl (fun x y => Nat.xor x y.toNat) 0
      | _, _ => false)
  | _ => false

def isLetter (b : Byte) : Bool :=
  (decide (0x41 ≤ b.toNat) && decide (b.toNat ≤ 0x5A)) || (decide (0x61 ≤ b.toNat) && decide (b.toNat ≤ 0x7A))

/-- The sentence type after a two-letter talker ID (R96, R563): 0 ZDA, 1 RMC. -/
def nmeaType (bs : List Byte) : Option Nat :=
  match bs.map (·.toNat), bs.drop 1 with
  | 0x24 :: _ :: _ :: a :: b :: c :: 0x2C :: _, x :: y :: _ =>
    if isLetter x && isLetter y then
      (if [a, b, c] = [0x5A, 0x44, 0x41] then some 0 else if [a, b, c] = [0x52, 0x4D, 0x43] then some 1 else none)
    else none
  | _, _ => none

/-- hhmmss, with fractional seconds absent or zero (R96). -/
def nmeaTime (f : List Byte) : Option (Nat × Nat × Nat) :=
  let frac := match f.drop 6 with
    | [] => true
    | p :: zs => p.toNat == 0x2E && zs.all fun b => b.toNat == 0x30
  match decimal 2 (f.take 2), decimal 2 ((f.drop 2).take 2), decimal 2 ((f.drop 4).take 2) with
  | some h, some m, some sec => if frac then some (h, m, sec) else none
  | _, _, _ => none

/-- Year, month and day of a sentence; the two-digit year of RMC lies in 2000 to 2099 (R96). -/
def nmeaDate (rmc : Bool) (fs : List (List Byte)) : Option (Nat × Nat × Nat) :=
  if rmc then
    let f := fs.getD 9 []
    match decimal 2 (f.take 2), decimal 2 ((f.drop 2).take 2), decimal 2 (f.drop 4) with
    | some d, some m, some y => some (2000 + y, m, d)
    | _, _, _ => none
  else
    match decimal 2 (fs.getD 2 []), decimal 2 (fs.getD 3 []), decimal 4 (fs.getD 4 []) with
    | some d, some m, some y => some (y, m, d)
    | _, _, _ => none

/-- The UTC seconds that a sentence names, if it parses. -/
def nmeaUtc (rmc : Bool) (bs : List Byte) : Option Nat :=
  let fs := splitOn 0x2C (nmeaBody bs)
  match nmeaDate rmc fs, nmeaTime (fs.getD 1 []) with
  | some (y, mo, d), some (h, mi, sec) => if dateOk y mo d h mi sec then some (utcSeconds y mo d h mi sec) else none
  | _, _ => none

/-- Status A of an RMC sentence. -/
def rmcActive (bs : List Byte) : Bool := ((splitOn 0x2C (nmeaBody bs)).getD 2 []).map (·.toNat) == [0x41]

/-- An NMEA sentence of an accepted type.  Of several failing checks the first in the order 7, 1, 2, 3 gives the code (log entry
70). -/
def State.todNmea (s : State) (rmc : Bool) (bs : List Byte) (arr : Nat) : State :=
  if ¬ pairOk s then s.todReject 7
  else if ¬ nmeaSumOk bs then s.todReject 1
  else match nmeaUtc rmc bs with
    | none => s.todReject 2
    | some utc =>
      if rmc ∧ ¬ rmcActive bs then s.todReject 3 else s.todPair ((utc : Int) + todUtc s).toNat arr none

/-- What a binary frame brings besides its second: its leap flags, and TAI − UTC while UTC_VALID is 1 (R97). -/
def binExtra (bs : List Byte) : Nat × Option Int :=
  let flags := (bs.getD 3 0).toNat
  (flags / 2 % 4, if bitsOf flags 3 3 = 1 then some (toSigned 16 (natLE ((bs.drop 10).take 2))) else none)

/-- The binary frame (R97); the codes of several failing checks as for NMEA (log entry 70). -/
def State.todBinary (s : State) (bs : List Byte) (arr : Nat) : State :=
  let flags := (bs.getD 3 0).toNat
  if ¬ pairOk s then s.todReject 7
  else if crc16 (bs.take 14) ≠ natLE (bs.drop 14) then s.todReject 1
  else if bs.length ≠ 16 ∨ (bs.getD 2 0).toNat ≠ 1 ∨ bitsOf flags 7 4 ≠ 0 ∨ (bs.getD 13 0).toNat ≠ 0 then s.todReject 2
  else if bitsOf flags 0 0 = 0 then s.todReject 3
  else s.todPair (natLE ((bs.drop 4).take 6)) arr (some (binExtra bs))

/-- The format that a message's start shows (R563): 0 ZDA, 1 RMC, 2 the binary frame. -/
def todFormat (bs : List Byte) : Option Nat :=
  if (bs.take 2).map (·.toNat) = [0xA5, 0x5A] then some 2 else nmeaType bs

/-- A complete message at TOD_RX (R93 to R97): one of no accepted format is ignored (R563). -/
def State.todMessage (s : State) (m : TodMsg) (arr : Nat) : State :=
  match todFormat m with
  | none => s
  | some f =>
    if ¬ s.bit SYS.TOD_CFG_EN ∨ ¬ fmtTakes s f then s
    else if f = 2 then s.todBinary m arr
    else s.todNmea (f == 1) m arr

/-- The following edge of a LABEL NEXT message arrives (R93); the pairing must still be valid (R92). -/
def State.todEdge (s : State) (k stamp : Nat) : State :=
  match s.tod.next with
  | some (r, sec, x) =>
    if k = r ∧ s.bit SYS.TOD_CFG_EN then (if pairOk s then s.todAccept sec stamp x else s.todReject 7) else s
  | none => s

/-- LOS_DETECT (R54, R77, R93). -/
def State.losDetect (s : State) (k : Nat) : State :=
  if (s.monAt k).st = .absent ∨ (s.monAt k).los ∨ ¬ losDue s k then s else (s.losSet k).todLos k

/-- LOSS_S seconds without an accepted message (R94). -/
def State.todLoss (s : State) : State :=
  let lim := max 1 (s.fld SYS.TOD_CFG2_LOSS_S) * 1000000000
  let late := match s.tod.acceptAt with
    | some a => decide (a + lim ≤ s.now)
    | none => false
  if late then { s with tod := { s.tod with valid := false, confirmed := 0, prevSec := none } } else s

/-- A write of TOD_CFG (R94, R97): EN, and a change of PAIR_REF, which ends a message's wait for an edge of the old reference
(log entry 11). -/
def State.todCfgWritten (s o : State) : State :=
  let s := if pairRef s = pairRef o then s else { s with tod := { s.tod with next := none } }
  if s.bit SYS.TOD_CFG_EN then
    if o.bit SYS.TOD_CFG_EN then s
    else { s with tod := { s.tod with confirmed := 0, lastErr := 0, prevSec := none, next := none } }
  else { s with tod := { s.tod with valid := false, confirmed := 0, next := none, utcFrame := none } }

/-- UTC_SRC written 0: TOD_UTC_OFS is used again until another frame brings TAI − UTC (R97). -/
def State.todUtcSrc (s : State) : State :=
  if s.bit SYS.TOD_CFG2_UTC_SRC then s else { s with tod := { s.tod with utcFrame := none } }

end Sys2Proof.Machine
end

