-- ==== Sys2Proof/Machine/Tk.lean ====
section
/-! DEFINITION. The time keepers: the tick, acquisition, servo, steps, loading, leap seconds (08: R270 to R287). -/
namespace Sys2Proof.Machine

def TState.code : TState → Nat
  | .stopped => 0
  | .free => 1
  | .acquire => 2
  | .track => 3
  | .holdover => 4

def State.tkAt (s : State) (t : Nat) : TimeKeeper := vat s.tk t
def State.tkUp (s : State) (t : Nat) (f : TimeKeeper → TimeKeeper) : State := { s with tk := vup s.tk t f }

def tkSrc (s : State) (t : Nat) : Nat := s.fld (TK.TK_CTRL_SRC t)
def acqN (s : State) (t : Nat) : Nat := max 1 (s.fld (TK.SERVO_CFG_ACQ_N t))
def tkLoss (s : State) (t : Nat) : Nat := max 1 (s.fld (TK.SERVO_CFG_LOSS_S t)) * 1000000000
def stepThr (s : State) (t : Nat) : Nat := max 1 (s.effWide (TK.STEP_THR t) 2) * 1000
def tkSlewF (s : State) (t : Nat) : Int := (min 1000 (max 1 (s.reg (TK.SLEW t))) * 100000 * 2 ^ 40 : Nat)

/-- IN_VALID (R278). -/
def inValid (s : State) (t : Nat) : Bool :=
  let c := tkSrc s t
  if 1 ≤ c ∧ c ≤ 4 then ptpServes s (c - 1) t
  else if c = 5 then s.tod.valid && (s.monAt (pairRef s)).st.usable
  else if c = 6 then s.cas.upUp && !s.cas.isMaster
  else false

/-- TK_STAT.CFG_ERR (R272, R274, R278). -/
def tkCfgErr (s : State) (t : Nat) : Bool :=
  let c := tkSrc s t
  (s.tkAt t).incErr || (s.tkAt t).enErr ||
    (decide (1 ≤ c) && decide (c ≤ 4) && s.fld (PTI.INST_CTRL_TK_SEL (c - 1)) != t)

/-- r of R271 in 2^-40 ppt. -/
def tkRate (s : State) (k : TimeKeeper) : Int := (s.domAt k.dom).freqF - s.loa.termF + k.adjF

/-- INC_EFF (R271) in 2^-80 ns per tick, with what rounding left over the last time. -/
def effInc (s : State) (t : Nat) : Int :=
  let k := s.tkAt t
  k.inc * 2 ^ 40 + (k.inc * tkRate s k + k.resid).fdiv 1000000000000

/-- What rounding INC_EFF leaves for the next epoch (R271). -/
def effRest (s : State) (t : Nat) : Int :=
  let k := s.tkAt t
  (k.inc * tkRate s k + k.resid).fmod 1000000000000

/-- INC_EFF is recomputed (R271). -/
def State.tkRetune (s : State) (t : Nat) : State := s.tkUp t fun k => { k with eff := effInc s t, resid := effRest s t }

/-- Does a time keeper tick?  Not while it is stopped, and not in NAP (R274, R285). -/
def TimeKeeper.ticks (k : TimeKeeper) : Bool := k.st != .stopped && k.napAt.isNone

/-- The increment per tick in force. -/
def TimeKeeper.pace (k : TimeKeeper) : Int := if k.ticks then k.eff else 0

/-- The time keeper changes its rate or its time at the present tick: stamps from before it are taken on the time and the
increment of before (R273). -/
def State.tkMark (s : State) (t : Nat) : State := s.tkUp t fun k => { k with before := some (s.now, k.time, k.pace) }

/-- Ticks of the 500 MHz clock that fall into dt ns from the present instant. -/
def ticksIn (s : State) (dt : Nat) : Nat := (s.now + dt) / 2 - s.now / 2

/-- The time advances by the ticks of dt ns (R271); a stopped time keeper holds. -/
def State.tkAdvance (s : State) (dt : Nat) : State :=
  let n := ticksIn s dt
  { s with tk := s.tk.map fun k => { k with time := k.time + k.pace * n } }

/-- The time at an MTB stamp in ps, interpolated from a tick at `at'` ns with its time and increment. -/
def interpolate (stamp at' : Nat) (time eff : Int) : Int := time + (((stamp : Int) - (at' / 2 * 2000 : Nat)) * eff).fdiv 2000

/-- The time keeper's time in 2^-80 ns at an MTB stamp in ps (R273), with the increment current at the stamp. -/
def stampTime (s : State) (t stamp : Nat) : Int :=
  let k := s.tkAt t
  match k.before with
  | some (at', time, eff) =>
    if stamp < at' / 2 * 2000 then interpolate stamp at' time eff else interpolate stamp s.now k.time k.pace
  | none => interpolate stamp s.now k.time k.pace

/-- The same in whole ps (R273: resolution 1 ps). -/
def stampPs (s : State) (t stamp : Nat) : Int := (stampTime s t stamp * 1000).fdiv (2 ^ 80)

/-- May a measurement stamped at an MTB instant in ps be used?  Not one from before, or from, the tick of the last step (R276,
R286); a LOAD sets the time as a step does. -/
def TimeKeeper.uses (k : TimeKeeper) (stamp : Nat) : Bool :=
  match k.jump with
  | some j => decide (j / 2 < stamp / 2000)
  | none => true

/-- The stamp in ps of a measurement that may be used. -/
def stampOf (s : State) (t stamp : Nat) : Option Int :=
  if (s.tkAt t).uses stamp then some (stampPs s t stamp) else none

/-- An event of source 92 + 2t or 93 + 2t (HIST_SEL). -/
def State.tkEvent (s : State) (t old : Nat) (alarm : Bool) (sev : Severity) (cause : Nat) : State :=
  s.raise (92 + 2 * t + (if alarm then 1 else 0)) sev cause ((s.tkAt t).st.code * 8192 + old * 1024)

/-- LEAP60 is shown while an inserted second alone is announced (R283, R284). -/
def State.leapCheck (s : State) (t : Nat) : State :=
  if s.bit (TK.LEAP_LEAP61 t) && !s.bit (TK.LEAP_LEAP59 t) then s else s.tkUp t fun k => { k with leap60 := none }

/-- The stamps that a port's exchanges have taken on a time keeper are not used after its step (R276). -/
def EthPort.unstamp (x : EthPort) : EthPort :=
  { x with sync := x.sync.map fun p => { p with t2 := none }, lastSync := none, pdPairs := [],
           dreq := x.dreq.map fun q => { q with sent := none }, pdreq := x.pdreq.map fun q => { q with sent := none },
           pdresp := x.pdresp.map fun p => { p with t4 := none } }

/-- The time keeper that stamps the messages of port n (R298). -/
def portTk (s : State) (n : Nat) : Nat := s.fld (PTI.INST_CTRL_TK_SEL (s.ethAt n).inst)

/-- The time is set to `time` by a step or LOAD: a grid change for the pulse generators of the time keeper (R258), which
clears the leap flags (R284) and ends the use of what was measured before it (R276). -/
def State.tkJump (s : State) (t : Nat) (time : Int) : State :=
  let d := time - (s.tkAt t).time
  let s := s.tkMark t
  let s := s.tkUp t fun k =>
    { k with time := time, jump := some s.now, wake := false, leap60 := none, meas := none, onTime := none }
  let s := (List.range 8).foldl (fun u p =>
    if u.fld (PG.PG_CTRL_TK_SEL p) = t ∧ (vat u.pg p).st ≠ .idle then
      ({ u with pg := vup u.pg p fun g => { g with after := time, trail := g.trail.map (· + d) } }).flag (PG.PG_EVT_TK_STEP p)
    else u) s
  let s := (List.range 8).foldl (fun u n => if portTk u n = t then u.ethUp n EthPort.unstamp else u) s
  let s := (s.setShared (TK.LEAP_LEAP61 t) 0).setShared (TK.LEAP_LEAP59 t) 0
  s.bump (TK.STEP_CNT t)

/-- The step by a number of ps that ends an acquisition (R276). -/
def State.tkStep (s : State) (t : Nat) (ps : Int) : State :=
  let s := s.tkUp t fun k => { k with step := ps }
  let s := (s.tkJump t ((s.tkAt t).time + (ps * 2 ^ 80).fdiv 1000)).flag (TK.TK_EVT_STEP t)
  s.tkEvent t TState.acquire.code false .info 1

/-- The servo on one offset in ps (R277). -/
def State.tkServo (s : State) (t : Nat) (ofs : Int) (dt : Nat) : State :=
  let bw := min 10000 (max 1 (s.reg (TK.SERVO_BW t)))
  let c : Nat := 2918151570285660184
  let e := -ofs
  let i := (s.tkAt t).integF + (e * (c * c * bw * bw * min dt 1000000000 : Nat)).fdiv (1000000000000000 * 2 ^ 80)
  let a := i + (e * (2 * c * bw : Nat)).fdiv (1000 * 2 ^ 20)
  let lim := tkSlewF s t
  let clip := decide (lim < a.natAbs)
  let cl := fun (v : Int) => if clip then max (-lim) (min lim v) else v
  s.tkUp t fun k =>
    { k with integF := cl i, adjF := cl a, clipped := clip,
             clipSince := if clip then some (k.clipSince.getD s.now) else none, clipDone := k.clipDone && clip && k.clipSince.isSome }

/-- The end of an acquisition: the step decision (R275, R276). -/
def State.tkAcquired (s : State) (t : Nat) : State :=
  let k := s.tkAt t
  let n := acqN s t
  let l := k.acq.take n
  let sum := sumInt l
  let go := k.budget && decide (stepThr s t * n < sum.natAbs)
  let s := s.tkUp t fun k => { k with st := .track, budget := false, acq := [], rangeDone := false }
  if go then s.tkStep t (rnear 40 (-sum) n) else s

/-- RANGE in TRACK (R280). -/
def State.tkRange (s : State) (t : Nat) (ofs : Int) : State :=
  let thr := stepThr s t
  if ofs.natAbs * 2 ≤ thr then s.tkUp t fun k => { k with rangeDone := false }
  else if thr < ofs.natAbs ∧ ¬ (s.tkAt t).rangeDone then
    let s := (s.tkUp t fun k => { k with rangeDone := true }).flag (TK.TK_EVT_RANGE t)
    s.tkEvent t (s.tkAt t).st.code true .warn 4
  else s

/-- One collected measurement in ACQUIRE (R276, R277). -/
def State.tkCollect (s : State) (t : Nat) (ofs : Int) (dt : Nat) : State :=
  let s := s.tkUp t fun k => { k with acq := k.acq ++ [ofs] }
  let s := if (s.tkAt t).budget then s else s.tkServo t ofs dt
  if acqN s t ≤ (s.tkAt t).acq.length then s.tkAcquired t else s

/-- The latest measurement of the epoch reaches the time keeper (R274, R277). -/
def State.tkTake (s : State) (t : Nat) : State :=
  let k := s.tkAt t
  match k.meas with
  | none => s
  | some (ofs, at') =>
    let dt := match k.lastMeas with
      | some l => at' - l
      | none => 1000000000
    let s := s.tkUp t fun k =>
      { k with meas := none, ofs := ofs, lastMeas := some at', lossFrom := at' }
    match k.st with
    | .stopped => s
    | .free => (s.tkUp t fun k => { k with st := .acquire, acq := [] }).tkCollect t ofs dt
    | .holdover => (s.tkUp t fun k => { k with st := .acquire, acq := [], budget := true }).tkCollect t ofs dt
    | .acquire => s.tkCollect t ofs dt
    | .track => (s.tkServo t ofs dt).tkRange t ofs

/-- A measurement arrives, its offset none where its stamp may not be used; several in one epoch leave the latest (R277,
R278). -/
def State.tkMeasure (s : State) (t : Nat) (ofs : Option Int) : State :=
  match ofs with
  | some x => if inValid s t ∧ (s.tkAt t).st ≠ .stopped then s.tkUp t fun k => { k with meas := some (x, s.now) } else s
  | none => s

/-- The time keeper at an epoch edge: binding, increment, measurement, INC_EFF (R271, R272, R286). -/
def State.tkEpoch (s : State) (t : Nat) : State :=
  let d := s.fld (TK.TK_CTRL_DOM t)
  let s := (s.tkMark t).tkUp t fun k =>
    let k := if d < 6 then { k with dom := d } else k
    match k.incNew with
    | none => k
    | some 0 => { k with incNew := none, incErr := true }
    | some v => { k with incNew := none, inc := v, incErr := false }
  (s.tkTake t).tkRetune t

/-- An on-time edge is stamped by every time keeper as it comes, with its IN_DELAY (R273, R278). -/
def State.tkOnTime (s : State) (k stamp : Nat) : State :=
  let at' := ((stamp : Int) - (s.trkAt k).delay).toNat
  (List.range 4).foldl (fun u t =>
    u.tkUp t fun x => { x with onTime := (stampOf u t at').map fun v => (stamp, v) }) s

/-- PPS with time of day (R278): the stamp of the labelled edge minus the second. -/
def State.tkLabel (s : State) (edge sec : Nat) : State :=
  (List.range 4).foldl (fun u t =>
    if tkSrc u t = 5 then
      u.tkMeasure t (match (u.tkAt t).onTime with
        | some (e, v) => if e = edge then some (v - sec * 1000000000000) else none
        | none => none)
    else u) s

/-- UTC_OFS as a field: a software write in the same cycle wins (R286). -/
def utcField (t : Nat) : Field := ⟨TK.UTC_OFS t, 15, 0⟩

/-- UTC offset and leap flags from the servo input (R283). -/
def State.tkUtc (s : State) (t : Nat) (utc : Option Int) (leap61 leap59 : Bool) : State :=
  if s.bit (TK.TK_CTRL_UTC_SRC t) then
    let s := match utc with
      | some v => s.setShared (utcField t) (ofSigned 16 v)
      | none => s
    ((s.setShared (TK.LEAP_LEAP61 t) leap61.toNat).setShared (TK.LEAP_LEAP59 t) leap59.toNat).leapCheck t
  else s

/-- A ToD binary frame brings UTC data to the time keepers that take their servo input from it (R97, R283). -/
def State.tkTodUtc (s : State) (x : Option (Nat × Option Int)) : State :=
  match x with
  | none => s
  | some (leap, utc) =>
    (List.range 4).foldl (fun u t =>
      if tkSrc u t = 5 then u.tkUtc t utc (leap % 2 == 1) (leap / 2 % 2 == 1) else u) s

/-- A label newly given to an on-time edge reaches the time keepers. -/
def State.todServe (s old : State) : State :=
  if s.tod.label = old.tod.label then s
  else match s.tod.label with
    | none => s
    | some (e, sec) => s.tkLabel e sec

/-- A label newly accepted reaches the time keepers, with the frame's UTC data (R97, R278, R283). -/
def State.todPass (t s : State) (x : Option (Nat × Option Int)) : State :=
  (if t.tod.label = s.tod.label then t else t.tkTodUtc x).todServe s

/-- TOD_MESSAGE (R93). -/
def State.todTake (s : State) (m : TodMsg) (stamp : Nat) : State :=
  (s.todMessage m stamp).todPass s (if todFormat m = some 2 then some (binExtra m) else none)

/-- The on-time edge that a LABEL NEXT message waits for (R93). -/
def State.todMark (s : State) (k stamp : Nat) : State :=
  (s.todEdge k stamp).todPass s (s.tod.next.bind fun x => x.2.2)

/-- An on-time edge reaches its monitor and the time-of-day receiver. -/
def State.onTimeEdge (s : State) (k stamp : Nat) : State :=
  let s := s.pulseEdge k stamp
  (if k = pairRef s then s.tkOnTime k stamp else s).todMark k stamp

/-! ### Commands -/

/-- EN written 1 in STOPPED (R274); during start-up it waits for step 6 of R454. -/
def State.tkEnable (s : State) (t : Nat) : State :=
  if (s.tkAt t).st ≠ .stopped ∨ s.pwr.st = .boot then s
  else
    let d := s.fld (TK.TK_CTRL_DOM t)
    if 6 ≤ d then s.tkUp t fun k => { k with enErr := true }
    else
      let s := (s.tkMark t).tkUp t fun k =>
        { k with st := .free, budget := true, enErr := false, dom := d, acq := [], meas := none, lastMeas := none }
      s.tkRetune t

/-- EN written 0 (R274). -/
def State.tkDisable (s : State) (t : Nat) : State :=
  (s.tkMark t).tkUp t fun k =>
    { k with st := .stopped, integF := 0, adjF := 0, clipped := false, clipSince := none, clipDone := false, acq := [],
             meas := none, enErr := false }

/-- The servo stops acting: ADJ falls to the integrator's value, nothing is collected, and CLIPPED ends (R274, R279). -/
def TimeKeeper.drift (k : TimeKeeper) (st : TState) : TimeKeeper :=
  { k with st := st, adjF := k.integF, acq := [], meas := none, clipped := false, clipSince := none, clipDone := false }

/-- Entry to HOLDOVER (R279). -/
def State.tkHoldover (s : State) (t : Nat) : State :=
  let old := (s.tkAt t).st.code
  let s := s.tkUp t fun k => k.drift .holdover
  ((s.flag (TK.TK_EVT_LOST t)).bump (TK.HO_CNT t)).tkEvent t old true .warn 3

/-- The last valid measurement, one that waits for the epoch edge included. -/
def TimeKeeper.heard (k : TimeKeeper) : Nat :=
  match k.meas with
  | some (_, at') => at'
  | none => k.lossFrom

/-- TK_INPUT_LOSS (R279). -/
def State.tkLost (s : State) (t : Nat) : State :=
  let k := s.tkAt t
  if (k.st = .acquire ∨ k.st = .track) ∧ k.heard + tkLoss s t ≤ s.now then s.tkHoldover t else s

/-- TK_CLIP_ALARM (R280). -/
def State.tkClipAlarm (s : State) (t : Nat) : State :=
  let k := s.tkAt t
  let lim := s.fld (TK.SERVO_CFG_CLIP_S t) * 1000000000
  let due := match k.clipSince with
    | some a => decide (a + lim ≤ s.now)
    | none => false
  if k.clipped && due && lim != 0 && !k.clipDone then
    let s := (s.tkUp t fun k => { k with clipDone := true }).flag (TK.TK_EVT_CLIP t)
    s.tkEvent t k.st.code true .warn 5
  else s

/-- REARM written 1 (R274, R275).  From FREE and HOLDOVER, where no loss is timed, LOSS_S runs from the write (DESIGN CHOICE, log
entry 87). -/
def State.tkRearm (s : State) (t : Nat) : State :=
  let ok := inValid s t
  s.tkUp t fun k =>
    match k.st with
    | .stopped => k
    | .acquire => { k with budget := true }
    | .track => if ok then { k with budget := true, st := .acquire, acq := [] } else { k with budget := true }
    | _ => if ok then { k with budget := true, st := .acquire, acq := [], lossFrom := s.now } else { k with budget := true }

/-- LOAD written 1 (R281). -/
def State.tkLoad (s : State) (t : Nat) : State :=
  let k := s.tkAt t
  let ns := s.effWide (TK.LD_NS t) 2
  if (k.st = .stopped ∨ k.st = .free) ∧ ns < 1000000000 then
    (s.tkJump t ((s.effWide (TK.LD_SEC t) 3 * 1000000000 + ns : Nat) * 2 ^ 80)).tkEvent t k.st.code false .info 2
  else s.flag (TK.TK_EVT_LOAD_REFUSED t)

/-- SRC set to NONE (R274). -/
def State.tkSrcWritten (s : State) (t : Nat) : State :=
  if tkSrc s t = 0 ∨ tkSrc s t = 7 then
    s.tkUp t fun k =>
      if k.st = .acquire ∨ k.st = .track ∨ k.st = .holdover then k.drift .free else { k with meas := none }
  else s.tkUp t fun k => { k with meas := none }

/-- INC_FRAC2 written: the staged increment applies at the next epoch edge (R272). -/
def State.tkIncWritten (s : State) (t : Nat) : State :=
  let v := s.fld (TK.INC_NS_INC_NS t) * 2 ^ 40 + s.wide (TK.INC_FRAC t) 3 % 2 ^ 40
  s.tkUp t fun k => { k with incNew := some v }

/-- TAI seconds of a time keeper. -/
def tkSec (s : State) (t : Nat) : Int := (s.tkAt t).time.fdiv (1000000000 * 2 ^ 80)

/-- LEAP_SECOND (R284): the second in which UTC reads 23:59:60 begins or ends, or 23:59:59 is skipped. -/
def State.tkLeap (s : State) (t : Nat) : State :=
  let sec := tkSec s t
  let utc := toSigned 16 (s.reg (TK.UTC_OFS t))
  let l61 := s.bit (TK.LEAP_LEAP61 t)
  let l59 := s.bit (TK.LEAP_LEAP59 t)
  if l61 = l59 then s.leapCheck t
  else if l61 then
    match (s.tkAt t).leap60 with
    | some x =>
      if (x : Int) < sec then
        let s := (s.setShared (utcField t) (ofSigned 16 (utc + 1))).setShared (TK.LEAP_LEAP61 t) 0
        s.tkUp t fun k => { k with leap60 := none }
      else s
    | none => if (sec - utc) % 86400 = 0 then s.tkUp t fun k => { k with leap60 := some sec.toNat } else s
  else if (sec - utc) % 86400 = 86399 then
    (s.setShared (utcField t) (ofSigned 16 (utc - 1))).setShared (TK.LEAP_LEAP59 t) 0
  else s

/-- Entry to NAP: each running time keeper records its time and stops ticking (R285). -/
def State.tksNap (s : State) : State :=
  let s := (List.range 4).foldl State.tkMark s
  { s with tk := s.tk.map fun k =>
      if k.st = .stopped then { k with napAt := none } else { k with napAt := some (k.time, s.now) } }

/-- Return from NAP: the time from the record and the MTB advance, then HOLDOVER (R285). -/
def State.tksWake (s : State) : State :=
  (List.range 4).foldl (fun u t =>
    match (u.tkAt t).napAt with
    | none => u
    | some (x, m) =>
      let u := (u.tkMark t).tkUp t fun k =>
        { k with time := x + ((u.now - m) * k.inc * 2 ^ 40 / 2 : Nat), wake := true, napAt := none, onTime := none }
      u.tkHoldover t) s

end Sys2Proof.Machine
end

