-- ==== Sys2Proof/Machine/Out.lean ====
section
/-! DEFINITION. Clock outputs: configuration, dividers, steps, cycle accounting, states, safe states; pulse generators and
their frames (07: R230 to R269; 01: R40, R41). -/
namespace Sys2Proof.Machine

def OState.code : OState → Nat
  | .off => 0
  | .aligning => 1
  | .run => 2
  | .gated => 3
  | .bypass => 4
  | .safe => 5
  | .test => 6
  | .parked => 7

def State.outAt (s : State) (n : Nat) : Output := vat s.outs n
def State.outUp (s : State) (n : Nat) (f : Output → Output) : State := { s with outs := vup s.outs n f }
def State.pgAt (s : State) (p : Nat) : Pg := vat s.pg p
def State.pgUp (s : State) (p : Nat) (f : Pg → Pg) : State := { s with pg := vup s.pg p f }

/-! ### Settings -/

/-- The synthesiser of an output; 7 where SRC_SYN names none (R233). -/
def outSyn (s : State) (n : Nat) : Nat := if s.fld (OUT.CFG_SRC_SYN n) < 6 then s.fld (OUT.CFG_SRC_SYN n) else 7
def isPulseOut (s : State) (n : Nat) : Bool := s.fld (OUT.CFG_MODE n) == 1
def outSafe (s : State) (n : Nat) : Nat := s.fld (OUT.CTRL_SAFE n)
def outEn (s : State) (n : Nat) : Bool := s.bit (OUT.CTRL_EN n)

/-- The highest output frequency of the format in Hz (R232). -/
def formatMax (s : State) (n : Nat) : Nat := if s.fld (OUT.CFG_FORMAT n) < 3 then 1500000000 else 250000000

/-- f_plan of a synthesiser's target divided by `div` lies above the format's limit (R235). -/
def overLimit (s : State) (n k div : Nat) : Bool :=
  let y := s.synAt k
  decide ((formatMax s n * div * 1000000 * 2 ^ 48 : Nat) < planHz y.pfd y.nNew)

/-- The time keeper of the generator named by PG_SEL follows the domain of SRC_SYN (R253). -/
def pgBound (s : State) (n : Nat) : Bool :=
  (s.tkAt (s.fld (PG.PG_CTRL_TK_SEL (s.fld (OUT.CTRL_PG_SEL n))))).dom == outSyn s n

/-- The configuration admits an enable (R230, R232, R233, R253, R504). -/
def outValid (s : State) (n : Nat) : Bool :=
  (decide (16 ≤ n) || s.fld (INM.IN_CFG_ROLE n) == 2) && decide (s.fld (OUT.CFG_FORMAT n) < 5) &&
    decide (outSyn s n < 6) && (!isPulseOut s n || pgBound s n) &&
    !(vat s.bist.units (19 + outSyn s n)).unusable && !(vat s.bist.units (26 + outSyn s n)).unusable

/-- STAT.CFG_ERR (R230 to R235, R253). -/
def outCfgErr (s : State) (n : Nat) : Bool :=
  let o := s.outAt n
  o.cfgErr || decide (2 ≤ s.fld (OUT.CFG_MODE n)) ||
    (o.st != .off && !isPulseOut s n && decide (o.div ≠ 0) && overLimit s n (outSyn s n) o.div) ||
    (o.st != .off && isPulseOut s n && !pgBound s n)

def synLocked (s : State) (k : Nat) : Bool := (s.synAt k).st == .locked || (s.synAt k).st == .glide

/-- The value of BYP_DIV that its writes left applied (R250). -/
def bypShadow (s : State) (n : Nat) : Nat := s.effWide (OUT.BYP_DIV n) 2

/-- The bypass divider in force: one written during BYPASS waits until the output leaves it (R250). -/
def bypDivOf (s : State) (n : Nat) : Nat := if (s.outAt n).st = .bypass then (s.outAt n).bypDiv else bypShadow s n

/-- The bypass source is configured and gives a clock (R250, R252). -/
def bypReady (s : State) (n : Nat) : Bool :=
  !isPulseOut s n && decide (2 ≤ bypDivOf s n) &&
    (s.fld (OUT.CTRL_BYP_SRC n) == 2 || (s.fld (OUT.CTRL_BYP_SRC n) == 1 && synLocked s 6))

/-- The output tree of output n is under self-test, or a unit whose test holds every output (R265, R501). -/
def treeTesting (s : State) (n : Nat) : Bool :=
  s.testing (19 + outSyn s n) || s.testing 43 || s.testing 44 || s.testing 47

/-! ### Coverage (R262, R476) -/

/-- The output is in bypass, or was when it was gated or took its safe state (log entry 23). -/
def Output.onByp (o : Output) : Bool := o.st == .bypass || (o.wasByp && (o.st == .gated || o.st == .safe))

/-- One severe latch with hardware effect and REACT = SAFE covers output n. -/
def latchCovers (s : State) (src n : Nat) : Bool :=
  let c := s.fltAt src
  latchActs s src c && clsReact s src &&
    match c.cover with
    | .none => false
    | .all => true
    | .doms ds => ds.any fun d => d == outSyn s n
    | .tree k => k == outSyn s n || (k == 6 && (s.outAt n).onByp && s.fld (OUT.CTRL_BYP_SRC n) == 1)
    | .outs l => l.contains n

/-- STAT.COVERED and SAFE_SUM (R262): a latch covers the output, or SAFE_N is held low (R484). -/
def covered (s : State) (n : Nat) : Bool := s.pads.safeLow || (List.range 128).any fun src => latchCovers s src n

/-! ### Cycles (R40, R236, R240, R245 to R251) -/

/-- A VCO period, a phase step (a VCO period / 32, R240) and eight cycles of the tree clock (the VCO / 32, R189), in the units of
lengths of time: f_VCO·2^48·50 of them pass in 1 ns. -/
def vcoUnits : Nat := 50 * 2 ^ 48
def stepUnits : Nat := 50 * 2 ^ 43
def startWait : Nat := 8 * 32 * vcoUnits

/-- Cycles of the PFD in 50 ns. -/
def pfdRate (pfd : Nat) : Nat := 8 / 2 ^ (pfd % 4)

/-- One output period, and its low phase: DIV/2 VCO periods, (DIV − 1)/2 with an odd DIV; the high phase is the rest (R236). -/
def periodOf (div : Nat) : Nat := div * vcoUnits
def lowOf (div : Nat) : Nat := div / 2 * vcoUnits

/-- The length of a cycle that executes `step` phase steps, which fall into its low phase: no edge moves within a cycle, and the
high phase keeps its width (R240). -/
def lengthened (len : Nat) (step : Int) : Nat := ((len : Int) + step * stepUnits).toNat

/-- The cycles that begin in the `d` units after the end of the cycle in progress: how many of them end, the steps of STEP and
of DLY that they execute, one a cycle and STEP's first (R240, R243; log entry 14), what is left of the last one, and its step. -/
structure Begun where
  ended : Nat
  ofStep : Int
  ofDly : Int
  left : Nat
  step : Int
  deriving DecidableEq, Repr, Inhabited

def Output.begun (o : Output) (steps : Bool) (d : Nat) : Begun :=
  let p := max 1 (periodOf o.div)
  let m1 := if steps then o.stepPend.natAbs else 0
  let m2 := if steps then o.dlyPend.natAbs else 0
  let l1 := max 1 (lengthened p o.stepPend.sign)
  let l2 := max 1 (lengthened p o.dlyPend.sign)
  let j1 := d / l1
  if j1 < m1 then ⟨j1, o.stepPend.sign * (j1 + 1 : Nat), 0, l1 - d % l1, o.stepPend.sign⟩
  else
    let d := d - m1 * l1
    let j2 := d / l2
    if j2 < m2 then ⟨m1 + j2, o.stepPend.sign * m1, o.dlyPend.sign * (j2 + 1 : Nat), l2 - d % l2, o.dlyPend.sign⟩
    else
      let d := d - m2 * l2
      ⟨m1 + m2 + d / p, o.stepPend.sign * m1, o.dlyPend.sign * m2, p - d % p, 0⟩

/-- Executed steps move the step position; whole periods of it go to STEPPED_PERIODS (R241). -/
def Output.stepBy (o : Output) (ofStep ofDly : Int) : Output :=
  let per : Int := max 1 (32 * o.div)
  let sub := o.sub + ofStep + ofDly
  { o with stepPend := o.stepPend - ofStep, dlyPend := o.dlyPend - ofDly, sub := sub - per * sub.fdiv per,
           stepped := o.stepped + sub.fdiv per }

/-- `delta` units pass for an output whose due cycles are counted (R40): the cycle in progress counts as it began, the cycles
that begin count as emitted if they leave the pad, gated else; a whole period stepped is a due cycle too. -/
def Output.count (o : Output) (delta : Nat) (emits : Bool) : Output :=
  if delta < o.left then { o with left := o.left - delta }
  else
    let run := o.st == .run
    let b := o.begun run (delta - o.left)
    let first := if o.curEmit then 1 else 0
    let rest := if emits then b.ended else 0
    let t := o.stepBy b.ofStep b.ofDly
    { t with due := (((o.due + 1 + b.ended : Nat) : Int) + (t.stepped - o.stepped)).toNat,
             emit := o.emit + (first + rest : Nat), gated := o.gated + (1 + b.ended - first - rest),
             left := b.left, lowAt := lengthened (lowOf o.div) b.step, onTree := run, curEmit := emits }

/-- `delta` units pass for an output that counts no due cycle: the cycle on its pad completes (R249). -/
def Output.finish (o : Output) (delta : Nat) : Output :=
  if delta < o.left then { o with left := o.left - delta } else { o with left := 0, onTree := false, curEmit := false }

/-- `d` units pass for the bypass clock of `div`: its cycle on the pad completes, and further ones follow while it is supplied
to the pad, a cycle of the output's own tree completing before them (R216, R249; its duty as R236, log entry 81). -/
def Output.bypRun (o : Output) (supplied : Bool) (unit div d : Nat) : Output :=
  if d < o.bypLeft then { o with bypLeft := o.bypLeft - d }
  else if supplied && !o.onTree then
    let p := max 1 (div * unit)
    { o with bypLeft := p - (d - o.bypLeft) % p, bypLow := div / 2 * unit }
  else { o with bypLeft := 0, bypLow := 0 }

/-- The pad's signal is in its high phase: a pulse, or the high phase of a cycle (R236). -/
def Output.high (o : Output) : Bool :=
  (o.onTree && decide (o.lowAt < o.left)) || decide (o.bypLow < o.bypLeft) || decide (0 < o.pulse)

/-- At a low phase the driver setting and the fine delay that wait for one come into force (R232, R243). -/
def Output.lowPhase (o : Output) (passed : Bool) : Output :=
  if passed || !o.high then { o with drv := o.drvNext.getD o.drv, drvNext := none, fineNow := o.dlyFine } else o

/-- Due cycles leave the pad in this state (R248, R260). -/
def emitsNow (s : State) (n : Nat) : Bool :=
  match (s.outAt n).st with
  | .run => true
  | .bypass => true
  | .safe => outSafe s n == 3 && bypReady s n && !(s.outAt n).drvFault
  | _ => false

/-! ### Breeze drivers (R457 to R459) -/

/-- One second in 2^-40 ps, and 10^12 ppt in 2^-40 ppt. -/
def brzSec : Nat := 1000000000000 * 2 ^ 40

/-- The width of a PPS entry in 2^-40 ps (R457, EO_WIDTH). -/
def Breeze.high (b : Breeze) : Nat :=
  (if bitsOf b.ctrl 8 8 = 1 then 10 * max 1 (min 50000 b.width) else max 1 b.width) * 1000000 * 2 ^ 40

/-- The driver's signal at the model-corrected time t of the present second: a CLOCK entry completes `freq` cycles a second,
each high for its first half, and a PPS entry is high for its width from the second on (R457; log entry 96). -/
def Breeze.level (b : Breeze) (t : Nat) : Bool :=
  if bitsOf b.ctrl 14 14 = 1 then decide (t < b.high) else decide (2 * (t * b.freq % brzSec) < brzSec)

/-- What is left of the driver's cycle or pulse in progress, in 2^-40 ps of corrected time (R459). -/
def Breeze.left (b : Breeze) (t : Nat) : Nat :=
  if bitsOf b.ctrl 14 14 = 1 then b.high - t else cdiv (brzSec - t * b.freq % brzSec) (max 1 b.freq)

/-- The model-corrected time of dt ns of MTB time, in 2^-40 ps (R457). -/
def corrected (s : State) (dt : Nat) : Nat := ((dt * 1000 * 2 ^ 40 * brzSec : Nat) / ((brzSec : Int) + s.loa.termF)).toNat

/-- Breeze drivers over dt ns: one that stops does so at the end of its cycle or pulse. -/
def State.brzAdvance (s : State) (dt : Nat) : State :=
  let c := corrected s dt
  { s with pwr := { s.pwr with
      brzT := (s.pwr.brzT + c) % brzSec,
      brz := s.pwr.brz.map fun b => if b.stopping && decide (b.left s.pwr.brzT ≤ c) then { b with active := false, stopping := false } else b } }

/-- The Breeze driver that holds the output's port (R459). -/
def brzAt (s : State) (n : Nat) : Option Breeze := s.pwr.brz.toList.find? fun b => b.active && b.ctrl % 256 == n

def brzOn (s : State) (n : Nat) : Bool := (brzAt s n).isSome

/-- What is left of `delta` units in dt ns once the Breeze driver has handed the port over; none while it does not (R459). -/
def freeAfter (s : State) (n dt delta : Nat) : Option Nat :=
  match brzAt s n with
  | none => some delta
  | some b =>
    let c := corrected s dt
    let l := b.left s.pwr.brzT
    if b.stopping && decide (l ≤ c) then some (delta * (c - l) / max 1 c) else none

/-- The eight tree-clock cycles before a start edge run while the clock is valid and no Breeze driver holds the port, from the
handover instant on (R238, R248, R459). -/
def waitAfter (s : State) (n dt delta : Nat) : Nat :=
  if synLocked s (outSyn s n) then
    match freeAfter s n dt delta with
    | some d => (s.outAt n).wait - d
    | none => startWait
  else startWait

/-- One output over dt ns, `delta` units of its synthesiser's VCO and `rate6` units of SYNS in 1 ns. -/
def State.outAdvance (s : State) (n dt delta rate6 : Nat) : State :=
  let o := s.outAt n
  if o.st == .off && !o.busy then s
  else
    let counts := o.counting && !isPulseOut s n && o.div != 0 && o.st != .test && o.st != .parked && o.st != .off
    let t := if counts then o.count delta (emitsNow s n) else if o.onTree then o.finish delta else o
    let t := if o.st = .aligning then { t with wait := waitAfter s n dt delta } else t
    let onByp := o.st == .bypass || (o.st == .safe && emitsNow s n)
    let t :=
      if onByp || o.bypLeft != 0 then
        if s.fld (OUT.CTRL_BYP_SRC n) = 1 then t.bypRun onByp vcoUnits (bypDivOf s n) (dt * rate6)
        else t.bypRun onByp 25 (bypDivOf s n) (2 * dt)
      else t
    let k := s.tkAt (s.fld (PG.PG_CTRL_TK_SEL (s.fld (OUT.CTRL_PG_SEL n))))
    let t :=
      if 0 < o.pulse then
        { t with pulse := max 0 (o.pulse - (if k.ticks then k.eff * ticksIn s dt else (dt : Int) * 2 ^ 80)) }
      else t
    s.outUp n fun _ => t.lowPhase (decide (o.left ≤ delta))

/-- A glide moves by the PFD cycles of dt ns (R209). -/
def Synth.glideBy (y : Synth) (glide dt : Nat) : Synth :=
  if y.st = .glide then
    let c := y.pfdRem + dt * pfdRate y.pfd
    { y with glAcc := y.glAcc + glide * (c / 50), pfdRem := c % 50 }
  else y

/-- A base divider with the steering word and the model term in use (R190). -/
def Synth.steered (y : Synth) (n : Nat) : Int :=
  let a : Int := 1000000000000 * 2 ^ 40
  ((n : Int) * (a + y.fF) * 2 ^ 32).fdiv (a + y.mF)

/-- The effective divider of the present instant: the epoch's N_EFF, or in a glide N_cur with the same steering (R190, R209). -/
def Synth.nNow (y : Synth) : Nat :=
  if y.st = .glide ∨ y.glideLost then ((y.steered y.nCur).fdiv (2 ^ 32)).toNat else y.nEff

/-- VCO units in 1 ns. -/
def Synth.rate (y : Synth) : Nat := pfdRate y.pfd * y.nNow

/-- All outputs, glides and timebases over dt ns of MTB time (R40, R209, R237; log entry 13).  A reference whose pad its output
has left starts (R231). -/
def State.cyclesAdvance (s : State) (dt : Nat) : State :=
  let ys : Vector Synth 7 := Vector.ofFn fun (i : Fin 7) => (s.synAt i).glideBy (s.reg (SYN.GLIDE i)) dt
  let rate := fun k => ((s.synAt k).rate + (vat ys k).rate) / 2
  let s' := { s with syn := Vector.ofFn fun (i : Fin 7) => { vat ys i with acc := (vat ys i).acc + dt * rate i } }
  let t := (List.range 40).foldl (fun t n => t.outAdvance n dt (dt * rate (outSyn t n)) (rate 6)) s'
  (List.range 16).foldl (fun u n =>
    if (s.outAt n).busy && !(u.outAt n).busy && u.fld (INM.IN_CFG_ROLE n) != 2 then u.monReconfig n else u) t

/-! ### State changes -/

/-- An event of sources 88 to 91 (HIST_SEL word 5). -/
def State.outEvent (s : State) (src : Nat) (sev : Severity) (cause n : Nat) : State :=
  s.raise src sev cause (n * 256 + (s.outAt n).st.code * 32) 0 [n]

/-- Gating (R248): GATE_CNT, EVT.GATE and source 88.  `again` says whether an output that was in bypass may transfer again
(R217, R223). -/
def State.outGate (s : State) (n : Nat) (again : Bool := true) : State :=
  let o := s.outAt n
  if o.st = .run ∨ o.st = .bypass ∨ o.st = .aligning then
    let s := s.outUp n fun o =>
      { o with st := .gated, gatedAt := s.now, wasByp := o.st == .bypass, noByp := o.st == .bypass && !again }
    ((s.bump (OUT.GATE_CNT n)).flag (OUT.EVT_GATE n)).outEvent 88 .warn 1 n
  else s

/-- The outputs of a tree are gated (R212, R215); those in bypass stay there. -/
def State.gateTree (s : State) (k : Nat) : State :=
  (List.range 40).foldl (fun t n => if outSyn t n = k ∧ (t.outAt n).st = .run then t.outGate n else t) s

/-- The outputs in bypass on SYNS are gated: at a loss of lock they do not transfer again (R217), at a relock they resume after
it (R223). -/
def State.gateSyns (s : State) (again : Bool := false) : State :=
  (List.range 40).foldl (fun t n =>
    if (t.outAt n).st = .bypass ∧ t.fld (OUT.CTRL_BYP_SRC n) = 1 then t.outGate n again else t) s

/-- An output enters ALIGNING (R238, R248). -/
def Output.align (o : Output) (resume : Bool) : Output :=
  { o with st := .aligning, resume := resume, wasByp := false, noByp := false, wait := startWait }

/-- A gated or bypassed output whose divider its format admits returns through ALIGNING (R218, R235, R248). -/
def State.outResume (s : State) (n k : Nat) : State :=
  let o := s.outAt n
  if (o.st = .gated ∨ o.st = .bypass) ∧ (isPulseOut s n ∨ ¬ overLimit s n k o.div) then s.outUp n fun o => o.align true
  else s

/-- The clock is valid again: the outputs of the tree return (R218, R248). -/
def State.resumeTree (s : State) (k : Nat) : State :=
  (List.range 40).foldl (fun t n => if outSyn t n = k then t.outResume n k else t) s

/-- An output that may start does (R231, R234, R238, R248), to TEST while its tree is under test (R265) and to SAFE while its
driver fault is live (R264); `report` sets CFG_ERR where it may not, in every power state (R230, R233, R253). -/
def State.outTryStart (s : State) (n : Nat) (report : Bool) : State :=
  let o := s.outAt n
  if o.st ≠ .off ∨ ¬ outEn s n then s
  else if ¬ outValid s n then (if report then s.outUp n fun o => { o with cfgErr := true } else s)
  else if s.pwr.st ≠ .run ∨ s.pwr.holdup then (if report then s.outUp n fun o => { o with cfgErr := false } else s)
  else if ¬ isPulseOut s n ∧ o.div = 0 then s
  else
    let test := treeTesting s n
    let s := if !test && o.drvFault then s.bump (OUT.GATE_CNT n) else s
    s.outUp n fun o =>
      let o := { o.align false with fresh := true, counting := false, cfgErr := false }
      if test then { o with st := .test } else if o.drvFault then { o with st := .safe, hot := false } else o

/-- EN written 0, ROLE taken away or DIV = 0 at A: the output stops, and the cycle or pulse in progress completes on its pad
(R231, R238, R248, R249). -/
def State.outStop (s : State) (n : Nat) : State :=
  s.outUp n fun o =>
    if o.st = .off then o else { o with st := .off, counting := false, fresh := true, resume := false }

/-- Where the edges of output n lie on its synthesiser's grid: the executed steps of STEP and DLY (R237, R241, R243). -/
def Output.shift (o : Output) : Int :=
  (if o.fresh then o.dlyWhole - o.dlyPend else o.sub + o.dlyBase) * stepUnits

/-- VCO units from the present instant to the next grid edge of output n (R237): the next due cycle's begin, or for an output
that counts none the domain timebase's next whole period, counted from MTB zero.  In pulse mode the start edge is an edge of
the VCO (log entry 82). -/
def toGrid (s : State) (n : Nat) : Nat :=
  let o := s.outAt n
  let acc : Int := (s.synAt (outSyn s n)).acc
  if isPulseOut s n then ((-acc).fmod vcoUnits).toNat
  else if o.counting then o.left
  else ((o.shift - acc).fmod (max 1 (periodOf o.div))).toNat

/-- VCO units to the start edge: the first grid edge after the eight tree-clock cycles and after the cycle that is still on the
pad (R238, R249). -/
def toStart (s : State) (n : Nat) : Nat :=
  let o := s.outAt n
  let x := toGrid s n
  let w := if o.onTree && !o.counting then max o.wait o.left else o.wait
  let p := if isPulseOut s n then vcoUnits else max 1 (periodOf o.div)
  if w ≤ x then x else x + cdiv (w - x) p * p

/-- Output n waits for its start edge alone: ALIGNING, its clock valid, no Breeze driver and no bypass cycle on its pad, no strobe
on its way (R266), its frequency within its format's limit (R235). -/
def mayStartEdge (s : State) (n : Nat) : Bool :=
  let o := s.outAt n
  let k := outSyn s n
  o.st == .aligning && synLocked s k && !brzOn s n && o.bypLeft == 0 && !(s.synAt k).update &&
    (isPulseOut s n || !overLimit s n k o.div)

/-- The start edge (R238, R245, R248): the output runs, with a full-width cycle of which `ago` units have passed. -/
def State.outStart (s : State) (n ago : Nat) : State :=
  let o := s.outAt n
  let back := o.resume
  let left := if isPulseOut s n then 0 else periodOf o.div - ago
  let s := s.outUp n fun o =>
    let o := { o with st := .run, resume := false }
    let o := if o.counting then o else { o with left := left, lowAt := lowOf o.div }
    let o := if o.fresh then
        { o with due := 0, emit := 0, gated := 0, sub := 0, stepped := 0, dlyBase := o.dlyWhole - o.dlyPend }
      else o
    { o with fresh := false, counting := true, curEmit := true, onTree := decide (o.left ≠ 0) }
  if back then (s.flag (OUT.EVT_ALIGNED n)).outEvent 91 .info 4 n else s

/-- BYPASS_TRANSFER (R216, R217, R223, R250): after BYP_WAIT of gating, or after the relock of a SYNS that carried the output. -/
def State.outBypass (s : State) (n : Nat) : State :=
  let o := s.outAt n
  let k := outSyn s n
  let wait := min 10000 (s.fld (SYN.BYP_WAIT_BYP_WAIT k)) * 1000
  if o.st = .gated ∧ ¬ o.noByp ∧ (¬ synLocked s k ∨ overLimit s n k o.div) ∧ bypReady s n ∧
      (o.wasByp ∨ o.gatedAt + wait ≤ s.now) then
    let v := bypShadow s n
    let s := (s.outUp n fun o => { o with st := .bypass, bypDiv := v }).flag (OUT.EVT_BYP n)
    s.outEvent 89 .warn 2 n
  else s

/-- DRIVER_FAULT (R264): the legs become high-impedance at once, whatever cycle is in progress. -/
def State.outFault (s : State) (n : Nat) : State :=
  let o := s.outAt n
  if o.st = .off ∨ o.drvFault then s
  else
    let s := s.outUp n fun o =>
      { o with st := .safe, drvFault := true, curEmit := false, onTree := false, bypLeft := 0, bypLow := 0, pulse := 0,
               hot := false, wasByp := o.onByp, coveredAt := s.now }
    let s := if o.st = .safe then s else s.bump (OUT.GATE_CNT n)
    ((s.flag (OUT.EVT_DRV_FAULT n)).bump OUTC.DRV_FAULT_CNT).outEvent 90 .warn 3 n

/-- DRIVER_PROBE_END (R264). -/
def State.outProbeEnd (s : State) (n : Nat) (persists : Bool) : State :=
  if ¬ (s.outAt n).probing then s
  else if persists then (s.outUp n fun o => { o with probing := false }).flag (OUT.EVT_CLEAR_REFUSED n)
  else (s.outUp n fun o => { o with probing := false, drvFault := false }).setFld (OUT.EVT_DRV_FAULT n) 0

/-- Coverage moves one output into or out of its safe state (R248, R260 to R263). -/
def Output.cover (o : Output) (cov : Bool) (safe now : Nat) : Output :=
  if cov then
    if safe ≠ 2 ∧ (o.st = .run ∨ o.st = .aligning ∨ o.st = .gated ∨ o.st = .bypass) then
      { o with st := .safe, wasByp := o.onByp, hot := o.st == .run, coveredAt := now }
    else o
  else if o.st = .safe ∧ ¬ o.drvFault then o.align (!o.fresh)
  else o

/-- The outputs follow the latches and SAFE_N; an entry to the safe state is counted in GATE_CNT (R260). -/
def State.coverOutputs (s : State) : State :=
  let t := { s with outs := Vector.ofFn fun (n : Fin 40) => (s.outAt n).cover (covered s n) (outSafe s n) s.now }
  (List.range 40).foldl (fun u n =>
    if (t.outAt n).st = .safe ∧ (s.outAt n).st ≠ .safe then u.bump (OUT.GATE_CNT n) else u) t

/-! ### The grid after a change of plan (R237, R247) -/

/-- The domain phase at the present instant (R156): it advances between the edges at the rate in force. -/
def phaseNowF (s : State) (d : Nat) : Int :=
  let x := s.domAt d
  x.phaseF + ((x.freqF - s.loa.termF) * (s.now % 25000 : Nat)).fdiv 1000000000

/-- What the timebase of domain k has completed since MTB zero, in units of the plan in force (R237). -/
def gridNow (s : State) (k : Nat) : Nat :=
  let y := s.synAt k
  (((s.now * 1000 * 2 ^ 40 : Nat) + (if k < 6 then phaseNowF s k else 0)) * (pfdRate y.pfd * y.nCur : Nat)).toNat /
    (1000 * 2 ^ 40)

/-- A due cycle in progress at a change of plan completes at its old period (R247), `r0` and `r1` units of the old and the new
plan in 1 ns; the next one begins on the new grid, of which `acc` units are complete. -/
def Output.regrid (o : Output) (acc r0 r1 : Nat) : Output :=
  if o.counting && o.div != 0 then
    let p := max 1 (periodOf o.div)
    let rem := cdiv (o.left * r1) (max 1 r0)
    let x := ((o.shift - acc).fmod p).toNat
    let left := if rem ≤ x then x else x + cdiv (rem - x) p * p
    { o with left := left, lowAt := left - (o.left - o.lowAt) * r1 / max 1 r0 }
  else o

/-- A plan that the VCO takes over in a relock or from OFF has its grid counted from MTB zero; a plan reached in a glide goes on
counting (log entry 83).  `y` is the synthesiser before. -/
def State.gridAnew (s : State) (k : Nat) (y : Synth) : State :=
  let z := s.synAt k
  if y.pfd = z.pfd ∧ y.nCur = z.nCur ∧ ((List.range 40).any fun n => outSyn s n == k && (s.outAt n).counting) then s
  else
    let acc := gridNow s k
    let s := s.synUp k fun z => { z with acc := acc }
    (List.range 40).foldl (fun t n => if outSyn t n = k then t.outUp n fun o => o.regrid acc y.rate z.rate else t) s

/-! ### Dividers, steps and delay -/

/-- One phase step in units of 2^-40 ps at f_plan of synthesiser k: a VCO period / 32 (R240); 0 for no synthesiser. -/
def stepPsF (s : State) (k : Nat) : Int :=
  let y := s.synAt k
  let f := planHz y.pfd y.nCur
  if f ≤ 0 ∨ 7 ≤ k then 0 else ((1000000000000 * 1000000 * 2 ^ 48 * 2 ^ 40 : Nat) : Int) / (32 * f)

/-- The delay that DLY compensates, as whole steps of `st` and quarter ps of the fine delay (R243): the executed steps are
carried over from steps of `old`, and what they lack becomes pending. -/
def Output.delay (o : Output) (dly old st : Int) : Output :=
  if st = 0 then o
  else
    let conv := fun v => if old = st ∨ old = 0 then v else rnear 50 (v * old) st
    let done := conv (o.dlyWhole - o.dlyPend)
    let w := (-dly * 2 ^ 40).fdiv st
    { o with dlyWhole := w, dlyPend := w - done, dlyBase := conv o.dlyBase,
             dlyFine := rdiv 51 (4 * (-dly * 2 ^ 40 - w * st)) (2 ^ 40) }

/-- DLY's present value takes effect on the present plan; the fine delay at the next low phase (R243). -/
def State.delaySet (s : State) (n : Nat) (old : Int) : State :=
  let st := stepPsF s (outSyn s n)
  let dly := max (-32767) (toSigned 16 (s.reg (OUT.DLY n)))
  s.outUp n fun o => (o.delay dly old st).lowPhase false

/-- A divider loads at A (R206, R234, R235, R241, R247): `oldStep` is the phase step before the plan change. -/
def State.outLoadDiv (s : State) (n k : Nat) (oldStep : Int) : State :=
  let o := s.outAt n
  let v := s.effWide (OUT.DIV n) 2
  let st := stepPsF s k
  let s :=
    if st = oldStep then s
    else (s.outUp n fun o => { o with sub := if st = 0 then o.sub else rnear 50 (o.sub * oldStep) st }).delaySet n oldStep
  if ¬ isPulseOut s n ∧ v ≠ 0 ∧ overLimit s n k v then s.flag (OUT.EVT_DIV_REFUSED n)
  else
    let s := s.outUp n fun o => { o with div := v }
    if v = 0 ∧ o.st ≠ .off ∧ ¬ isPulseOut s n then s.outStop n else s

/-- Every divider of a tree loads, an output over its format's limit is gated until a valid divider is applied, and one that
waits for a divider starts (R234, R235). -/
def State.loadDivs (s : State) (k : Nat) (oldStep : Int) : State :=
  (List.range 40).foldl (fun t n =>
    if outSyn t n = k then
      let t := t.outLoadDiv n k oldStep
      let st := (t.outAt n).st
      let t := if (st = .run ∨ st = .aligning) ∧ ¬ isPulseOut t n ∧ overLimit t n k (t.outAt n).div then t.outGate n
        else if synLocked t k then t.outResume n k else t
      t.outTryStart n false
    else t) s

/-- STEP written (R240, R242). -/
def State.stepWritten (s : State) (n w : Nat) : State :=
  if isPulseOut s n then s else s.outUp n fun o => { o with stepPend := toSigned 16 w }

/-- DLY written (R243). -/
def State.dlyWritten (s : State) (n : Nat) : State := s.delaySet n (stepPsF s (outSyn s n))

/-- CFG written: the driver setting waits for the next low phase (R232), and another synthesiser's step size re-forms DLY
(R243); `old` is the synthesiser before. -/
def State.outCfgWritten (s : State) (n old : Nat) : State :=
  let d := s.reg (OUT.CFG n) / 8 % 256
  let s := s.outUp n fun o => { o with drvNext := some d }.lowPhase false
  if outSyn s n = old then s else s.delaySet n (stepPsF s old)

/-- DIV1 written (R234): the shadow is complete; 1 is refused and the shadow keeps its value. -/
def State.divWritten (s : State) (n : Nat) : State :=
  let a := OUT.DIV n
  if s.wide a 2 = 1 then ((s.setReg a (s.eff1 a)).setReg (a + 1) (s.eff1 (a + 1))).flag (OUT.EVT_DIV_REFUSED n)
  else s.applyEff a 2

/-- The bypass frequency lies above the format's limit (R250). -/
def bypOver (s : State) (n v : Nat) : Bool :=
  if s.fld (OUT.CTRL_BYP_SRC n) = 1 then overLimit s n 6 v
  else s.fld (OUT.CTRL_BYP_SRC n) == 2 && decide (formatMax s n * v < 80000000)

/-- BYP_DIV1 written (R250). -/
def State.bypDivWritten (s : State) (n : Nat) : State :=
  let a := OUT.BYP_DIV n
  let v := s.wide a 2
  if v = 1 ∨ (v ≠ 0 ∧ bypOver s n v) then
    ((s.setReg a (s.eff1 a)).setReg (a + 1) (s.eff1 (a + 1))).flag (OUT.EVT_DIV_REFUSED n)
  else s.applyEff a 2

/-- The four balance counters clear together (R245). -/
def Output.clear (o : Output) : Output :=
  { o with due := 0, emit := 0, gated := 0, stepped := 0 }

/-! ### Pulse generators (R253 to R259) -/

/-- The period is in range (R255). -/
def periodOk (num den : Nat) : Bool := decide (100000 * den ≤ num) && decide (num ≤ 2000000000 * den)

/-- The staged period and offset (R254). -/
def pgNum (s : State) (p : Nat) : Nat := s.effWide (PG.PER_NUM p) 2
def pgDen (s : State) (p : Nat) : Nat := max 1 (s.eff1 (PG.PER_DEN p))
def pgTk (s : State) (p : Nat) : Nat := s.fld (PG.PG_CTRL_TK_SEL p)

/-- A grid change at the present instant (R258). -/
def State.pgGrid (s : State) (p : Nat) (f : Pg → Pg) : State :=
  let now := (s.tkAt (pgTk s p)).time
  s.pgUp p fun g => { f g with after := now }

/-- PG_ENABLE (R255). -/
def State.pgEnable (s : State) (p : Nat) : State :=
  if (s.pgAt p).st ≠ .idle ∨ s.pwr.st = .boot then s
  else if periodOk (pgNum s p) (pgDen s p) then
    s.pgGrid p fun g => { g with st := .running, cfgErr := false, num := pgNum s p, den := pgDen s p, last := none, trail := none }
  else s.pgUp p fun g => { g with cfgErr := true }

def State.pgDisable (s : State) (p : Nat) : State :=
  s.pgUp p fun g => { g with st := .idle, cfgErr := false }

/-- PER_DEN written (R254, R255, R258). -/
def State.pgPeriod (s : State) (p : Nat) : State :=
  if periodOk (pgNum s p) (pgDen s p) then
    s.pgGrid p fun g => { g with num := pgNum s p, den := pgDen s p, cfgErr := false }
  else s.pgUp p fun g => { g with cfgErr := true }

/-- OFFSET2 written (R254, R258). -/
def State.pgOffset (s : State) (p : Nat) : State :=
  let v := toSigned 40 (s.wide (PG.OFFSET p) 3)
  s.pgGrid p fun g => { g with ofs := v }

/-- The first frame edge after an instant, as index k: E_k·den = (ORIGIN + OFFSET)·den + k·num, in 2^-80 ns (R254). -/
def Pg.nextK (g : Pg) : Int :=
  ((g.after - g.origin - g.ofs * 2 ^ 72) * g.den).fdiv (g.num * 2 ^ 80) + 1

/-- The instant of frame k, rounded up to 2^-80 ns. -/
def Pg.edge (g : Pg) (k : Int) : Int :=
  g.origin + g.ofs * 2 ^ 72 + -((-(k * g.num * 2 ^ 80)).fdiv g.den)

/-- The width applied (R255): at least 8 ns, at most 500 ms, and at most P − 8 ns. -/
def pgWidth (s : State) (p : Nat) (g : Pg) : Int × Bool :=
  let w := min 500000000 (max 8 (s.effWide (PG.WIDTH p) 2))
  let room := g.num * 2 ^ 80 / g.den - 8 * 2 ^ 80
  if room < w * 2 ^ 80 then (room, true) else (w * 2 ^ 80, false)

/-- The index frame k is known by: indices never repeat (R258). -/
def Pg.index (g : Pg) (k : Int) : Int :=
  match g.last with
  | some l => max k (l + 1)
  | none => k

/-- The nearest phase step of synthesiser k to an MTB instant in 2^-40 ps, the earlier one on a tie (R256). -/
def nearStep (s : State) (k : Nat) (t : Int) : Int :=
  let st := max 1 (stepPsF s k)
  let y := s.synAt k
  let g : Int := (s.now * 1000 * 2 ^ 40 : Nat) - ((y.acc % stepUnits : Nat) * st).fdiv stepUnits
  g + -(st - 2 * (t - g)).fdiv (2 * st) * st

/-- The leading edge at the pad of output n for a frame at keeper time `e` (R256): on the nearest phase step, earlier by OUT.DLY,
so that it lies there at the reference plane (log entry 84). -/
def leadOf (s : State) (n t : Nat) (e : Int) : Int :=
  let k := s.tkAt t
  let at' : Int := (s.now * 1000 * 2 ^ 40 : Nat) - ((k.time - e) * 2000 * 2 ^ 40).fdiv (max 1 k.eff)
  nearStep s (outSyn s n) at' - max (-32767) (toSigned 16 (s.reg (OUT.DLY n))) * 2 ^ 40

/-- One frame at one output (R41, R253, R256, R258, R259, R261): the pulse of `width` leaves the pad, or is withheld. -/
def State.frameAt (s : State) (p n : Nat) (e width : Int) (early : Bool) : State :=
  let o := s.outAt n
  if isPulseOut s n ∧ s.fld (OUT.CTRL_PG_SEL n) = p ∧ o.counting ∧ o.st ≠ .test ∧ o.st ≠ .parked ∧ o.st ≠ .off then
    let lead := leadOf s n (pgTk s p) e
    let live := o.st == .run ||
      (o.st == .safe && o.hot && !o.drvFault && decide (lead < ((o.coveredAt + 20) * 1000 * 2 ^ 40 : Nat)))
    let out := live && pgBound s n && !early
    s.outUp n fun o =>
      { o with due := o.due + 1, emit := o.emit + (if out then 1 else 0), gated := o.gated + (if out then 0 else 1),
               pulse := if out then width else o.pulse, lead := if out then lead else o.lead }
  else s

/-- PG_FRAME_EDGE (R254, R259): the bound time keeper reaches the next frame edge. -/
def State.pgFrame (s : State) (p : Nat) : State :=
  let g := s.pgAt p
  let k := s.tkAt (pgTk s p)
  let e := g.edge g.nextK
  if g.st = .idle ∨ k.st = .stopped ∨ k.time < e then s
  else
    let w := pgWidth s p g
    let early := match g.trail with
      | some t => decide (e < t + 8 * 2 ^ 80)
      | none => false
    let s := s.pgUp p fun g =>
      { g with after := e, last := some (g.index g.nextK), clip := w.2, trail := if early then g.trail else some (e + w.1) }
    (List.range 40).foldl (fun t n => t.frameAt p n e w.1 early) s

/-- ORIGIN is taken from a capture (R257): `time` in 2^-80 ns. -/
def State.pgTaken (s : State) (p : Nat) (time : Int) : State :=
  let s := s.pgGrid p fun g => { g with st := .running, origin := time }
  let s := (s.flag (PG.PG_EVT_ALIGNED p)).raise 91 .info 4 (16384 + p * 256)
  s.goEnd (PG.PG_CTRL_ALIGN p) fun t => t.pgUp p fun x => { x with st := .armed }

end Sys2Proof.Machine
end

