-- ==== Sys2Proof/Machine/Syn.lean ====
section
/-! DEFINITION. The seven synthesisers: enable, update strobe, glide, relock, lock detection, loss of lock, coverage and
steering (06: R187 to R229, R558). -/
namespace Sys2Proof.Machine

def SynState.code : SynState → Nat
  | .off => 0
  | .locking => 1
  | .locked => 2
  | .glide => 3
  | .relock => 4
  | .unlocked => 5

/-! ### Lock detector settings -/

def ldK (s : State) (k : Nat) : Nat := max 1 (s.fld (SYN.LD_CFG_K k))
def ldWin (s : State) (k : Nat) : Nat := min 1000 (max 1 (s.fld (SYN.LD_CFG_WIN k)))

/-- K × WIN in µs (R199). -/
def kWin (s : State) (k : Nat) : Nat := ldK s k * ldWin s k

/-- LD_MODE, 0b11 treated as COUNTER (R198). -/
def ldWritten (s : State) (k : Nat) : Nat :=
  let m := s.fld (SYN.CTRL_LD_MODE k)
  if m = 3 then 0 else m

/-- STAT.LD_FALLBACK: ANALOGUE or BOTH on a synthesiser that LOCKA_SEL does not name (R202). -/
def ldFallback (s : State) (k : Nat) : Bool := ldWritten s k != 0 && s.fld SYS.LOCKA_SEL_SEL != k

/-- The detector in use: 0 COUNTER, 1 ANALOGUE, 2 BOTH (R198, R202, R203). -/
def ldMode (s : State) (k : Nat) : Nat :=
  if ldFallback s k || decide (s.now < (s.synAt k).lockaUntil) then 0 else ldWritten s k

/-- LD_TOL in ppm (R199). -/
def ldTol (s : State) (k : Nat) : Nat := min 10000 (max 1 (s.fld (SYN.LD_TOL_TOL k)))

/-- STAT.TOL_RAISED: the tolerance is finer than the count resolves (R200). -/
def tolRaised (s : State) (k : Nat) : Bool :=
  let y := s.synAt k
  decide (planHz y.pfd y.nCur * (ldTol s k * ldWin s k : Nat) < ((32000000000000 * 1000000 * 2 ^ 48 : Nat) : Int))

/-- A window of WIN µs in which the counter saw `c` tree-clock cycles is good (R199): the deviation from what N_EFF predicts is
within the tolerance, or within one count, which is what the count resolves (R200).  Both sides carry 32·10^6·2^48. -/
def winGood (s : State) (k c : Nat) : Bool :=
  let y := s.synAt k
  let p := pfdHz y.pfd * y.nNow * ldWin s k
  let d := ((c * 32000000 * 2 ^ 48 : Nat) : Int) - p
  decide (d.natAbs * 1000000 ≤ max (ldTol s k * p) (32000000 * 2 ^ 48 * 1000000))

/-- The counter detector after one window (R199): K consecutive good windows indicate lock, the first bad one loss. -/
def Synth.window (y : Synth) (n : Nat) (good : Bool) : Synth :=
  if good then { y with goodRun := min n (y.goodRun + 1), cInd := y.cInd || decide (n ≤ y.goodRun + 1) }
  else { y with goodRun := 0, cInd := false }

/-- Windows begin anew (R199). -/
def Synth.noWindows (y : Synth) (now : Nat) : Synth := { y with goodRun := 0, winAt := now, cInd := false, aInd := false }

/-- The windows of `counts` that have passed since the last measured one: a window lasts WIN µs (R199). -/
def windowsDue (s : State) (k : Nat) (counts : List Nat) : List Nat :=
  counts.take ((s.now - (s.synAt k).winAt) / (ldWin s k * 1000))

/-- The analogue comparator (R201): LOCKA below 0.30 V for K × WIN indicates lock, above it for 1 µs loss. -/
def Synth.locka (y : Synth) (kWinUs : Nat) (low : Bool) (held : Nat) : Synth :=
  if low then { y with aInd := y.aInd || decide (kWinUs * 1000 ≤ held) }
  else { y with aInd := y.aInd && decide (held < 1000) }

/-- Both detectors measure: the tree-clock counts of the windows since the last one, oldest first, and on which side of 0.30 V
LOCKA has stayed for how many ns. -/
def State.synDetect (s : State) (k : Nat) (counts : List Nat) (low : Bool) (held : Nat) : State :=
  let l := windowsDue s k counts
  let n := ldK s k
  let w := ldWin s k * 1000
  let kw := kWin s k
  s.synUp k fun y =>
    if y.st = .off then y
    else
      let y := l.foldl (fun y c => y.window n (winGood s k c)) y
      { y with winAt := y.winAt + l.length * w }.locka kw low held

/-- A bound in ns: `a` and `b` µs for COUNTER with K × WIN up to and beyond 100 µs, `c` µs for ANALOGUE and BOTH. -/
def ldBound (s : State) (k mode a b c : Nat) : Nat :=
  (if mode = 0 then (if kWin s k ≤ 100 then a else b + kWin s k) else c + kWin s k + 5000) * 1000

/-- The relock bound that the module times (R213), with the mode in use when RELOCK began (R227). -/
def relockBound (s : State) (k : Nat) : Nat := ldBound s k (s.synAt k).relockMode 300 200 300

/-- The lock timeout of LOCKING (R558). -/
def lockTimeout (s : State) (k : Nat) : Nat := max 2000000 (ldBound s k (ldMode s k) 500 400 500)

/-- Lock is indicated by the detectors in use (R198). -/
def lockInd (s : State) (k : Nat) : Bool :=
  let y := s.synAt k
  let m := ldMode s k
  if m = 0 then y.cInd else if m = 1 then y.aInd else y.cInd && y.aInd

/-! ### Events -/

/-- An event of source 74 + 2s (LL) or 75 + 2s (BF): STATE and cause. -/
def State.synEvent (s : State) (k : Nat) (bf : Bool) (sev : Severity) (cause : Nat) : State :=
  s.raise (74 + 2 * k + (if bf then 1 else 0)) sev cause ((s.synAt k).st.code * 8192)

/-- STAT.BAND_NONE with its event (R197). -/
def State.synNoBand (s : State) (k : Nat) : State :=
  (s.synUp k fun y => { y with bandNone := true }).synEvent k true .warn 3

/-! ### Plans -/

/-- N_EFF of R190 with the residue of R191 carried; in a glide the base divider is N_cur (R209). -/
def State.synSteer (s : State) (k : Nat) : State :=
  let f := if k < 6 then (s.domAt k).freqF else 0
  let m := if k < 6 ∨ s.bit (SYN.CTRL_COMP k) then s.loa.termF else 0
  s.synUp k fun y =>
    let y := { y with fF := f, mF := m }
    let x := y.steered y.nCur + y.resid
    { y with nEff := (x.fdiv (2 ^ 32)).toNat, resid := x.fmod (2 ^ 32) }

/-- The plan in the shadows comes into force without a VCO transition (R205, R558). -/
def State.synForce (s : State) (k : Nat) : State :=
  let old := stepPsF s k
  let y := s.synAt k
  let s := s.synUp k fun y =>
    { y with pfd := shadowPfd s k, nBase := shadowN s k, nNew := shadowN s k, glAcc := 0, lbw := shadowLbw s k,
             update := false, glideLost := false, resid := 0 }
  ((s.synSteer k).loadDivs k old).gridAnew k y

/-- The band in use. -/
def State.synBand (s : State) (k i : Nat) : State :=
  s.synUp k fun y =>
    { y with cur := some i, entry := vat y.table i, curCode := (vat y.table i).code, btEmpty := false, bandNone := false,
             covNeg := false, covLost := false }

/-- Entry i is the band in use: the entry selected, with the code it had then (R193, R227). -/
def sameBand (s : State) (k i : Nat) : Bool :=
  (s.synAt k).cur == some i && (vat (s.synAt k).table i).code == (s.synAt k).curCode

/-- A band-change relock begins (R212, R223). -/
def State.synRelock (s : State) (k : Nat) : State :=
  let s := if k = 6 then s.gateSyns true else s.gateTree k
  let m := ldMode s k
  s.synUp k fun y => { y with st := .relock, since := s.now, relockMode := m }.noWindows s.now

/-- A relock to band b on the target of a glide, which ends (R196, R211, R219). -/
def State.synRelockNew (s : State) (k b : Nat) : State :=
  let y := s.synAt k
  let s := (s.synBand k b).synUp k fun y => { y with nBase := y.nNew, glAcc := 0, glideLost := false }
  ((s.synSteer k).synRelock k).gridAnew k y

/-- The apply instant A (R206, R208, R209, R211). -/
def State.synApply (s : State) (k : Nat) : State :=
  let y := s.synAt k
  let n := shadowN s k
  let pfd := shadowPfd s k
  let s := s.synUp k fun y => { y with update := false, strobe := false }
  match bandSelect s k pfd n y.cur with
  | none => s.synNoBand k
  | some b =>
    let old := stepPsF s k
    let same := pfd == y.pfd && n == y.nCur
    let relock := !sameBand s k b || pfd != y.pfd || (!same && s.reg (SYN.GLIDE k) == 0)
    let glide := !relock && !same
    let s := s.synBand k b
    let s := s.synUp k fun z =>
      { z with pfd := pfd, nBase := if glide then y.nCur else n, nNew := n, glAcc := 0, pfdRem := 0,
               lbw := shadowLbw s k, glideLost := false }
    let s := s.synSteer k
    let s := if relock then s.synRelock k
      else if glide then (s.synUp k fun z => { z with st := .glide }).bump (SYN.GLIDE_CNT k)
      else s.synUp k fun z => { z with st := .locked }
    let s := s.loadDivs k old
    if relock then s.gridAnew k y else s

/-- Synthesiser k may run: in RUN and PARK only (R214), with its tree and analogue part in service (R504). -/
def synPowered (s : State) (k : Nat) : Bool :=
  (s.pwr.st == .run || s.pwr.st == .park) && !s.pwr.holdup && !s.unitOut (19 + k) && !s.unitOut (26 + k)

/-- SYN_ENABLE (R197, R558). -/
def State.synEnable (s : State) (k : Nat) : State :=
  if (s.synAt k).st ≠ .off ∨ ¬ synPowered s k ∨ ¬ s.bit (SYN.CTRL_EN k) then s
  else
    let s := s.synForce k
    if bandCount s k = 0 then
      (s.synUp k fun y => { y with btEmpty := true }).synEvent k true .warn 2
    else
      match bandSelect s k (s.synAt k).pfd (s.synAt k).nNew none with
      | none => s.synNoBand k
      | some b =>
        let s := s.synBand k b
        s.synUp k fun y =>
          { y with st := .locking, since := s.now, strobe := false, covLost := false }.noWindows s.now

/-- The synthesiser goes OFF (R183, R214, R558); a relock that this ends is counted (R212). -/
def State.synOff (s : State) (k : Nat) : State :=
  if (s.synAt k).st = .off then s
  else
    let y := s.synAt k
    let s := if k = 6 then s.gateSyns else s.gateTree k
    let s := if y.st = .relock then s.bump (SYN.BANDCHG_CNT k) else s
    let s := s.synUp k fun y =>
      { y with st := .off, nBase := y.nNew, glAcc := 0, glideLost := false, update := false, strobe := false,
               cur := none, recal := false, covLost := false, covNeg := false }.noWindows s.now
    ((s.synSteer k).domUnfreeze k).gridAnew k y

/-- UPDATE written (R205, R221). -/
def State.synUpdate (s : State) (k : Nat) : State :=
  match (s.synAt k).st with
  | .off => s.synForce k
  | .locked | .glide => (s.goNote (SYN.CTRL_UPDATE k) (s.synAt k).update).synUp k fun y => { y with update := true }
  | .locking | .relock | .unlocked => s.synUp k fun y => { y with strobe := true }

/-- APPLY_INSTANT: a strobe on its way reaches the tree (R206). -/
def State.synApplyInstant (s : State) (k : Nat) : State :=
  if (s.synAt k).update ∧ synLocked s k then (s.synApply k).goEnd (SYN.CTRL_UPDATE k) fun t => t.synUpdate k else s

/-- GLIDE_COMPLETE (R209). -/
def State.synGlideEnd (s : State) (k : Nat) : State :=
  let y := s.synAt k
  if y.st = .glide ∧ y.nCur = y.nNew then
    (s.synUp k fun y => { y with st := .locked, nBase := y.nNew, glAcc := 0 }).synSteer k
  else s

/-- RECAL (R211): a glide ends on its target, and the band is reselected as a relock; RECAL holds until it is over (R11). -/
def State.synRecal (s : State) (k : Nat) : State :=
  if ¬ synLocked s k then s.goNote (SYN.CTRL_RECAL k) (s.synAt k).recal
  else
    let y := s.synAt k
    match bandSelect s k y.pfd y.nNew y.cur with
    | none => s.synNoBand k
    | some b => (s.synRelockNew k b).synUp k fun y => { y with recal := true }

/-- Lock is declared (R212, R214, R218, R219, R221).  A relock that ends here is counted (R212), DEDUCED (log entry 30).  A frozen glide
whose target the band in use does not cover goes on as the relock of a retarget (R211; log entry 85). -/
def State.synLock (s : State) (k : Nat) : State :=
  let y := s.synAt k
  let tell := y.st == .locking || (y.st == .unlocked && !y.strobe)
  let s := s.domUnfreeze k
  let s := s.synUp k fun y =>
    { y with st := if y.glideLost then .glide else .locked, nBase := if y.glideLost then y.nCur else y.nBase,
             glAcc := if y.glideLost then 0 else y.glAcc, glideLost := false, recal := false }
  let s := if tell then s.synEvent k false .info 0 else s
  let s := if y.st = .relock then s.bump (SYN.BANDCHG_CNT k) else s
  let s :=
    if y.strobe then s.synApply k
    else if y.st = .unlocked then
      let z := s.synAt k
      match bandSelect s k z.pfd z.nNew z.cur with
      | some b => if sameBand s k b then s else s.synRelockNew k b
      | none => s
    else s
  let s := if synLocked s k then s.resumeTree k else s
  if y.recal then s.goEnd (SYN.CTRL_RECAL k) fun t => t.synRecal k else s

/-- LOCK_DECLARED: the detectors measure, and lock is declared where those in use indicate it (R198 to R203). -/
def State.synLockInd (s : State) (k : Nat) (counts : List Nat) (low : Bool) (held : Nat) : State :=
  let s := s.synDetect k counts low held
  let st := (s.synAt k).st
  if (st = .locking ∨ st = .relock ∨ st = .unlocked) ∧ lockInd s k then s.synLock k else s

/-- A loss of lock (R215, R219, R227): a strobe on its way is held. -/
def State.synLose (s : State) (k : Nat) : State :=
  let s := if k = 6 then s.gateSyns else s.gateTree k
  let s := s.synUp k fun y =>
    { y with st := .unlocked, glideLost := y.st == .glide, strobe := y.strobe || y.update, update := false,
             recal := false, covLost := false }
  ((s.flag (SYN.EVT_LOCK_LOST k)).bump (SYN.UNLOCK_CNT k)).synEvent k false .warn 1 |>.domFreeze k

/-- The detectors in use indicate loss (R198, R199, R201): a bad window of the counter, or LOCKA above 0.30 V for 1 µs. -/
def lossInd (s : State) (k : Nat) (counts : List Nat) (low : Bool) (held : Nat) : Bool :=
  let m := ldMode s k
  (m != 1 && (windowsDue s k counts).any fun c => !winGood s k c) || (m != 0 && !low && decide (1000 ≤ held))

/-- LOSS_OF_LOCK: the detectors measure, and loss is declared where one in use indicates it (R198, R204); the windows after the
first bad one count towards the next lock. -/
def State.synLossInd (s : State) (k : Nat) (counts : List Nat) (low : Bool) (held : Nat) : State :=
  let lost := synLocked s k && lossInd s k counts low held
  let s := s.synDetect k counts low held
  if lost then s.synLose k else s

/-- RELOCK_OVERRUN (R213); the relock is counted here (R212). DEDUCED (log entry 30). -/
def State.synOverrun (s : State) (k : Nat) : State :=
  let y := s.synAt k
  if y.st = .relock ∧ y.since + relockBound s k ≤ s.now then
    (((s.synLose k).bump (SYN.BANDCHG_CNT k)).flag (SYN.EVT_BAND_FAULT k)).synEvent k true .warn 4
  else s

/-- LOCK_TIMEOUT (R214). -/
def State.synTimeout (s : State) (k : Nat) : State :=
  let y := s.synAt k
  if y.st = .locking ∧ y.since + lockTimeout s k ≤ s.now then
    let s := (s.flag (SYN.EVT_BAND_FAULT k)).synEvent k true .warn 4
    let s := match bandSelect s k y.pfd y.nNew y.cur with
      | some b => s.synBand k b
      | none => s.synUp k fun y => { y with bandNone := true }
    s.synUp k fun y => { y with since := s.now }.noWindows s.now
  else s

/-- The pull-in limit that coverage C gives DOMs: narrowed while 0 < C < PULLIN, kept while C ≤ 0 (R196). -/
def State.synLimit (s : State) (k : Nat) : State :=
  match coverC s k with
  | none => s.domUp k fun x => { x with pullinLtd := false, limC := 0 }
  | some c =>
    if (pullinOf s k : Int) ≤ c then s.domUp k fun x => { x with pullinLtd := false, limC := 0 }
    else if 0 < c then s.domUp k fun x => { x with pullinLtd := true, limC := c.toNat }
    else s

/-- The coverage of the band in use at an epoch (R196): where it has fallen to 0 or below, band selection runs at the next
epoch, once for each fall. -/
def State.synCover (s : State) (k : Nat) : State :=
  let s := s.synLimit k
  let y := s.synAt k
  let s :=
    if y.covLost ∧ synLocked s k then
      let s := s.synUp k fun y => { y with covLost := false }
      match bandSelect s k y.pfd y.nNew y.cur with
      | some b => if sameBand s k b then s else s.synRelockNew k b
      | none => s.synNoBand k
    else s
  match coverC s k with
  | some c => s.synUp k fun y => { y with covNeg := decide (c ≤ 0), covLost := y.covLost || (decide (c ≤ 0) && !y.covNeg) }
  | none => s

/-- A change of LOCKA_SEL (R203): the synthesiser that gains the pad ignores it for K × WIN plus 5 ms. -/
def State.lockaWritten (s : State) (old : Nat) : State :=
  let k := s.fld SYS.LOCKA_SEL_SEL
  if k = old then s
  else
    let t := s.now + kWin s k * 1000 + 5000000
    s.synUp k fun y => { y with lockaUntil := t }

/-- BT_DATA2 written: the three data registers are stored into the selected entry (R193). -/
def State.bandStore (s : State) (k : Nat) : State :=
  let i := s.fld (SYN.BT_CTRL_INDEX k)
  let e : BandEntry := { code := s.fld (SYN.BT_DATA1_CODE k),
                         fcal := s.reg (SYN.BT_DATA0 k) + s.fld (SYN.BT_DATA1_FCAL_23_16 k) * 65536,
                         slope := toSigned 16 (s.reg (SYN.BT_DATA2 k)), written := true }
  s.synUp k fun y => { y with table := vup y.table i fun _ => e }

/-- BT_CTRL.INDEX written: the entry is copied into the data registers (R193). -/
def State.bandIndex (s : State) (k : Nat) : State :=
  let e := vat (s.synAt k).table (s.fld (SYN.BT_CTRL_INDEX k))
  let s := (s.setReg (SYN.BT_DATA0 k) (e.fcal % 65536)).setReg (SYN.BT_DATA1 k) (e.code * 1024 + e.fcal / 65536 % 256)
  s.setReg (SYN.BT_DATA2 k) (ofSigned 16 e.slope)

end Sys2Proof.Machine
end

