-- ==== Sys2Proof/Machine/Cap.lean ====
section
/-! DEFINITION. Event capture, rings, draining and export (10: R327 to R358). -/
namespace Sys2Proof.Machine

def State.capUp (s : State) (f : Capture → Capture) : State := { s with cap := f s.cap }
def capSrc (s : State) (i : Nat) : CapSrc := vat s.cap.src i
def State.srcUp (s : State) (i : Nat) (f : CapSrc → CapSrc) : State := s.capUp fun c => { c with src := vup c.src i f }
def ringAt (s : State) (k : Nat) : Ring := vat s.cap.ring k
def State.ringUp (s : State) (k : Nat) (f : Ring → Ring) : State := s.capUp fun c => { c with ring := vup c.ring k f }

/-! ### Sources (R327 to R329) -/

def srcEn (s : State) (i : Nat) : Bool := bitsOf (capSrc s i).cfg 15 15 == 1
def srcTarget (s : State) (i : Nat) : Nat := bitsOf (capSrc s i).cfg 12 8
def srcAux (s : State) (i : Nat) : Bool := bitsOf (capSrc s i).cfg 5 5 == 1

/-- SRC_STAT.NO_INPUT (R328): the receiver of the pad is off, also while the output completes a cycle on it (R231). -/
def noInput (s : State) (i : Nat) : Bool :=
  decide (i < 16) && ((vat s.outs i).busy || s.fld (INM.IN_CFG_ROLE i) != 1 || (vat s.bist.units (13 + i / 4)).unusable)

/-- The time keeper that stamps a source (R327). -/
def srcTk (s : State) (i : Nat) : Nat :=
  if i < 16 ∨ (32 ≤ i ∧ i < 38) then bitsOf (capSrc s i).cfg 14 13
  else if i < 32 then s.fld (PTI.INST_CTRL_TK_SEL ((s.ethAt ((i - 16) / 2)).inst % 4))
  else if i < 46 then pgTk s (i - 38)
  else i - 46

/-- The fabric forms records in RUN, PARK and KEEP, and not while the digital island is under self-test (R353). -/
def capOn (s : State) : Bool :=
  (s.pwr.st == .run || s.pwr.st == .park || s.pwr.st == .keep) && !s.bist.islandBusy

/-! ### Credits (R339 to R343) -/

def Ring.used (r : Ring) : Nat := r.recs.length

/-- FREE: the credits left (R340); none while the ring is being resized, when the size in force is USED (R341). -/
def Ring.free (r : Ring) : Nat := r.size - r.used

/-- The watermark (R343). -/
def State.wmCheck (s : State) (k : Nat) : State :=
  let w := s.fld (RING.WMARK_WMARK k)
  let r := ringAt s k
  if w = 0 then s.ringUp k fun r => { r with armed := false }
  else if r.armed ∧ w ≤ r.used then
    ((s.ringUp k fun r => { r with armed := false }).flag (RING.REVT_WM k)).raise (112 + k) .info 1 (k * 4096)
  else if r.used ≤ w / 2 then s.ringUp k fun r => { r with armed := true }
  else s

/-! ### Formation (R330 to R336) -/

/-- The ring a target names at formation, and the groups' rotation (R335). -/
def steer (s : State) (t : Nat) : Option Nat × State :=
  if t < 16 then (some t, s)
  else if t < 20 then
    let g := t - 16
    let m := s.reg (CAP.GRP g)
    let p := vat s.cap.grp g
    match (List.range 16).find? fun i => bitsOf m ((p + 1 + i) % 16) ((p + 1 + i) % 16) == 1 with
    | none => (none, s)
    | some i =>
      let k := (p + 1 + i) % 16
      (some k, s.capUp fun c => { c with grp := vup c.grp g fun _ => k })
  else (none, s)

/-- Words 0 to 7 of a record (R331, R334): `time` in 2^-80 ns. -/
def recordWords (s : State) (ring tk type src seq : Nat) (time : Int) (a b : Nat) : List Nat :=
  let k := s.tkAt tk
  let ns := time.fdiv (2 ^ 80)
  let sec := (ns.fdiv 1000000000).toNat
  let w0 := ring * 2 ^ 24 + tk * 2 ^ 22 + (if k.st = .track then 0 else 2 ^ 21) + (if k.st = .stopped then 2 ^ 20 else 0)
    + (if k.wake then 2 ^ 19 else 0) + (if k.leap60.isSome then 2 ^ 18 else 0) + type * 256 + src
  let frac := ((time.fmod (2 ^ 80)).fdiv (2 ^ 64)).toNat
  let ws := [w0, seq % 2 ^ 32, sec % 2 ^ 32, frac * 65536 + sec / 2 ^ 32 % 65536, (ns.fmod 1000000000).toNat, a % 2 ^ 32,
             b % 2 ^ 32]
  ws ++ [crc32c (ws.flatMap (bytesLE 4))]

/-- Records in flight steered to ring k. -/
def inRing (s : State) (k : Nat) : Nat := (s.cap.buf.filter fun r => r.ring == k).length

/-- IN_FLIGHT of a source (R338). -/
def inFlight (s : State) (i : Nat) : Nat := (s.cap.buf.filter fun r => r.src == i && r.counted).length

def ifLimit (s : State) (k : Nat) : Nat :=
  let l := s.fld (RING.RD_CTRL_IF_LIMIT k)
  if l = 0 ∨ 128 < l then 128 else l

/-- The first OVERRUN on a ring (R343). -/
def State.ringOverrun (s : State) (k : Nat) : State :=
  if s.bit (RING.REVT_OVERRUN k) then s
  else ((s.flag (RING.REVT_OVERRUN k)).flag CAP.CAP_EVT_OVERRUN).raise (112 + k) .warn 2 (k * 4096)

/-- A capture is formed (R328, R330 to R336): it is numbered, steered and counted; it joins the in-flight buffer, counts as
OVERRUN, or, without a ring, as DROPPED_DISABLED. -/
def State.capture (s : State) (i type : Nat) (time : Int) (a b : Nat) : State :=
  if ¬ srcEn s i ∨ ¬ capOn s ∨ 50 ≤ i then s
  else
    let c := capSrc s i
    let s := s.srcUp i fun c => { c with seq := (c.seq + 1) % 2 ^ 32, captured := c.captured + 1 }
    let st := steer s (bitsOf c.cfg 12 8)
    let s := st.2
    match st.1 with
    | none => (s.srcUp i fun c => { c with dropDis := c.dropDis + 1 }).flag CAP.CAP_EVT_DROP_DIS
    | some k =>
      if 128 ≤ s.cap.buf.length ∨ ifLimit s k ≤ inRing s k then
        (s.srcUp i fun c => { c with overrun := c.overrun + 1 }).ringOverrun k
      else
        let r : CapRec := { words := recordWords s k (srcTk s i) type i c.seq time a b, ring := k, src := i, counted := true }
        let s := s.capUp fun c => { c with buf := c.buf ++ [r] }
        let s := s.capUp fun c => { c with peak := max c.peak c.buf.length }
        let n := inRing s k
        s.ringUp k fun r => { r with peak := max r.peak n }

/-- The edge is of the kind SRC_CFG.EDGE selects (R328). -/
def edgeSeen (cfg : Nat) (rising : Bool) : Bool :=
  match bitsOf cfg 7 6 with
  | 1 => !rising
  | 2 => true
  | _ => rising

/-- EDGE_CAPTURE: an edge at a pad, stamped in ps (R328, R329, R257). -/
def State.edgeCapture (s : State) (i : Nat) (rising : Bool) (stamp : Nat) : State :=
  let c := capSrc s i
  if 16 ≤ i ∨ ¬ srcEn s i ∨ ¬ capOn s ∨ noInput s i ∨ ¬ edgeSeen c.cfg rising then s
  else
    let dec := max 1 c.dec
    let s := s.srcUp i fun c => { c with edges := c.edges + 1, kept := (c.kept + 1) % dec }
    if c.kept % dec ≠ 0 then s
    else if (match c.last with
        | some l => decide (stamp < l + 40000)
        | none => false) then
      s.srcUp i fun c => { c with skip := satNat 16 (c.skip + 1) }
    else
      let s := s.srcUp i fun c => { c with last := some stamp }
      let t := stampTime s (srcTk s i) ((stamp : Int) - (s.trkAt i).delay).toNat
      let q := (s.monAt i).st.code
      let s := s.capture i 1 t ((c.edges + 1) % 2 ^ 32) ((if rising then 2 ^ 31 else 0) + q * 2 ^ 28 + dec)
      (List.range 8).foldl (fun u p =>
        if (u.pgAt p).st = .armed ∧ u.fld (PG.PG_CTRL_ALIGN_SRC p) = i then u.pgTaken p t else u) s

/-- Sources 32 to 37 capture the domain events of the command (R327, R328): DSTATE changes, clamp entries, holdover
expiries. -/
def State.capDomEvents (s : State) : State :=
  let t := s.now / 25000 * 25000000
  s.evq.foldl (fun u e =>
    if 56 ≤ e.src ∧ e.src < 74 ∧ e.real then
      let d := (e.src - 56) / 3
      let k := (e.src - 56) % 3
      let code := if k = 0 then 1 else if k = 2 ∧ e.cause = 1 then 2 else if k = 2 ∧ e.cause = 3 then 3 else 0
      if code = 0 then u
      else
        let x := u.domAt d
        u.capture (32 + d) 0x20 (stampTime u (srcTk u (32 + d)) t)
          (code * 2 ^ 28 + bitsOf e.rest 15 13 * 2 ^ 25 + bitsOf e.rest 12 10 * 2 ^ 22 + x.lastCause * 2 ^ 19 + x.selRef * 256)
          (ofSigned 32 (x.boF.fdiv (2 ^ 40)))
    else u) s

/-- A pulse generator's frame is captured with the outputs that emitted and withheld it (R327, R333). -/
def State.capFrame (s : State) (p : Nat) (time k : Int) (emitted withheld : Nat) : State :=
  s.capture (38 + p) 0x30 time (ofSigned 32 k) (withheld % 256 * 256 + emitted % 256)

/-- Sources 46 to 49 (R327, R328): code 1 CAPTURE, 2 STEP, 3 LOAD. -/
def State.capTk (s : State) (t code : Nat) : State :=
  if code = 1 ∨ srcAux s (46 + t) then
    let k := s.tkAt t
    s.capture (46 + t) 0x40 k.time code (if code = 2 then ofSigned 32 ((k.step.natAbs / 1000 % 1000000000 : Nat) * k.step.sign) else 0)
  else s

/-- The internal events of the command are captured: domain events, and the steps and loads of the time keepers
(R327, R328). -/
def State.capEvents (s : State) : State :=
  s.evq.foldl (fun u e =>
    if 92 ≤ e.src ∧ e.src < 100 ∧ e.src % 2 = 0 ∧ e.real ∧ (e.cause = 1 ∨ e.cause = 2) then
      u.capTk ((e.src - 92) / 2) (e.cause + 1)
    else u) s.capDomEvents

/-! ### Ring writes and retirement (R334, R337, R341) -/

/-- A configuration is valid (R339): the ring's size and base in records.  The old region of a ring stays reserved until its
resize ends (R341). -/
def ringValid (s : State) (k size base : Nat) : Bool :=
  decide (size = 0) || (decide (base % size = 0) && decide (base + size ≤ s.mem.ringCap) &&
    (List.range 16).all fun j =>
      let r := ringAt s j
      j == k || r.size == 0 || decide (base + size ≤ r.base) || decide (r.base + r.span ≤ base))

/-- The size a SIZE code gives, none for an invalid code. -/
def ringSize (code : Nat) : Option Nat :=
  if code = 0 then some 0 else if code < 10 then some (32 * 2 ^ code) else none

/-- A resize ends when the ring is empty (R341). -/
def State.resizeEnd (s : State) (k : Nat) : State :=
  s.ringUp k fun r =>
    match r.next with
    | some (sz, b) => if r.recs.isEmpty then { r with size := sz, span := sz, base := b, next := none } else r
    | none => r

/-- RCFG written (R339, R341). -/
def State.ringConfig (s : State) (k : Nat) : State :=
  let b := s.fld (RING.RCFG_BASE k) * 64
  match ringSize (s.fld (RING.RCFG_SIZE k)) with
  | none => s.ringUp k fun r => { r with cfgErr := true }
  | some sz =>
    if ringValid s k sz b then
      let s := s.ringUp k fun r =>
        if r.next.isNone ∧ r.size = sz ∧ r.base = b then { r with cfgErr := false }
        else { r with cfgErr := false, next := some (sz, b), size := r.used }
      s.resizeEnd k
    else s.ringUp k fun r => { r with cfgErr := true }

/-- FLUSH (R342). -/
def State.ringFlush (s : State) (k : Nat) : State :=
  ((s.ringUp k fun r => { r with flushed := (r.flushed + r.used) % 2 ^ 32, recs := [] }).resizeEnd k).wmCheck k

/-- RING_WRITE (R334, R337): the oldest record in flight for ring k; `bad` says that its check fails at the write. -/
def State.ringWrite (s : State) (k : Nat) (bad : Bool) : State :=
  match s.cap.buf.find? fun r => r.ring == k with
  | none => s
  | some r =>
    let drop := s.capUp fun c => { c with buf := c.buf.erase r }
    let g := ringAt s k
    let off := match g.next with
      | some (z, _) => z == 0
      | none => g.size == 0
    if off then
      let t := if r.counted then drop.srcUp r.src fun c => { c with dropDis := c.dropDis + 1 } else drop
      t.flag CAP.CAP_EVT_DROP_DIS
    else if g.free = 0 then s
    else if bad then
      let t := if r.counted then drop.srcUp r.src fun c => { c with dropInt := c.dropInt + 1 } else drop
      t.flag CAP.CAP_EVT_DROP_INT
    else
      let t := if r.counted then drop.srcUp r.src fun c => { c with delivered := c.delivered + 1 } else drop
      (t.ringUp k fun g => { g with recs := g.recs ++ [r.words], written := (g.written + 1) % 2 ^ 32 }).wmCheck k

/-- The head record of a ring retires (R340, R341). -/
def State.retire (s : State) (k : Nat) : State :=
  let s := s.ringUp k fun r =>
    { r with recs := r.recs.drop 1, taken := (r.taken + 1) % 2 ^ 32, size := if r.next.isSome then r.used - 1 else r.size }
  (s.resizeEnd k).wmCheck k

/-- A reader's number among the read buffers and shadows. -/
def ctxIdx : Ctx → Nat
  | .spi => 0
  | .i2c => 1
  | .hildo => 2
  | .seq => 3
  | .cas => 4

def rdBuf (s : State) (c : Ctx) (k : Nat) : RdBuf := vat (vat s.cap.rd (ctxIdx c)) k
def State.rdUp (s : State) (c : Ctx) (k : Nat) (f : RdBuf → RdBuf) : State :=
  s.capUp fun x => { x with rd := vup x.rd (ctxIdx c) fun v => vup v k f }

/-- RING_READ (R347): the next halfword of the head record for this reader. -/
def State.ringRead (s : State) (c : Ctx) (k : Nat) : Nat × State :=
  let b := rdBuf s c k
  if b.pos = 0 then
    match (ringAt s k).recs.head? with
    | none => (0, s.flag (RING.REVT_EMPTY_READ k))
    | some w => (w.getD 0 0 % 65536, (s.retire k).rdUp c k fun _ => ⟨1, w⟩)
  else
    (b.words.getD (b.pos / 2) 0 / 65536 ^ (b.pos % 2) % 65536,
     s.rdUp c k fun b => if b.pos = 15 then ⟨0, []⟩ else { b with pos := b.pos + 1 })

/-- RD_RESTART (R347). -/
def State.ringRestart (s : State) (c : Ctx) (k : Nat) : State := s.rdUp c k fun _ => ⟨0, []⟩

/-- RCFG.CNT_CLR (R344). -/
def State.ringCntClr (s : State) (k : Nat) : State :=
  s.ringUp k fun r => { r with written := r.used, taken := 0, flushed := 0 }

/-! ### Export (R349 to R351) -/

def expPort (s : State) (c : Nat) : Nat := s.fld (CAP.EXP_CFG_PORT c)

/-- CAP_STAT.EXPc_ERR (R349). -/
def expErr (s : State) (c : Nat) : Bool :=
  s.bit (CAP.EXP_CFG_EN c) && (!s.bit (ETH.ETH_CFG_HILDO_EN (expPort s c)) ||
    (s.bit (CAP.EXP_CFG_EN (1 - c)) && expPort s 0 == expPort s 1))

/-- The channel runs (R349). -/
def expRuns (s : State) (c : Nat) : Bool :=
  s.bit (CAP.EXP_CFG_EN c) && !expErr s c && s.pwr.st == .run && (s.ethAt (expPort s c)).link &&
    (s.ethAt (expPort s c)).tc10 == 0

def State.expUp (s : State) (c : Nat) (f : Export → Export) : State := s.capUp fun x => { x with exp := vup x.exp c f }

/-- The Ethernet frame check sequence of IEEE 802.3. -/
def fcs32 (bs : List Byte) : Nat :=
  Nat.xor (bs.foldl (fun r b => crcStepR 0xEDB88320 8 (Nat.xor r b.toNat)) 0xFFFFFFFF) 0xFFFFFFFF

/-- The bytes of an export frame (R350). -/
def exportFrame (s : State) (c : Nat) : List Byte :=
  let x := vat s.cap.exp c
  let p := expPort s c
  let mac3 := fun (a : Nat) => (List.range 3).flatMap fun i => bytesBE 2 (s.eff1 (a + i))
  let tag := if s.bit (ETH.ETH_CFG_VLAN_EN p) then bytesBE 2 0x8100 ++ bytesBE 2 (s.reg (ETH.VLAN p)) else []
  let hdr := bytesLE 4 (0x0201 + (c * 8 + s.pads.id) * 65536 + x.recs.length * 2 ^ 24) ++ bytesLE 4 x.seq ++
    bytesLE 8 s.now
  let body := hdr ++ x.recs.flatMap fun w => w.flatMap (bytesLE 4)
  let f := mac3 (CAP.EXP_DST c) ++ mac3 (ETH.MAC_ADDR p) ++ tag ++ bytesBE 2 (s.reg PTP.HILDO_ETYPE) ++ body ++
    bytesLE 4 (crc32c body)
  f ++ bytesLE 4 (fcs32 f)

/-- A channel sends its frame (R351). -/
def State.expSend (s : State) (c : Nat) : State :=
  let f := exportFrame s c
  (s.expUp c fun x =>
    { x with recs := [], seq := (x.seq + 1) % 2 ^ 32, fcnt := (x.fcnt + 1) % 65536, frame := f }).bump
    (ETH.TX_HILDO_CNT (expPort s c))

/-- The next ring in turn that holds records (R349). -/
def expNext (s : State) (c : Nat) : Option Nat :=
  let l := (vat s.cap.exp c).last
  ((List.range 16).map fun i => (l + 1 + i) % 16).find? fun k =>
    bitsOf (s.reg (CAP.EXP_MASK c)) k k == 1 && !(ringAt s k).recs.isEmpty

/-- The record's check holds (R334). -/
def recOk (w : List Nat) : Bool := crc32c ((w.take 7).flatMap (bytesLE 4)) == w.getD 7 0

/-- EXPORT_TAKE (R349, R351). -/
def State.expTake (s : State) (c : Nat) : State :=
  if ¬ expRuns s c then s
  else
    match expNext s c with
    | none => s
    | some k =>
      let w := ((ringAt s k).recs.head?).getD []
      let s := s.retire k
      let s := s.flagIf (!recOk w) CAP.CAP_EVT_RING_CRC
      let s := s.expUp c fun x =>
        { x with recs := x.recs ++ [w], firstAt := if x.recs.isEmpty then s.now else x.firstAt, last := k }
      if 46 ≤ (vat s.cap.exp c).recs.length then s.expSend c else s

/-- EXPORT_FLUSH_TIMEOUT (R351). -/
def State.expFlush (s : State) (c : Nat) : State :=
  let x := vat s.cap.exp c
  let w := min 1000 (max 1 (s.fld (CAP.EXP_CFG_FLUSH_US c))) * 1000
  if x.recs ≠ [] ∧ x.firstAt + w ≤ s.now ∧ expRuns s c then s.expSend c else s

/-- The port of a channel can send no more: its frame is discarded (R351). -/
def State.expLost (s : State) (n : Nat) : State :=
  (List.range 2).foldl (fun u c =>
    let l := (vat u.cap.exp c).recs.length
    if expPort u c = n ∧ l ≠ 0 then
      ((u.expUp c fun x => { x with recs := [] }).bump CAP.EXP_LOST_CNT l).flag CAP.CAP_EVT_EXP_LOST
    else u) s

/-- CAP_CTRL.CNT_CLR (R338). -/
def State.capCntClr (s : State) : State :=
  s.capUp fun c =>
    { c with src := c.src.map fun x => { x with captured := 0, delivered := 0, overrun := 0, dropDis := 0, dropInt := 0 },
             buf := c.buf.map fun r => { r with counted := false } }

/-- CAP_CTRL.SEQ_CLR (R332). -/
def State.capSeqClr (s : State) : State := s.capUp fun c => { c with src := c.src.map fun x => { x with seq := 0 } }

/-- Entry to NAP (R353): each record in flight is written if its ring has a credit, else it counts as OVERRUN. -/
def State.capNap (s : State) : State :=
  let s := s.cap.buf.foldl (fun u r =>
    let g := ringAt u r.ring
    if g.free = 0 then
      (if r.counted then u.srcUp r.src fun c => { c with overrun := c.overrun + 1 } else u).ringOverrun r.ring
    else
      let u := if r.counted then u.srcUp r.src fun c => { c with delivered := c.delivered + 1 } else u
      (u.ringUp r.ring fun g => { g with recs := g.recs ++ [r.words], written := (g.written + 1) % 2 ^ 32 }).wmCheck r.ring) s
  s.capUp fun c => { c with buf := [] }

/-! ### The window (R357) -/

/-- The source that SRC_SEL addresses. -/
def selSrc (s : State) : Option Nat :=
  let i := s.fld CAP.SRC_SEL_SRC
  if i < 50 then some i else none

/-- Totals over all sources with SRC_SEL = 64 (R338). -/
def capTotal (s : State) (f : CapSrc → Nat) : Nat := sumNat (s.cap.src.toList.map f)

/-- A counter of the selected source or of the totals. -/
def capShown (s : State) (f : CapSrc → Nat) : Nat :=
  match selSrc s with
  | some i => f (capSrc s i)
  | none => if s.fld CAP.SRC_SEL_SRC = 64 then capTotal s f else 0

/-- SRC_CFG, SRC_DEC and SKIP_CNT of the selected source are written. -/
def State.srcCfgWritten (s : State) (w : Nat) : State :=
  match selSrc s with
  | none => s
  | some i => s.srcUp i fun c =>
      if bitsOf c.cfg 15 15 = 0 ∧ bitsOf w 15 15 = 1 then { c with cfg := w, edges := 0, kept := 0, last := none }
      else { c with cfg := w }

end Sys2Proof.Machine
end

