-- ==== Sys2Proof/Machine/TxnBase.lean ====
section
/-! DEFINITION. Transactions: results, the completion log, and how waiting and open transactions end without being applied
(12: R414 to R424). -/
namespace Sys2Proof.Machine

def State.accUp (s : State) (f : Access → Access) : State := { s with acc := f s.acc }
def txnAt (s : State) (c : Ctx) : TxnCtx := vat s.acc.ctx (ctxIdx c)
def State.txnUp (s : State) (c : Ctx) (f : TxnCtx → TxnCtx) : State :=
  { s with acc := { s.acc with ctx := vup s.acc.ctx (ctxIdx c) f } }
def slotOf (s : State) (w : Nat) : WaitSlot := vat s.acc.slots w
def State.slotUp (s : State) (w : Nat) (f : WaitSlot → WaitSlot) : State :=
  { s with acc := { s.acc with slots := vup s.acc.slots w f } }

/-- A transaction completes with a result (R423): LAST_RES and LAST_ID, the log, the event of source 15 or 14. -/
def State.txnEnd (s : State) (c : Ctx) (id res slot count : Nat) : State :=
  let s := s.txnUp c fun x => { x with res := res, resSlot := slot, resCount := count, lastId := id }
  let s := s.accUp fun a => { a with log := ((id, res, ctxIdx c, count, s.epoch % 65536) :: a.log).take 16 }
  if res = 1 then
    ((s.flag REG.ACC_EVT_TXN_DONE).bump REG.TXN_DONE_CNT).raise 15 .info 4 (ctxIdx c * 8192) id
  else ((s.flag REG.ACC_EVT_TXN_ABORT).bump REG.TXN_ABORT_CNT).raise 14 .warn 3 (ctxIdx c * 8192) id

/-- The context is idle again; COUNT stands until the next OPEN (R415). -/
def TxnCtx.close (x : TxnCtx) : TxnCtx :=
  { x with isOpen := false, doomOvf := false, doomLock := false, entries := [], staged := x.entries.length }

/-- The open transaction ends unapplied (R420). -/
def State.openAbort (s : State) (c : Ctx) (res : Nat) : State :=
  let x := txnAt s c
  if x.isOpen then (s.txnUp c TxnCtx.close).txnEnd c x.id res 7 x.entries.length else s

/-- The waiting transaction of slot w ends unapplied (R420). -/
def State.slotAbort (s : State) (w res : Nat) : State :=
  let x := slotOf s w
  if x.busy then (s.slotUp w fun _ => WaitSlot.reset).txnEnd x.ctx x.id res w x.entries.length else s

/-- Entry to NAP or DORMANT: every waiting transaction aborts as LATE (R418, R467). -/
def State.slotsLate (s : State) : State := (List.range 4).foldl (fun t w => t.slotAbort w 2) s

/-- A transaction with these entries and this commit point targets synthesiser k (R220): its page, an OUT register of an
output assigned to it, or its strobe. -/
def synTarget (s : State) (es : List Entry) (at' arg k : Nat) : Bool :=
  (at' == 4 && arg == k) || es.any fun e =>
    (decide (0x1800 ≤ e.addr) && decide (e.addr < 0x1F00) && (e.addr - 0x1800) / 256 == k) ||
    (decide (0x2000 ≤ e.addr) && decide (e.addr < 0x2500) && outSyn s ((e.addr - 0x2000) / 32) == k)

/-- The first UNLOCKED synthesiser that the transaction targets: it aborts it (R220). -/
def badSyn (s : State) (es : List Entry) (at' arg : Nat) : Option Nat :=
  (List.range 7).find? fun k => (vat s.syn k).st == .unlocked && synTarget s es at' arg k

/-- The abort of R220, with the synthesiser's own flag and counter (R227). -/
def State.synAbort (s : State) (k : Nat) : State := (s.flag (SYN.EVT_TXN_ABORT k)).bump (SYN.TXN_ABORT_CNT k)

/-- A sequencer restart ends the sequencer's open transaction as CANCELLED (R480). -/
def State.seqRestart (s : State) : State := ({ s with seq := ⟨true⟩ }).openAbort .seq 8

end Sys2Proof.Machine
end

