-- ==== Sys2Proof/Machine/CasLink.lean ====
section
/-! DEFINITION. The Tailwind link (11: R359 to R377, R386): roles and positions, link ends, frames, delay calibration,
reference 32, time over the link, loss of the master and takeover.  How a broadcast ends is here too; the rest of it is in Bcast.lean. -/
namespace Sys2Proof.Machine

def State.casUp (s : State) (f : Cas → Cas) : State := { s with cas := f s.cas }

/-- Frame numbers wrap here (R365). -/
def frameMod : Nat := 4294000000

/-- Frame b is at or ahead of frame a (R365). -/
def frameAhead (a b : Nat) : Bool := decide ((b + frameMod - a % frameMod) % frameMod < 2147000000)

/-- The role selected: by the pads, or by CAS_CFG.ROLE (R360). -/
def roleSel (s : State) : Nat := if s.bit CAS.CAS_CFG_ROLE_SRC then s.fld CAS.CAS_CFG_ROLE else s.pads.casRole

/-- The cascade runs: enabled, a role, and the module in RUN (R360, R369). -/
def casOn (s : State) : Bool :=
  s.bit CAS.CAS_CFG_EN && s.cas.setEn && s.cas.role != 0 && s.pwr.st == .run && !s.pwr.holdup

/-- The UP end may run. -/
def upOn (s : State) : Bool := casOn s && !s.unitOut 41

/-- The DN end may run: DN_DOM names a domain, and the position is not 8 (R361, R364). -/
def dnOn (s : State) : Bool := casOn s && !s.unitOut 42 && decide (s.fld CAS.CAS_CFG_DN_DOM < 6) && !s.cas.posErr

/-- An event of sources 28 and 29: word 5 is position [15:13] and cause [3:0]. -/
def State.casEvent (s : State) (src : Nat) (sev : Severity) (cause : Nat) : State :=
  s.raise src sev cause (s.cas.pos % 8 * 8192)

/-! ### The end of a broadcast (R381 to R383) -/

/-- A broadcast ends: LAST_RESULT 1 APPLIED, 2 late, 3 overflow, 4 refused, 5 CRC; an abort is reported. -/
def State.bcEnd (s : State) (result : Nat) : State :=
  let s := s.casUp fun c => { c with bc := { c.bc with st := 0, slot := 4, result := result } }
  if result = 1 then s.bump CAS.BCAST_CNT
  else ((s.flag CAS.CAS_EVT_BCAST_ABORT).bump CAS.BCAST_ABORT_CNT).casEvent 29 .warn 6

/-- The broadcast on this module is aborted, its wait slot with the transaction result `res`. -/
def State.bcAbort (s : State) (result res : Nat) : State :=
  if s.cas.bc.st = 0 then s else (s.slotAbort s.cas.bc.slot res).bcEnd result

/-- A broadcast that still waits for GO ends as late (R383); one that holds GO is applied (R381). -/
def State.bcLost (s : State) : State := if s.cas.bc.st = 3 then s else s.bcAbort 2 2

/-! ### Reference 32 (R374) -/

/-- The failing condition of reference 32, first in the table's order, 0 with none. -/
def casFail (s : State) : Nat :=
  if s.cas.posErr then 4 else if s.cas.up ≠ 2 then 1 else if s.cas.rxLost then 2 else if !s.cas.rxCal then 3
  else if s.cas.crcFail then 5 else 0

/-- The state and cause that the table gives. -/
def casRefNext (s : State) : QState × Nat :=
  if s.cas.role ≠ 2 ∨ ¬ casOn s ∨ ¬ (s.cas.upEver || s.cas.posErr) then (.absent, 0)
  else if casFail s ≠ 0 then (.failed, casFail s)
  else if s.cas.ref = .failed ∨ s.cas.ref = .wait then (.wait, 0)
  else if s.cas.rxHold then (.suspect, 0)
  else (.valid, 0)

/-- Reference 32 takes a state; entry to FAILED is a WARN, every other change an INFO of source 29. -/
def State.casRefTo (s : State) (q : QState) (cause : Nat) : State :=
  let old := s.cas.ref
  let s := s.casUp fun c =>
    { c with ref := q, cause := cause, waited := if q = .wait ∧ old ≠ .wait then 0 else c.waited,
             clear := if q = .wait ∧ old ≠ .wait then 0 else c.clear }
  if old = q then s else s.casEvent 29 (if q = .failed then .warn else .info) 8

def State.casRef (s : State) : State := let r := casRefNext s; s.casRefTo r.1 r.2

/-- The wait is over (R78, R374). -/
def casWaited (s : State) : Bool :=
  let w := min 3600 (s.fld CAS.REF_WTR_WTR)
  if w = 0 then decide (2 ≤ s.cas.clear) else decide (w * 1000000000 ≤ s.cas.waited)

/-- REF_LEFT in whole seconds. -/
def casLeft (s : State) : Nat :=
  if s.cas.ref = .wait then
    cdiv (min 3600 (s.fld CAS.REF_WTR_WTR) * 1000000000 - s.cas.waited) 1000000000
  else 0

/-- CAS_REF_WTR_EXPIRE: the reference leaves WAIT. -/
def State.casWtrExpire (s : State) : State :=
  if s.cas.ref = .wait ∧ casFail s = 0 ∧ casWaited s then s.casRefTo (if s.cas.rxHold then .suspect else .valid) 0 else s

/-! ### Link ends and roles (R360, R361, R368, R369, R375 to R377) -/

/-- Tracker 24 is active while the UP link is up (R102). -/
def State.trk24 (s : State) : State :=
  let on := s.cas.up == 2
  if (s.trkAt 24).active = on then s
  else
    (s.trkUp 24 fun t =>
      { t with active := on, anchored := false, newEdge := false, num := 1000000, den := 1, prediv := 0, reanchor := true,
               reanchored := false }).casUp fun c => { c with samples24 := [] }

/-- The samples of the delay calibration are discarded; CAL_VALID clears, which is reported (R371). -/
def State.calClear (s : State) : State :=
  let was := s.cas.calValid
  let s := s.casUp fun c => { c with ds := [], calValid := false }
  if was then ((s.flag CAS.CAS_EVT_CAL_FAULT).bump CAS.CAL_FAULT_CNT).casEvent 28 .warn 3 else s

/-- Both ends go DOWN; `counted` for a fall that is reported (R368), not for the power ladder's (R466). -/
def State.upFall (s : State) (counted : Bool) : State :=
  if s.cas.up = 0 then s
  else
    let s := s.casUp fun c =>
      { c with up := 0, upGood := 0, upBad := 0, upSince := if c.up = 2 then s.now else c.upSince, crcFail := false, crcEp := 0,
               conflict := false, bc := { c.bc with cut := c.bc.cut || c.bc.st == 2 } }
    let s := if counted then ((s.flag CAS.CAS_EVT_UP_DOWN).bump CAS.UP_DOWN_CNT).casEvent 28 .warn 1 else s
    let s :=
      if counted ∧ s.cas.role = 2 then
        let s := (s.casUp fun c => { c with lost := true }).flag CAS.CAS_EVT_MASTER_LOST
        (s.bump CAS.MLOSS_CNT).casEvent 29 .warn 4
      else s
    s.trk24.casRef

def State.dnFall (s : State) (counted : Bool) : State :=
  if s.cas.dn = 0 then s
  else
    let s := s.casUp fun c => { c with dn := 0, dnGood := 0, dnBad := 0, below := 0, gone := [] }
    if counted then ((s.flag CAS.CAS_EVT_DN_DOWN).bump CAS.DN_DOWN_CNT).casEvent 28 .warn 2 else s

/-- The ends that may run train (R368). -/
def State.casTrain (s : State) : State :=
  let up := upOn s && s.cas.up == 0
  let dn := dnOn s && s.cas.dn == 0
  s.casUp fun c =>
    { c with up := if up then 1 else c.up, upGood := if up then 0 else c.upGood, upBad := if up then 0 else c.upBad,
             upAt := if up then s.now else c.upAt,
             dn := if dn then 1 else c.dn, dnGood := if dn then 0 else c.dnGood, dnBad := if dn then 0 else c.dnBad,
             dnAt := if dn then s.now else c.dnAt }

/-- The command channels and the frames seen start afresh. -/
def Cas.dropFrames (c : Cas) : Cas :=
  { c with relay := [], relayUp := [], fwdHold := [], retHold := [], fwdIn := [], retIn := [], fwdOut := [], retOut := [],
           repIn := [], rxFrame := none }

/-- Ends that may no longer run are off: EN at 0, no role, below RUN, DN_DOM off (R360, R364, R369). -/
def State.casOff (s : State) : State :=
  let s := if upOn s then s else s.upFall false
  let s := if dnOn s then s else s.dnFall false
  if casOn s then s
  else ((s.casUp fun c => { c.dropFrames with upEver := false, lost := false }).bcAbort 2 2).casRef

/-- A new role is in force (R360, R362): both links are dropped and retrain. -/
def State.casRole (s : State) : State :=
  let r := if s.bit CAS.CAS_CFG_EN then roleSel s else 0
  let s := ((s.bcAbort 2 2).upFall true).dnFall true
  let s := s.casUp fun c =>
    { c.dropFrames with
      role := if r = 3 then 2 else r, deputy := r == 3, setRole := roleSel s, setSrc := s.bit CAS.CAS_CFG_ROLE_SRC,
      setEn := s.bit CAS.CAS_CFG_EN, pos := 0, below := 0, gen := 0, upEver := false, lost := false, rxLost := false,
      rxHold := false, rxCal := false, posErr := false, conflict := false, reports := [],
      gone := [] }
  s.calClear.casRef.casTrain

/-- A change of role, of ROLE_SRC or of EN waits for the epoch edge. -/
def casRoleDue (s : State) : Bool :=
  s.cas.setRole != roleSel s || s.cas.setSrc != s.bit CAS.CAS_CFG_ROLE_SRC || s.cas.setEn != s.bit CAS.CAS_CFG_EN

/-- The deputy is not at position 1, or the position is 8 (R361, R362). -/
def casCfgErr (s : State) : Bool := s.cas.posErr || (s.cas.deputy && s.cas.role == 2 && s.cas.upEver && s.cas.pos != 1)

/-- CAS_LINK_DOWN (R368): three frame times without a marker, or 16 consecutive CRC failures. -/
def State.casLinkDown (s : State) (up : Bool) : State :=
  if up then
    if s.cas.upAt + 3000 ≤ s.now ∨ 16 ≤ s.cas.upBad then s.upFall true else s
  else if s.cas.dnAt + 3000 ≤ s.now ∨ 16 ≤ s.cas.dnBad then s.dnFall true
  else s

/-- TAKEOVER as applied (R376), in ns. -/
def takeoverNs (s : State) : Nat := min 1000 (max 1 (s.fld CAS.TKO_CFG_TAKEOVER)) * 10000000

/-- CAS_TAKEOVER is due (R376). -/
def takeoverDue (s : State) : Bool :=
  casOn s && s.cas.deputy && s.cas.role == 2 && s.cas.pos == 1 && s.cas.up != 2 &&
    decide (s.cas.upSince + takeoverNs s ≤ s.now)

/-- CAS_TAKEOVER: the deputy becomes master (R376). -/
def State.takeOver (s : State) : State :=
  if ¬ takeoverDue s then s
  else
    let s := s.bcLost
    let s := s.casUp fun c => { c with role := 3, pos := 0, gen := (c.gen + 1) % 256, lost := false }
    (((s.flag CAS.CAS_EVT_TAKEOVER).bump CAS.TAKEOVER_CNT).casEvent 29 .warn 5).casRef

/-- YIELD (R377): an acting deputy master is a slave again. -/
def State.casYield (s : State) : State :=
  if s.cas.role = 3 then
    (s.casUp fun c => { c with role := 2, pos := 1, conflict := false, upEver := c.up == 2, reports := [] }).trk24.casRef
  else s

/-! ### Delay calibration (R370, R371) -/

def calN (s : State) : Nat := 2 ^ min 10 (s.fld CAS.CAS_CFG2_CAL_AVG)

/-- The mean of the samples held, at every epoch. -/
def State.calEpoch (s : State) : State :=
  let ds := s.cas.ds.take (calN s)
  if ds.isEmpty then s
  else
    let m := rdiv 65 (sumInt ds) ds.length
    let hi := ds.foldl max (ds.headD 0)
    let lo := ds.foldl min (ds.headD 0)
    let ok := decide (calN s ≤ ds.length) && decide (m ≤ 500000) && decide (hi - lo ≤ 100)
    let was := s.cas.calValid
    let s := s.casUp fun c => { c with dDn := m, calValid := ok }
    if was && !ok then ((s.flag CAS.CAS_EVT_CAL_FAULT).bump CAS.CAL_FAULT_CNT).casEvent 28 .warn 3 else s

/-! ### Frames (R364 to R367) -/

/-- Bytes 25 to 56 of a frame: the command channel. -/
def cmdOf (bs : List Byte) : List Byte := (bs.drop 25).take 32

/-- A frame of 250 characters with its CRC. -/
def frameBytes (n flags pos gen : Nat) (time : List Byte) (d below : Nat) (cmd reps : List Byte) : List Byte :=
  let body := bytesLE 4 n ++ [BitVec.ofNat 8 flags, BitVec.ofNat 8 pos, BitVec.ofNat 8 gen] ++ time ++ bytesLE 4 d ++
    [BitVec.ofNat 8 below] ++ cmd ++ reps ++ List.replicate 77 0
  0xBC :: body ++ bytesLE 4 (crc32c body)

/-- The frame's length and CRC are good (R368). -/
def frameGood (bs : List Byte) : Bool :=
  bs.length == 250 && natLE (bs.drop 246) == crc32c ((bs.drop 1).take 245)

/-- Own bytes for the command channel of one frame, padded with idle. -/
def take32 (q : List Byte) : List Byte := q.take 32 ++ List.replicate (32 - (q.take 32).length) 0

/-- SRC_HOLD is sent while DN_DOM is not LOCKED, or the master is lost (R374, R375). -/
def srcHold (s : State) : Bool :=
  s.cas.lost || !(decide (s.fld CAS.CAS_CFG_DN_DOM < 6) && (s.domAt (s.fld CAS.CAS_CFG_DN_DOM)).st == .locked)

/-- The flags of a forward frame: TIME_VALID, SRC_HOLD, MASTER_LOST, CAL_VALID (R367, R373, R375). -/
def fwdFlags (s : State) : Nat :=
  ((s.tkAt (s.fld CAS.CAS_CFG_TOD_TK)).st != .stopped).toNat + 2 * (srcHold s).toNat +
    4 * (s.cas.lost || (s.cas.role == 2 && s.cas.rxLost)).toNat + 8 * s.cas.calValid.toNat

/-- The time fields of a forward frame: seconds, nanoseconds and the fraction of the time keeper at an instant (R373). -/
def timeFields (s : State) (n : Nat) (inst : Nat) : List Byte :=
  if n % 1000 = 0 then
    let t := (stampTime s (s.fld CAS.CAS_CFG_TOD_TK) inst).toNat
    let ns := t / 2 ^ 80
    bytesLE 6 (ns / 1000000000) ++ bytesLE 4 (ns % 1000000000) ++ bytesLE 2 (t / 2 ^ 64 % 65536)
  else List.replicate 12 0

/-- The number of the frame that departs at a stamp (R364): on a master the count of whole microseconds of DN_DOM's
timebase, on a slave the upstream frame whose chain instant is nearest; without either the count goes on. -/
def chainNo (s : State) (stamp : Nat) : Nat :=
  let near := fun (n : Nat) (at' : Int) =>
    (((n : Int) + rnear 66 ((stamp : Int) - at') 1000000) % (frameMod : Int)).toNat
  if s.cas.role = 1 then
    ((rnear 66 (((stamp : Int) * 2 ^ 40) + (s.domAt (s.fld CAS.CAS_CFG_DN_DOM)).phaseF) (1000000 * 2 ^ 40)) %
      (frameMod : Int)).toNat
  else match s.cas.role, s.cas.up, s.cas.rxFrame, s.cas.gone with
    | 2, 2, some (n, a), _ => near n ((a : Int) - s.cas.dUp)
    | _, _, _, (n, a) :: _ => near n a
    | _, _, some (n, a), _ => near n ((a : Int) - s.cas.dUp)
    | _, _, _, _ => 0

/-- The chain instant of the frame sent: the departure on a master, the arrival minus D_UP on a slave (R364). -/
def chainInst (s : State) (n stamp : Nat) : Nat :=
  match s.cas.role, s.cas.rxFrame with
  | 2, some (m, a) =>
    if s.cas.up = 2 then
      let d : Int := if frameAhead m n then ((n + frameMod - m) % frameMod : Nat) else -((m + frameMod - n) % frameMod : Nat)
      ((a : Int) - s.cas.dUp + d * 1000000).toNat
    else stamp
  | _, _ => stamp

/-- The command bytes of the forward frame n: the relay of frame n − 2 where it is not idle, else own bytes (R366). -/
def State.fwdCmd (s : State) (n : Nat) : List Byte × State :=
  let r := (s.cas.relay.find? fun x => (x.1 + 2) % frameMod == n).map (·.2)
  match r with
  | some b => if b.all (· == 0) then (take32 s.cas.fwdOut, s.casUp fun c => { c with fwdOut := c.fwdOut.drop 32 }) else (b, s)
  | none => (take32 s.cas.fwdOut, s.casUp fun c => { c with fwdOut := c.fwdOut.drop 32 })

/-- The forward marker and frame n leave at the DN end (R363, R364). -/
def State.forwardSend (s : State) (n stamp : Nat) : State :=
  let c := s.fwdCmd n
  let s := c.2
  let f := frameBytes n (fwdFlags s) s.cas.pos s.cas.gen (timeFields s n (chainInst s n stamp))
    (ofSigned 32 s.cas.dDn) 0 c.1 (List.replicate 112 0)
  s.casUp fun x => { x with frameNo := n, gone := ((n, stamp) :: x.gone).take 8, fwdSent := f }

/-- The report of this module (R386); the places of the flags are PRESUMED (log entry 40). -/
def ownReport (s : State) : List Byte :=
  let d := s.fld CAS.CAS_CFG_DN_DOM
  let x := s.domAt d
  let st := if d < 6 then x.st.code else 0
  let res := if d < 6 then satSym 16 (x.errF.fdiv (2 ^ 40)) else 0
  BitVec.ofNat 8 (s.cas.ref.code * 32 + st * 4 + s.cas.rxCal.toNat * 2 + 1) :: bytesLE 4 (ofSigned 32 s.cas.dUp) ++
    bytesLE 2 (ofSigned 16 res) ++ bytesLE 2 (s.reg CAS.FRAME_ERR_CNT) ++
    bytesLE 4 (ofSigned 32 (satSigned 32 (s.tkAt (s.fld CAS.CAS_CFG_TOD_TK)).ofs)) ++ [0, 0, 0]

/-- The seven report slots of a return frame: own, and those from below (R366, R386). -/
def reportSlots (s : State) : List Byte :=
  (List.range 7).flatMap fun i =>
    if i + 1 = s.cas.pos then ownReport s
    else match s.cas.repIn.find? fun x => x.1 == i + 1 with
      | some x => x.2.1
      | none => List.replicate 16 0

/-- Return frame n of a slave (R366, R370): TURN is 500,000 ps less D_UP. -/
def State.returnFrame (s : State) (n : Nat) : State :=
  let r := (s.cas.relayUp.find? fun x => (x.1 + 2) % frameMod == n).map (·.2)
  let c : List Byte × Bool := match r with
    | some b => if b.all (· == 0) then (take32 s.cas.retOut, true) else (b, false)
    | none => (take32 s.cas.retOut, true)
  let f := frameBytes n 0 s.cas.pos 0 (List.replicate 12 0) (ofSigned 32 (500000 - s.cas.dUp)) (s.cas.below + 1) c.1
    (reportSlots s)
  s.casUp fun x => { x with retSent := f, retOut := if c.2 then x.retOut.drop 32 else x.retOut }

/-- A cascade measurement for the time keepers with SRC CASCADE (R278, R373). -/
def State.casTime (s : State) (inst : Nat) (bs : List Byte) : State :=
  let sec := natLE ((bs.drop 8).take 6)
  let ns := natLE ((bs.drop 14).take 4)
  let fr := natLE ((bs.drop 18).take 2)
  let ps : Int := ((sec * 1000000000 + ns) * 1000 : Nat) + rdiv 67 (fr * 1000 : Nat) 65536
  (List.range 4).foldl (fun u t => if tkSrc u t = 6 then u.tkMeasure t ((stampOf u t inst).map (· - ps)) else u) s

/-- The content of a good forward frame reaches a slave (R361, R371, R373, R374). -/
def State.fwdContent (s : State) (stamp n : Nat) (bs : List Byte) : State :=
  let fl := (bs.getD 5 0).toNat
  let p := (bs.getD 6 0).toNat + 1
  let gen := (bs.getD 7 0).toNat
  let newGen := s.cas.rxFrame.isSome && s.cas.gen != gen
  let s := s.casUp fun c =>
    { c with pos := min 7 p, posErr := decide (8 ≤ p), gen := gen, rxHold := bitsOf fl 1 1 == 1,
             rxLost := bitsOf fl 2 2 == 1, rxCal := bitsOf fl 3 3 == 1, dUpNext := toSigned 32 (natLE ((bs.drop 20).take 4)),
             rxFrame := some (n, stamp), frameNo := n, relay := ((n, cmdOf bs) :: c.relay).take 4,
             fwdHold := c.fwdHold ++ [(n, cmdOf bs)] }
  let s := if newGen then s.bcLost else s
  let s := if s.cas.posErr then s.dnFall true else s
  let s := s.casRef
  let s := if newGen ∧ casFail s = 0 ∧ s.cas.ref ≠ .absent then s.casRefTo .wait 0 else s
  if n % 1000 = 0 ∧ bitsOf fl 0 0 = 1 then s.casTime (((stamp : Int) - s.cas.dUp).toNat) bs else s

/-- The UP end rises (R368). -/
def State.upRise (s : State) : State :=
  let s := s.casUp fun c => { c with up := 2, upEver := true, lost := false }
  let s := s.casEvent 28 .info 1
  let s := s.trk24
  if s.cas.role = 1 ∨ s.cas.role = 3 then
    ((s.casUp fun c => { c with conflict := true }).flag CAS.CAS_EVT_CONFLICT).casEvent 29 .warn 7
  else s

/-- A frame received at the UP end with the stamp of its marker (R363 to R368); with it the number of a frame whose content
a slave took. -/
def State.forwardFrame (s : State) (stamp : Nat) (bs : List Byte) : State × Option Nat :=
  if ¬ upOn s then (s, none)
  else
    let s := s.casUp fun c => { c with upAt := s.now, up := max 1 c.up }
    let s := s.trkEdges 24 1 stamp stamp
    if ¬ frameGood bs then
      let s := (s.casUp fun c => { c with upGood := 0, upBad := c.upBad + 1, crcEp := c.crcEp + 1 }).bump CAS.FRAME_ERR_CNT
      (if 16 ≤ s.cas.crcEp ∧ ¬ s.cas.crcFail then (s.casUp fun c => { c with crcFail := true }).casRef else s, none)
    else
      let s := s.casUp fun c => { c with upGood := c.upGood + 1, upBad := 0 }
      let s := if s.cas.up = 1 ∧ 16 ≤ s.cas.upGood then s.upRise else s
      let n := natLE ((bs.drop 1).take 4)
      if frameMod ≤ n then (s.bump CAS.FRAME_ERR_CNT, none)
      else if s.cas.up = 2 ∧ s.cas.role = 2 then (s.fwdContent stamp n bs, some n)
      else (s, none)

/-- The content of a good return frame: a round trip (R370), the modules below (R361), the reports (R386). -/
def State.retContent (s : State) (stamp n : Nat) (bs : List Byte) : State :=
  let turn := toSigned 32 (natLE ((bs.drop 20).take 4))
  let s := match s.cas.gone.find? fun x => x.1 == n with
    | some x =>
      let rt : Int := (stamp : Int) - x.2 - turn
      let d := rdiv 68 (rt + toSigned 16 (s.reg CAS.ASYM_DN)) 2
      s.casUp fun c => { c with rt := rt, ds := (d :: c.ds).take 1024 }
    | none => s
  let reps := (List.range 7).filterMap fun i =>
    let b := (bs.drop (57 + 16 * i)).take 16
    if (b.headD 0).toNat % 2 = 1 then some (i + 1, b, s.epoch) else none
  let keep := s.cas.repIn.filter fun x => !(reps.any fun y => y.1 == x.1)
  s.casUp fun c =>
    { c with below := (bs.getD 24 0).toNat, repIn := keep ++ reps, relayUp := ((n, cmdOf bs) :: c.relayUp).take 4,
             retHold := c.retHold ++ [(n, cmdOf bs)] }

/-- CAS_RETURN_FRAME: a frame received at the DN end. -/
def State.backFrame (s : State) (stamp : Nat) (bs : List Byte) : State :=
  if ¬ dnOn s then s
  else
    let s := s.casUp fun c => { c with dnAt := s.now, dn := max 1 c.dn }
    if ¬ frameGood bs then (s.casUp fun c => { c with dnGood := 0, dnBad := c.dnBad + 1 }).bump CAS.FRAME_ERR_CNT
    else
      let s := s.casUp fun c => { c with dnGood := c.dnGood + 1, dnBad := 0 }
      let s :=
        if s.cas.dn = 1 ∧ 16 ≤ s.cas.dnGood then (s.casUp fun c => { c with dn := 2 }).casEvent 28 .info 2 else s
      let n := natLE ((bs.drop 1).take 4)
      if frameMod ≤ n then s.bump CAS.FRAME_ERR_CNT
      else if s.cas.dn = 2 then s.retContent stamp n bs
      else s

/-! ### The epoch edge -/

/-- Reference 32's frequency is measured as a monitor measures one (R57), over 100 ms of tracker 24 (DESIGN CHOICE, log
entry 42). -/
def State.casFreq (s : State) : State :=
  let t := s.trkAt 24
  if ¬ (t.active ∧ t.anchored) ∨ s.cas.samples24.head?.map (·.1) = some t.stamp then s
  else
    let l := (t.stamp, t.phase) :: s.cas.samples24.filter fun q => decide (t.stamp ≤ q.1 + 100000000000)
    s.casUp fun c => { c with samples24 := l, fofs := fofsOf 1 s.loa.termF l c.fofs }

/-- The cascade at an epoch edge: role, a DN end that DN_DOM turns off, calibration, CRC count, reference 32, the chain table. -/
def State.casEpoch (s : State) : State :=
  let s := if casRoleDue s then s.casRole else s
  let s := if dnOn s then s else s.dnFall true
  let s := s.calEpoch
  let s := s.casUp fun c => { c with crcFail := decide (16 ≤ c.crcEp), crcEp := 0 }
  let s := s.casFreq
  let s := s.casUp fun c =>
    if c.ref = .wait ∧ casFail s = 0 then { c with waited := c.waited + 25000, clear := c.clear + 1 } else c
  let s := s.casRef
  if s.cas.isMaster then s.casUp fun c => { c with reports := c.repIn } else s.casUp fun c => { c with reports := [] }

end Sys2Proof.Machine
end

