-- ==== Sys2Proof/Machine/Nvs.lean ====
section
/-! DEFINITION. The non-volatile store (13: R435 to R449): spread counters, the two-slot pages, user pages, protection, the
margin scrubber, the fault log, and the secure shadow (16: R522).  What a STORE collects is in Store.lean. -/
namespace Sys2Proof.Machine

def State.nvsUp (s : State) (f : Nvs → Nvs) : State := { s with nvs := f s.nvs }

/-- An event of sources 24 and 25 (R438, R437): word 5 is page [15:8] and cause [3:0]. -/
def State.nvsEvent (s : State) (src : Nat) (sev : Severity) (cause page : Nat) : State :=
  s.raise src sev cause (page % 256 * 256)

/-! ### Spread counters (R446 to R448) -/

def ctrOf (s : State) (k : Nat) : Nat := vat s.nvs.ctr k

/-- An increment that hold-up lets begin (R442): POWER_FAIL, that of the STORE in progress, and TAMPER (R555). -/
def incBegins (s : State) (k : Nat) : Bool := !s.pwr.holdup || k == 1 || k == 2 || k == 5

/-- An increment of counter k begins; it is acknowledged by COUNTER_INCREMENT_ACK. -/
def State.countInc (s : State) (k : Nat) : State :=
  if incBegins s k then s.nvsUp fun x => { x with incs := x.incs ++ [k] } else s

/-- The rated life of a counter (R447). -/
def ratedLife : Nat := 12800000

/-- Counter k is one higher; as it passes its rated life source 25 warns (R446, R447). -/
def State.ctrBump (s : State) (k : Nat) : State :=
  let s := s.nvsUp fun x => { x with ctr := vup x.ctr k fun v => (v + 1) % 2 ^ 32 }
  if ctrOf s k = ratedLife + 1 then (s.flag NVS.NVS_EVT_CNT_LIFE).nvsEvent 25 .warn 7 0 else s

/-- CNT_INC written 1 (R448): no effect while an increment of a user counter is on its way, except in the cycle that
acknowledges it (R410), or under hold-up (R442). -/
def State.userInc (s : State) : State :=
  if s.nvs.userInc.isSome || s.pwr.holdup then s.goNote NVS.NVS_CTRL_CNT_INC s.nvs.userInc.isSome
  else
    let k := 12 + s.fld NVS.NVS_CTRL_USR_SEL
    (s.nvsUp fun x => { x with userInc := some k }).countInc k

/-- COUNTER_INCREMENT_ACK: the oldest increment is programmed, verified and acknowledged; after three failed cells it is
not, and VERIFY_FAIL is set (R446).  CNT_INC clears at the acknowledgement of its own increment (R448). -/
def State.incAck (s : State) (ok : Bool) : State :=
  match s.nvs.incs with
  | [] => s
  | k :: rest =>
    let s := s.nvsUp fun x => { x with incs := rest }
    if ok then
      if s.nvs.userInc = some k then
        ((s.nvsUp fun x => { x with userInc := none }).ctrBump k).goEnd NVS.NVS_CTRL_CNT_INC State.userInc
      else s.ctrBump k
    else s.flag NVS.NVS_EVT_VERIFY_FAIL

/-! ### Pages (R436 to R438) -/

/-- Generation a is newer than b: 1 to 2^23 ahead, modulo 2^24 (R436). -/
def newer (a b : Nat) : Bool :=
  let d := (a + 2 ^ 24 - b % 2 ^ 24) % 2 ^ 24
  decide (1 ≤ d) && decide (d ≤ 2 ^ 23)

/-- The slot's commit word is valid but for the CRC of the data, which is checked when the data are read. -/
def committed (x : Option Slot) : Bool :=
  match x with
  | some y => y.word
  | none => false

/-- The slot's data match the CRC of its commit word. -/
def dataOk (x : Option Slot) : Bool :=
  match x with
  | some y => y.word && y.crc == crc16 y.data
  | none => false

/-- Slot h of page p. -/
def slotAt (s : State) (p h : Nat) : Option Slot := vat s.nvs.slots (2 * p + h)

def genOf (x : Option Slot) : Nat := (x.map (·.gen)).getD 0

/-- The half that holds the newer committed slot of a page, if any (R436). -/
def newest (s : State) (p : Nat) : Option Nat :=
  let a := slotAt s p 0
  let b := slotAt s p 1
  if committed a then (if committed b && newer (genOf b) (genOf a) then some 1 else some 0)
  else if committed b then some 1 else none

/-- What reading a page finds (R436, R438): the half to read, if any, and 0 as it should be, 1 STALE, 2 BAD. -/
def pageFind (s : State) (p : Nat) : Option Nat × Nat :=
  match newest s p with
  | none => (none, 0)
  | some h =>
    if dataOk (slotAt s p h) then (some h, 0)
    else if dataOk (slotAt s p (1 - h)) then (some (1 - h), 1)
    else (none, 2)

/-- The bytes of a page; with no valid slot every byte reads 0xFF. -/
def pageData (s : State) (p : Nat) : List Byte :=
  match (pageFind s p).1 with
  | some h => ((slotAt s p h).map (·.data)).getD []
  | none => List.replicate 256 0xFF

/-- The generation of the page's active slot. -/
def pageGen (s : State) (p : Nat) : Nat :=
  match (pageFind s p).1 with
  | some h => genOf (slotAt s p h)
  | none => 0

/-- A fallback or a bad page found at a read is reported (R438). -/
def State.pageChecked (s : State) (p : Nat) : State :=
  let r := (pageFind s p).2
  if r = 1 then
    ((s.nvsUp fun x => { x with stale := true, staleN := min 255 (x.staleN + 1) }).flag NVS.NVS_EVT_STALE).nvsEvent 24 .warn
      2 p
  else if r = 2 then ((s.nvsUp fun x => { x with bad := true }).flag NVS.NVS_EVT_PAGE_BAD).nvsEvent 24 .warn 3 p
  else s

/-- Pages are read at a start (R438, R445). -/
def State.pagesRead (s : State) (l : List Nat) : State := l.foldl State.pageChecked s

/-- Where the next write of a page goes: the slot that is not active and the next generation (R437); where neither slot
reads, the one that is not the newer. -/
def pageNext (s : State) (p : Nat) : Nat × Nat :=
  match (pageFind s p).1.or (newest s p) with
  | some h => (1 - h, (genOf (slotAt s p h) + 1) % 2 ^ 24)
  | none => (0, 1)

/-- A completed write of a page: the inactive slot takes the data under the next generation (R437). -/
def State.pagePut (s : State) (p : Nat) (data : List Byte) : State :=
  let t := pageNext s p
  s.nvsUp fun x => { x with slots := vup x.slots (2 * p + t.1) fun _ => some ⟨t.2, crc16 data, true, data⟩ }

/-- A write of a page that was cut while its commit word was programmed: the word does not read back (R437, R438). -/
def State.pageTear (s : State) (p : Nat) (data : List Byte) : State :=
  let t := pageNext s p
  s.nvsUp fun x => { x with slots := vup x.slots (2 * p + t.1) fun _ => some ⟨t.2, crc16 data, false, data⟩ }

/-- A page whose slot holds newer data under an invalid commit word (R438). -/
def isTorn (s : State) (p : Nat) : Bool :=
  let t := fun h =>
    match slotAt s p h with
    | some y => !y.word && (!committed (slotAt s p (1 - h)) || newer y.gen (genOf (slotAt s p (1 - h))))
    | none => false
  t 0 || t 1

/-- NVS_SCAN (R438): torn pages are reported and counted, and a directory left at IN_PROGRESS is reported. -/
def State.nvsScan (s : State) : State :=
  let torn := (List.range 256).filter (isTorn s)
  let s := s.nvsUp fun x =>
    { x with torn := !torn.isEmpty, tornPage := torn.headD 0, tornN := min 255 torn.length, staleN := 0, stale := false,
             bad := false, incomplete := (pageData s 0).getD 4 0 == 0xA5 }
  torn.foldl (fun t p => ((t.flag NVS.NVS_EVT_TORN).countInc 3).nvsEvent 24 .warn 1 p) s

/-! ### Protection and user pages (R443, R444) -/

/-- The page is protected under BP. -/
def bpCovers (bp p : Nat) : Bool :=
  if bp = 0 then false else if bp = 1 then decide (192 ≤ p) else if bp = 2 then decide (128 ≤ p) else true

def protOf (s : State) (p : Nat) : Bool := bpCovers (s.fld NVS.PROTECT_BP) p

/-- An operation of the NVS island runs. -/
def nvsBusy (s : State) : Bool := s.nvs.op != .idle

def State.pageRes (s : State) (r : Nat) : State := s.nvsUp fun x => { x with pageRes := r }

/-- PAGE_READ done: the active slot, or its fallback, reaches the buffer. -/
def State.doPageRead (s : State) (p : Nat) : State :=
  let f := (pageFind s p).2
  let d := pageData s p
  let s := s.pageChecked p
  (s.nvsUp fun x => { x with buf := d }).pageRes (if f = 0 then 0 else if f = 1 then 6 else 7)

/-- PAGE_WRITE begun: refused on a system page or a protected one. -/
def State.doPageWrite (s : State) (p : Nat) (data : List Byte) : State :=
  if p < 19 ∨ 191 < p then s.pageRes 3
  else if protOf s p then
    let s := ((s.pageRes 2).flag NVS.NVS_EVT_PROT_REFUSED).bump NVS.PROT_REFUSED_CNT
    s.nvsEvent 25 .warn 6 p
  else s.nvsUp fun x => { x with op := .page p data }

/-- A page operation is requested (R444, R442): it acts, waits behind a STORE, is BUSY behind another one that waits, or
is not begun under hold-up.  The data of a write are those of the buffer at the request. -/
def State.pageReq (s : State) (write : Bool) : State :=
  let p := s.fld NVS.PAGE_SEL_PAGE
  let w := if write then some s.nvs.buf else none
  if s.pwr.holdup then s.pageRes 5
  else if nvsBusy s then
    if s.nvs.pend.isSome then s.pageRes 1 else s.nvsUp fun x => { x with pend := some (w, p) }
  else if write then s.doPageWrite p s.nvs.buf
  else s.doPageRead p

/-- The operation that waited begins when the island is idle. -/
def State.pendBegin (s : State) : State :=
  match s.nvs.pend with
  | none => s
  | some (w, p) =>
    let s := s.nvsUp fun x => { x with pend := none }
    if s.pwr.holdup then s.pageRes 5
    else match w with
      | some d => s.doPageWrite p d
      | none => s.doPageRead p

/-- A verify that failed twice (R437). -/
def State.verifyFail (s : State) (p : Nat) : State :=
  ((s.flag NVS.NVS_EVT_VERIFY_FAIL).bump NVS.VERIFY_FAIL_CNT).nvsEvent 25 .warn 5 p

/-- An accepted STORE that hold-up does not let begin (R440, R442, R449). -/
def State.storeCut (s : State) : State :=
  (s.nvsUp fun x => { x with storeNext := none, storeRes := 5 }).flag CFG.CFG_EVT_STORE_FAIL

/-- What waited behind a page write begins: first an accepted STORE, which hold-up ends before it began (R440, R442). -/
def State.nextOp (s : State) : State :=
  match s.nvs.storeNext with
  | none => s.pendBegin
  | some (l, prot, t) =>
    if s.pwr.holdup then s.storeCut.pendBegin
    else s.nvsUp fun x => { x with storeNext := none, op := .store l 0 prot false t }

/-- PAGE_WRITE_DONE: the page write in progress ends (R437, R440). -/
def State.pageDone (s : State) (ok : Bool) : State :=
  match s.nvs.op with
  | .idle => s
  | .page p d =>
    let s := s.nvsUp fun x => { x with op := .idle }
    let s := if ok then (s.pagePut p d).pageRes 0 else (s.verifyFail p).pageRes 4
    s.nextOp
  | .store [] _ _ _ _ => s
  | .store ((p, d) :: rest) n prot failed t =>
    let s := if ok then s.pagePut p d else s.verifyFail p
    s.nvsUp fun x => { x with op := .store rest (n + 1) prot (failed || !ok) t }

/-! ### Protection, margin scrub, fault log -/

/-- PROTECT.BP has taken its write (R443): the NVS configuration word follows, unless hold-up begins no write of it (R442). -/
def State.protWritten (s : State) : State :=
  if s.pwr.holdup then s else s.nvsUp fun x => { x with bp := s.fld NVS.PROTECT_BP, bpWritten := true }

/-- SCRUB_NOW written 1 (R439, R410). -/
def State.scrubAsk (s : State) : State :=
  (s.goNote NVS.NVS_CTRL_SCRUB_NOW s.nvs.scrubReq).nvsUp fun x => { x with scrubReq := true }

/-- MARGIN_SCRUB (R439): due after 168 powered hours or on SCRUB_NOW; every page is read (R438), and the weak pages and
counter cells found are refreshed in place, protected or not. -/
def State.marginScrub (s : State) (pages cells : List Nat) : State :=
  if ¬ (s.nvs.scrubReq ∨ s.nvs.hoursLeft = 0) ∨ nvsBusy s ∨ s.pwr.holdup then s
  else
    let s := (s.nvsUp fun x => { x with scrubReq := false, hoursLeft := 168 }).goEnd NVS.NVS_CTRL_SCRUB_NOW State.scrubAsk
    let s := s.pagesRead (List.range 256)
    let fixed := fun (t : State) (p : Nat) =>
      (((t.flag NVS.NVS_EVT_MARGIN_FIX).bump NVS.MARGIN_FIX_CNT).countInc 10).nvsEvent 24 .info 4 p
    let s := (pages.filter fun p => (pageFind s p).1.isSome).foldl (fun t p => fixed (t.pagePut p (pageData t p)) p) s
    (cells.filter (· < 16)).foldl (fun t _ => fixed t 0) s

/-- The severity code of history word 4. -/
def Severity.code : Severity → Nat
  | .info => 0
  | .warn => 1
  | .severe => 2

/-- History word 4 (R474). -/
def word4 (e : HistEntry) : Nat :=
  e.real.toNat * 32768 + e.inj.toNat * 16384 + e.sev.code * 4096 + e.src % 256

/-- The 16 bytes of a fault-log entry (R435). -/
def flogBytes (f : FaultEntry) : List Byte :=
  bytesLE 8 f.e.time ++ [BitVec.ofNat 8 f.e.src, BitVec.ofNat 8 (word4 f.e / 256)] ++ bytesLE 2 f.e.word5 ++
    bytesLE 2 f.boot ++ [0, 0]

/-- A stored fault-log entry read back; an empty one has severity code 0 and source 0 with no flags. -/
def flogRead (bs : List Byte) : Option FaultEntry :=
  let f := (bs.getD 9 0).toNat
  if f = 0 ∨ f = 0xFF then none
  else
    some ⟨⟨natLE (bs.take 8), bitsOf f 7 7 == 1, bitsOf f 6 6 == 1,
      if bitsOf f 5 4 = 2 then Severity.severe else if bitsOf f 5 4 = 1 then .warn else .info, (bs.getD 8 0).toNat,
      natLE ((bs.drop 10).take 2), 0⟩, natLE ((bs.drop 12).take 2)⟩

/-- FLOG_SEL written: the selected entry is copied (R452). -/
def State.flogCopy (s : State) : State :=
  let e := (s.nvs.faultLog[s.fld NVS.FLOG_SEL_ENTRY]?).map fun e => (flogBytes e).take 14
  s.nvsUp fun x => { x with flog := e.getD (List.replicate 14 0) }

/-- PAGE_SEL, the buffer window: the byte pair of register i (R444). -/
def bufWord (s : State) (i : Nat) : Nat :=
  natLE ((s.nvs.buf.drop (128 * s.fld NVS.PAGE_SEL_HALF + 2 * i)).take 2)

/-- A write of the window changes the byte pair. -/
def State.bufPut (s : State) (i w : Nat) : State :=
  let o := 128 * s.fld NVS.PAGE_SEL_HALF + 2 * i
  s.nvsUp fun x => { x with buf := x.buf.take o ++ bytesLE 2 w ++ x.buf.drop (o + 2) }

/-! ### The secure shadow and the wipe (R517, R522) -/

/-- The shadow is written again from the bank (R522), unless hold-up begins no write of it (R442). -/
def State.shadowPut (s : State) : State :=
  if s.pwr.holdup then s
  else s.nvsUp fun x => { x with shadow := some ⟨s.mem.keys, s.mem.half, ctrOf s 6, ctrOf s 5⟩ }

/-- The shadow records the counts of now. -/
def shadowOk (s : State) : Bool :=
  match s.nvs.shadow with
  | some h => h.life == ctrOf s 6 && h.tamper == ctrOf s 5
  | none => false

/-- SHADOW_RESTORE (R522): at a start the shadow fills the bank, or is discarded if its counts differ. -/
def State.shadowRestore (s : State) : State :=
  match s.nvs.shadow with
  | some h =>
    if shadowOk s then { s with mem := { s.mem with keys := h.keys, half := h.half } }
    else (s.nvsUp fun x => { x with shadow := none })
  | none => s

/-- A wipe (R517): the bank and its shadow are empty; the cause is 1 TAMPER, 2 LIFE_CYCLE, 3 REQUEST, 4 START_FAIL. -/
def State.wipeBank (s : State) (cause : Nat) : State :=
  let s := { s with mem := { s.mem with keys := Vector.replicate 16 none, half := (none, none), wipe := cause },
                    nvs := { s.nvs with shadow := none } }
  s.flag MEM.MEM_EVT_WIPED

end Sys2Proof.Machine
end

