-- ==== Sys2Proof/Machine/Frame.lean ====
section
/-! DEFINITION. The frames that the MAC of an Ethernet port accepts (09: R294, R296). -/
namespace Sys2Proof.Machine

/-- The six octets of a port's MAC address. -/
def macOf (s : State) (n : Nat) : List Byte := (List.range 3).flatMap fun i => bytesBE 2 (s.eff1 (ETH.MAC_ADDR n + i))

/-- The link-local IPv6 address formed from MAC_ADDR as a modified EUI-64 (R295). -/
def linkLocal (s : State) (n : Nat) : List Byte :=
  let m := macOf s n
  bytesBE 2 0xFE80 ++ bytesBE 6 0 ++ [(m.getD 0 0).xor 2] ++ (m.drop 1).take 2 ++ bytesBE 2 0xFFFE ++ m.drop 3

/-- A number of n bytes at an offset of a frame, most significant byte first. -/
def wordAt (bs : List Byte) (o n : Nat) : Nat := natBE ((bs.drop o).take n)

def tagged (bs : List Byte) : Bool := wordAt bs 12 2 == 0x8100

/-- The offset of what follows the EtherType of a frame. -/
def innerAt (bs : List Byte) : Nat := if tagged bs then 18 else 14

def etypeOf (bs : List Byte) : Nat := wordAt bs (innerAt bs - 2) 2

/-- The tag rule of R296: untagged, priority-tagged, or tagged with VID. -/
def tagOk (s : State) (n : Nat) (bs : List Byte) : Bool :=
  let vid := wordAt bs 14 2 % 4096
  !tagged bs || vid == 0 || (s.bit (ETH.ETH_CFG_VLAN_EN n) && vid == s.fld (ETH.VLAN_VID n))

/-- An IPv4 header without options or fragments, and an IPv6 header, that carry UDP: the destination address, and the offset
of the UDP header. -/
def udpAt (bs : List Byte) : Option (List Byte × Nat) :=
  let o := innerAt bs
  if etypeOf bs = 0x0800 ∧ wordAt bs o 1 = 0x45 ∧ wordAt bs (o + 6) 2 % 16384 = 0 ∧ wordAt bs (o + 9) 1 = 17 then
    some ((bs.drop (o + 16)).take 4, o + 20)
  else if etypeOf bs = 0x86DD ∧ wordAt bs o 1 / 16 = 6 ∧ wordAt bs (o + 6) 1 = 17 then
    some ((bs.drop (o + 24)).take 16, o + 40)
  else none

/-- The destination addresses that port n accepts for PTP over transport t: L2, UDP4, UDP6 (R294; MAC addresses of UDP frames: log
entry 97). -/
def ptpDests (s : State) (n t : Nat) : List (List Byte) :=
  if t = 0 then [bytesBE 6 0x011B19000000, bytesBE 6 0x0180C200000E, macOf s n]
  else if t = 1 then [bytesBE 4 0xE0000181, bytesBE 4 0xE000006B, bytesBE 2 (s.eff1 (ETH.IP4_ADDR n)) ++ bytesBE 2 (s.eff1 (ETH.IP4_ADDR n + 1))]
  else if t = 2 then [bytesBE 16 0xFF0E0000000000000000000000000181, bytesBE 16 0xFF02000000000000000000000000006B, linkLocal s n]
  else []

/-- Where a PTP message stands in a frame that port n accepts (R294): over the transport of the port's instance, and to port 319
or 320 under UDP, as `event` says. -/
def ptpAtOf (s : State) (n : Nat) (event : Bool) (bs : List Byte) : Option Nat :=
  let t := s.fld (PTI.INST_CTRL_TRANSPORT (s.ethAt n).inst)
  if 4 ≤ (s.ethAt n).inst ∨ ¬ tagOk s n bs then none
  else if t = 0 then (if etypeOf bs = 0x88F7 ∧ (ptpDests s n 0).contains (bs.take 6) then some (innerAt bs) else none)
  else match udpAt bs with
    | some (d, o) =>
      if etypeOf bs = (if t = 1 then 0x0800 else 0x86DD) ∧ (ptpDests s n t).contains d ∧
          wordAt bs (o + 2) 2 = (if event then 319 else 320) then some (o + 8)
      else none
    | none => none

/-- Message types 0 to 3 are event messages; their general ones begin at 8 (IEEE 1588). -/
def isEvent (kind : Nat) : Bool := decide (kind < 8)

/-- A Hildo frame that port n accepts (R294). -/
def hildoMine (s : State) (n : Nat) (bs : List Byte) : Bool :=
  bs.take 6 == macOf s n && etypeOf bs == s.reg PTP.HILDO_ETYPE && s.bit (ETH.ETH_CFG_HILDO_EN n) && tagOk s n bs

/-- What R294 says of a frame whose FCS and length are known before what it carries: discarded for these, or looked at. -/
def sizeFate (fcs : Bool) (len : Nat) : Option Discard :=
  if !fcs then some .fcs else if 1522 < len then some .oversize else none

/-- The last four bytes of a frame are its FCS. -/
def fcsOk (bs : List Byte) : Bool := natLE (bs.drop (bs.length - 4)) == fcs32 (bs.take (bs.length - 4))

/-- Why a complete frame is discarded at port n (R294), if it is. -/
def frameFate (s : State) (n : Nat) (bs : List Byte) : Option Discard :=
  match sizeFate (fcsOk bs) bs.length with
  | some d => some d
  | none =>
    if hildoMine s n bs then none
    else match ptpAtOf s n true bs, ptpAtOf s n false bs with
      | none, none => some .outside
      | e, g =>
        let o := (e.or g).getD 0
        if (if isEvent (wordAt bs o 1 % 16) then e else g).isNone then some .outside
        else if wordAt bs (o + 4) 1 ≠ s.fld (PTI.INST_PORTS_DOMAIN (s.ethAt n).inst) then some .wrongDomain
        else none

/-- A discarded frame is counted. -/
def State.countDrop (s : State) (n : Nat) (why : Discard) : State :=
  match why with
  | .outside => s.bump (ETH.RX_DROP_CNT n)
  | .fcs => s.bump (ETH.FCS_ERR_CNT n)
  | .oversize => s.bump (ETH.OVERSIZE_CNT n)
  | .wrongDomain => s.bump (ETH.WRONG_DOM_CNT n)

/-- The MAC works in RUN only (R293). -/
def macOn (s : State) : Bool := s.pwr.st == .run && !s.pwr.holdup

/-- FRAME_DISCARD: a complete frame, from its destination address to its FCS, reaches port n and is not accepted (R294). -/
def State.frameDiscard (s : State) (n : Nat) (bs : List Byte) : State :=
  if !(s.ethAt n).link || !macOn s then s
  else match frameFate s n bs with
    | some why => s.countDrop n why
    | none => s

end Sys2Proof.Machine
end

