-- ==== Sys2Proof/Machine/Ptp.lean ====
section
/-! DEFINITION. Ethernet ports and the PTP engine: links, stamps, the message exchanges, path delay, offset and rate, port
roles, qualification of references 24 to 31, keys (09: R289 to R326). -/
namespace Sys2Proof.Machine

/-! ### Settings -/

/-- clockIdentity: CLOCK_ID3 bits 15:8 hold the first octet (CLOCK_ID). -/
def clockIdentity (s : State) : Nat :=
  s.effWide PTP.CLOCK_ID 4

/-- The port number of ETHn in its sourcePortIdentity (log entry 18). -/
def portNumber (n : Nat) : Nat := n + 1

def portInst (s : State) (n : Nat) : Nat := (s.ethAt n).inst
def profile (s : State) (i : Nat) : Nat := s.fld (PTI.INST_CTRL_PROFILE i)
def isGptp (s : State) (i : Nat) : Bool := profile s i == 0
def isE2e (s : State) (i : Nat) : Bool := profile s i == 1
def bmcaOn (s : State) (i : Nat) : Bool := s.bit (PTI.INST_CTRL_BMCA_EN i)
def authOn (s : State) (i : Nat) : Bool := s.bit (PTI.INST_CTRL_AUTH_EN i)
def log4 (n : Nat) : Int := toSigned 4 n
def cfgSync (s : State) (i : Nat) : Int := log4 (s.fld (PTI.INTERVALS_LOG_SYNC i))
def cfgAnn (s : State) (i : Nat) : Int := log4 (s.fld (PTI.INTERVALS_LOG_ANN i))
def cfgDreq (s : State) (i : Nat) : Int := log4 (s.fld (PTI.INTERVALS_LOG_DREQ i))

/-- The ranges of R306. -/
def syncOk (l : Int) : Bool := decide (-7 ≤ l) && decide (l ≤ 1)
def annOk (l : Int) : Bool := decide (-3 ≤ l) && decide (l ≤ 4)
def dreqOk (l : Int) : Bool := decide (-7 ≤ l) && decide (l ≤ 5)

/-- 2^l seconds in ns. -/
def logNs (l : Int) : Nat := if 0 ≤ l then 1000000000 * 2 ^ l.toNat else 1000000000 / 2 ^ (-l).toNat

def syncNs (s : State) (n : Nat) : Nat := logNs ((s.ethAt n).txSync.getD (cfgSync s (portInst s n)))
def annNs (s : State) (n : Nat) : Nat := logNs ((s.ethAt n).txAnn.getD (cfgAnn s (portInst s n)))

/-- The request interval: under E2E the master's, if it is in range (R306). -/
def reqNs (s : State) (n : Nat) : Nat := logNs ((s.ethAt n).txDreq.getD (cfgDreq s (portInst s n)))

def pdN (s : State) (i : Nat) : Nat := max 1 (s.fld (PTI.TIMING_PD_N i))
def qualNeed (s : State) (i : Nat) : Nat := max 1 (s.fld (PTI.TIMING_QUAL_N i))
def syncTimeouts (s : State) (i : Nat) : Nat := max 2 (s.fld (PTI.TIMING_SYNC_TO i))
def annTimeouts (s : State) (i : Nat) : Nat := max 2 (s.fld (PTI.INTERVALS_ANN_TO i))

/-- A combination R302, R306 or R295 refuses. -/
def instBad (s : State) (i : Nat) : Bool :=
  let t := s.fld (PTI.INST_CTRL_TRANSPORT i)
  profile s i == 3 || t == 3 || (isGptp s i && t != 0) || decide (127 < s.fld (PTI.INST_PORTS_DOMAIN i)) ||
    !syncOk (cfgSync s i) || !annOk (cfgAnn s i) || !dreqOk (cfgDreq s i) ||
    (t == 1 && (List.range 8).any fun n => s.fld (ETH.PORT_CFG_INST n) == i && s.effWide (ETH.IP4_ADDR n) 2 == 0)

/-- More than one member port has the static role SLAVE (R315). -/
def staticSlaves (s : State) (i : Nat) : List Nat := (members s i).filter fun n => s.fld (ETH.PORT_CFG_STATIC_ROLE n) == 1

/-- The port's instance is enabled, and the port may exchange messages. -/
def ptpOn (s : State) (n : Nat) : Bool := decide (portInst s n < 4) && (s.ptpAt (portInst s n)).en && s.bit (ETH.ETH_CFG_EN n)

def keySlot (s : State) (k : Nat) : Option Nat := vat s.mem.keys k

/-- An instance under AUTH_EN whose TX_KEY slot is empty sends nothing (R322). -/
def keyMissing (s : State) (i : Nat) : Bool :=
  (s.ptpAt i).en && authOn s i && (keySlot s (s.fld (PTI.AUTH_CFG_TX_KEY i))).isNone

/-- Sync and Pdelay_Resp are one-step unless AUTH_EN forces two steps (R305, R321). -/
def oneStep (s : State) (i : Nat) : Bool := s.bit (PTI.INST_CTRL_ONE_STEP i) && !authOn s i

/-- PORT_STAT.AS_CAPABLE (R311). -/
def asCapable (s : State) (n : Nat) : Bool :=
  let x := s.ethAt n
  isGptp s x.inst && x.pdValid && decide (x.mpd ≤ s.reg (PTI.NBR_THRESH x.inst) * 1000) && x.peerOk

/-! ### Stamps and captures (R297 to R300) -/

/-- A trim as a stamp meets it: one written in the cycle of the stamp applies from the next (R297, R325). -/
def trim (s : State) (a : Nat) : Int := max (-32767) (toSigned 16 (foundWord s a))

/-- ASYM as a measurement meets it: written whole by ASYM1, and from the next stamp on (R299, R325). -/
def asym (s : State) (n : Nat) : Int :=
  let e := if s.cyc.wrote.any fun w => w.addr == ETH.ASYM n + 1 then s.found.eff else s.eff
  toSigned 32 ((e.get (ETH.ASYM n)).toNat + (e.get (ETH.ASYM n + 1)).toNat * 65536)

/-- The MTB time in ps at the reference plane of a stamp the TDC took of the PCS mark (R297). -/
def rxMtb (s : State) (n stamp : Nat) : Nat := ((stamp : Int) - (s.ethAt n).rxLat - trim s (ETH.RX_TRIM n)).toNat
def txMtb (s : State) (n stamp : Nat) : Nat := ((stamp : Int) + (s.ethAt n).txLat + trim s (ETH.TX_TRIM n)).toNat

/-- A stamped message of a type named in CAP_CFG.MSG is offered to the capture fabric (R300, R333). -/
def State.capPtp (s : State) (n : Nat) (rx : Bool) (kind seq mtb srcId srcPort : Nat) : State :=
  if s.bit (if rx then ETH.CAP_CFG_RX_EN n else ETH.CAP_CFG_TX_EN n) ∧ bitsOf (s.fld (ETH.CAP_CFG_MSG n)) kind kind = 1 then
    s.capture (16 + 2 * n + (if rx then 0 else 1)) (if rx then 0x10 else 0x11) (stampTime s (portTk s n) mtb)
      (seq % 65536 * 65536 + s.fld (PTI.INST_PORTS_DOMAIN (portInst s n)) * 256 + kind) (srcPort * 65536 + srcId % 65536)
  else s

/-! ### Events and port states -/

/-- An event of source 100 + n (HIST_SEL). -/
def State.portEvent (s : State) (n : Nat) (sev : Severity) (cause : Nat) : State :=
  s.raise (100 + n) sev cause ((s.ethAt n).pst.code * 4096)

/-- An event of source 108 + i. -/
def State.instEvent (s : State) (i n : Nat) (sev : Severity) (cause : Nat) : State :=
  s.raise (108 + i) sev cause (i * 16384 + n * 2048)

def PortState.follows (q : PortState) : Bool := q == .uncalibrated || q == .slave

/-- The qualification state and FIRST_CAUSE of reference 24 + n (R318), the rows in order of precedence. -/
def qualOf (s : State) (n : Nat) : QState × Nat :=
  let x := s.ethAt n
  let i := x.inst
  if !ptpOn s n || !macOn s then (.absent, 0)
  else if x.pst.follows && !x.link then (.failed, 1)
  else if x.pst.follows && x.syncTo then (.failed, if x.authSeen && !x.goodSeen then 5 else 2)
  else if x.pst == .slave && x.annTo then (.failed, 3)
  else if x.pst.follows && x.pdLost then (.failed, 4)
  else if x.qual == .failed && !x.pst.follows then (.failed, x.cause)
  else if x.pst == .uncalibrated || (x.pst == .slave && (decide (x.qualN < qualNeed s i) || decide (x.meas.length < 4))) then
    (.wait, 0)
  else if x.pst == .slave then
    match (s.ptpAt i).parent with
    | some (_, d) =>
      let w := s.fld (PTI.QUAL_CLASS_WARN i)
      if (w != 0 && decide (w ≤ d.gmClass)) || (s.bit (PTI.QUAL_TRACE_REQ i) && bitsOf d.flags 4 4 == 0) then (.suspect, 0)
      else (.valid, 0)
    | none => (.valid, 0)
  else (.absent, 0)

/-- The reference takes the state the table gives; entry to FAILED sets REF_FAIL (R318). -/
def State.qualUpdate (s : State) (n : Nat) : State :=
  let q := qualOf s n
  let old := (s.ethAt n).qual
  let s := s.ethUp n fun x => { x with qual := q.1, cause := if old = .failed ∧ q.1 = .failed then x.cause else q.2 }
  if q.1 = .failed ∧ old ≠ .failed then (s.flag (ETH.PORT_EVT_REF_FAIL n)).portEvent n .warn 8 else s

/-- A port-state change (R324): the flags of the receipt timers and the measurements start afresh when the port comes to
UNCALIBRATED from a state that does not follow; one that stops following has no measurement any more (R115). -/
def State.portTo (s : State) (n : Nat) (q : PortState) : State :=
  let x := s.ethAt n
  if x.pst = q then s
  else
    let fresh := q.follows && !x.pst.follows
    let s := s.ethUp n fun y =>
      let y := { y with pst := q }
      let y := if q.follows then y else { y with est := none, estNew := false }
      if fresh then
        { y with syncTo := false, annTo := false, pdLost := false, authSeen := false, goodSeen := false, qualN := 0,
                 meas := [], sync := none, lastSync := none, syncAt := s.now, annAt := s.now,
                 rxSync := cfgSync s x.inst, rxAnn := cfgAnn s x.inst }
      else if q = .listening then { y with annAt := s.now, rxAnn := cfgAnn s x.inst } else y
    let s := if x.inst < 4 then (s.flag (PTI.INST_EVT_STATE x.inst)).instEvent x.inst n .info 1 else s
    s.qualUpdate n

/-- The instance's own clockClass (R316). -/
def ownClass (s : State) (i : Nat) : Nat :=
  match (s.tkAt (s.fld (PTI.INST_CTRL_TK_SEL i))).st with
  | .track => s.fld (PTI.CLASS_A_CLASS_LOCKED i)
  | .holdover => s.fld (PTI.CLASS_A_CLASS_HOLD i)
  | _ => s.fld (PTI.CLASS_B_CLASS_FREE i)

/-- The dataset announced as grandmaster (R316). -/
def ownDs (s : State) (i : Nat) : Dataset :=
  let t := s.fld (PTI.INST_CTRL_TK_SEL i)
  { gmId := clockIdentity s, gmClass := (s.ptpAt i).annClass, accuracy := s.fld (PTI.CLASS_B_ACCURACY i),
    variance := s.reg (PTI.VARIANCE i), prio1 := s.fld (PTI.PRIO_PRIORITY1 i), prio2 := s.fld (PTI.PRIO_PRIORITY2 i),
    steps := 0, senderId := clockIdentity s, senderPort := 0, utcOfs := toSigned 16 (s.reg (TK.UTC_OFS t)),
    flags := s.fld (TK.LEAP_LEAP61 t) + 2 * s.fld (TK.LEAP_LEAP59 t) + 4 * s.fld PTP.GM_PROP_UTC_VALID + 8 +
      16 * s.fld PTP.GM_PROP_TIME_TRACE + 32 * s.fld PTP.GM_PROP_FREQ_TRACE,
    timeSource := s.fld PTP.GM_PROP_TIME_SOURCE, timeBase := 0 }

/-- The slave port of an instance, calibrated or not. -/
def followPort (s : State) (i : Nat) : Option Nat := (members s i).find? fun n => (s.ethAt n).pst.follows

/-- The dataset an Announce of the instance carries (R303). -/
def announced (s : State) (i : Nat) : Dataset :=
  match followPort s i, (s.ptpAt i).parent with
  | some _, some (_, d) => { d with steps := d.steps + 1 }
  | _, _ => ownDs s i

/-- A change of the grandmaster identity (R314). -/
def State.gmCheck (s : State) (i : Nat) : State :=
  let g := match (s.ptpAt i).parent with
    | some (_, d) => d.gmId
    | none => clockIdentity s
  if g = (s.ptpAt i).gmId then s
  else
    let p := ((s.ptpAt i).parent.map (·.1)).getD 0
    let s := s.ptpUp i fun x => { x with gmId := g }
    ((s.flag (PTI.INST_EVT_GM_CHANGE i)).bump (PTI.GM_CHANGE_CNT i)).instEvent i p .info 2

/-- The state a port with its link up takes outside the BMCA's decisions: LISTENING, or its static role (R315). -/
def restState (s : State) (n : Nat) : PortState :=
  let i := portInst s n
  if bmcaOn s i then .listening
  else match s.fld (ETH.PORT_CFG_STATIC_ROLE n) with
    | 0 => if isGptp s i && !asCapable s n then .listening else .master
    | 1 => if (staticSlaves s i).head? = some n then .uncalibrated else .passive
    | 2 => .passive
    | _ => .disabled

/-- The port (re)starts: INITIALIZING without a link, else its resting state (R315, R325). -/
def State.portStart (s : State) (n : Nat) : State :=
  let i := portInst s n
  if 4 ≤ i then (s.ethUp n fun x => { x with pst := .none }).qualUpdate n
  else if !macOn s || !ptpOn s n then s.portTo n .disabled
  else
    let s := s.portTo n .initializing
    if (s.ethAt n).link then s.portTo n (restState s n) else s

/-- A GPTP port that is no longer asCapable is neither MASTER nor SLAVE (R311); one that becomes so takes its static
role. -/
def State.capableCheck (s : State) (n : Nat) : State :=
  let x := s.ethAt n
  if !ptpOn s n || !isGptp s x.inst then s
  else if asCapable s n then
    if !bmcaOn s x.inst && x.pst == .listening && x.link then s.portTo n (restState s n) else s
  else match x.pst with
    | .master | .preMaster => s.portTo n .listening
    | .slave => s.portTo n .uncalibrated
    | _ => s

/-! ### Links (R289 to R292) -/

/-- A parent dataset that came through port n is gone. -/
def State.dropParent (s : State) (n : Nat) : State :=
  let i := portInst s n
  if 4 ≤ i then s
  else match (s.ptpAt i).parent with
    | some (p, _) => if p = n then (s.ptpUp i fun x => { x with parent := none }).gmCheck i else s
    | none => s

/-- The link is gone: outstanding exchanges are discarded uncounted (R325), reference 16 + n loses its clock (R49),
reference 24 + n fails with cause LINK (R318), a partial export frame is lost (R351). -/
def State.linkGone (s : State) (n : Nat) : State :=
  if ¬ (s.ethAt n).link then s
  else
    let s := s.ethUp n fun x =>
      { x with link := false, sync := none, dreq := none, pdreq := none, pdresp := none, txClamp := false, foreign := [] }
    let s := if 16 + n < 24 then s.losSet (16 + n) else s
    let s := (s.expLost n).qualUpdate n
    let s := if (s.ethAt n).pst == .none || (s.ethAt n).pst == .disabled then s else s.portTo n .initializing
    s.dropParent n

/-- LINK_FAILURE (R290). -/
def State.linkFail (s : State) (n : Nat) : State :=
  if (s.ethAt n).link then
    let s := (s.flag (ETH.ETH_EVT_LINK_DOWN n)).bump (ETH.LINK_DOWN_CNT n)
    (s.portEvent n .warn 2).linkGone n
  else s

/-- LINK_UP (R290): an enabled, awake port whose partner matches; the calibrated latencies of the speed are free values
(log entry 4). -/
def State.linkUp (s : State) (n sqi : Nat) : State :=
  let x := s.ethAt n
  if x.link || x.tc10 == 2 || !s.bit (ETH.ETH_CFG_EN n) || decide (4 < s.fld (ETH.ETH_CFG_SPEED n)) || !macOn s ||
      s.unitOut (33 + n) then s
  else
    let a := s.takeFree
    let b := a.2.takeFree
    let s := b.2
    let s := s.ethUp n fun x =>
      { x with link := true, tc10 := 0, speedAct := s.fld (ETH.ETH_CFG_SPEED n), roleAct := s.bit (ETH.ETH_CFG_PHY_ROLE n),
               sqi := sqi % 8, rxLat := a.1 % 65536, txLat := b.1 % 65536 }
    let s := (s.flag (ETH.ETH_EVT_LINK_UP n)).portEvent n .info 1
    let s := if (s.monAt (16 + n)).st = .absent then s else s.monUp (16 + n) fun m => { m with los := false }
    if (s.ethAt n).pst == .initializing then s.portTo n (restState s n) else s

/-- The port falls asleep (R292, R325). -/
def State.tc10Sleep (s : State) (n : Nat) : State :=
  let s := s.linkGone n
  let s := s.ethUp n fun x => { x with tc10 := 2 }
  (s.flag (ETH.ETH_EVT_SLEEP n)).bump (ETH.TC10_SLEEP_CNT n)

/-- SLEEP_REQ written 1 (R292). -/
def State.sleepReq (s : State) (n : Nat) : State :=
  if s.bit (ETH.ETH_CFG_TC10_EN n) ∧ (s.ethAt n).link then s.ethUp n fun x => { x with tc10 := 1 } else s

/-- The partner's answer to a sleep request (R292). -/
def State.sleepAnswer (s : State) (n : Nat) (accepted : Bool) : State :=
  if (s.ethAt n).tc10 ≠ 1 then s
  else if accepted then s.tc10Sleep n
  else s.ethUp n fun x => { x with tc10 := 0 }

/-- A sleep request from the partner (R292). -/
def State.sleepRx (s : State) (n : Nat) : State :=
  if s.bit (ETH.ETH_CFG_TC10_EN n) ∧ s.bit (ETH.ETH_CFG_SLEEP_ACCEPT n) ∧ (s.ethAt n).link then s.tc10Sleep n else s

/-- WAKE_REQ written 1, or a forwarded wake-up (R292): a sleeping port begins to wake. -/
def State.wakeReq (s : State) (n : Nat) : State :=
  if s.bit (ETH.ETH_CFG_TC10_EN n) ∧ (s.ethAt n).tc10 = 2 then s.ethUp n fun x => { x with tc10 := 3 } else s

/-- A wake-up received from the partner (R292). -/
def State.wakeRx (s : State) (n : Nat) : State :=
  if ¬ s.bit (ETH.ETH_CFG_TC10_EN n) then s
  else
    let s := s.ethUp n fun x => { x with tc10 := if x.tc10 = 2 then 3 else x.tc10 }
    let s := ((s.flag (ETH.ETH_EVT_WAKE_RX n)).bump (ETH.TC10_WAKE_CNT n)).portEvent n .info 9
    (List.range 8).foldl (fun u m =>
      if bitsOf (s.fld (ETH.TC10_CFG_WAKE_FWD n)) m m = 1 ∧ (u.ethAt m).tc10 = 2 then
        u.ethUp m fun x => { x with tc10 := 3 }
      else u) s

/-- PHY_FAULT: the PHY's own indication rises or drops (R324). -/
def State.phyFault (s : State) (n : Nat) (on : Bool) : State :=
  let old := (s.ethAt n).phyFault
  let s := s.ethUp n fun x => { x with phyFault := on }
  if on ∧ ¬ old then (s.flag (ETH.ETH_EVT_PHY_FAULT n)).portEvent n .warn 3 else s

/-- ETH_CFG was written (R48, R290): a change of SPEED or PHY_ROLE drops a link that is up, EN at 0 ends the port. -/
def State.ethCfgWritten (s : State) (n old : Nat) : State :=
  let w := s.reg (ETH.ETH_CFG n)
  let s :=
    if bitsOf w 15 15 = 0 then (s.linkGone n).ethUp n fun x => { x with tc10 := 0 }
    else if bitsOf w 14 11 ≠ bitsOf old 14 11 then s.linkFail n
    else s
  if bitsOf w 15 15 ≠ bitsOf old 15 15 then s.portStart n else s

/-- The transmit clock's steering at an epoch (R291): FREQ of TX_DOM less MODEL_ERR, limited to ±50 ppm. -/
def State.txSteer (s : State) (n : Nat) : State :=
  let x := s.ethAt n
  if !x.link || !x.roleAct then s
  else
    let d := s.fld (ETH.ETH_CFG_TX_DOM n)
    let f := (if d < 6 then (vat s.dom d).freqF else 0) - s.loa.termF
    let lim : Int := 50000000 * 2 ^ 40
    let clamped := decide (lim < f) || decide (f < -lim)
    let s := s.flagIf (clamped && !x.txClamp) (ETH.ETH_EVT_TX_CLAMP n)
    s.ethUp n fun y => { y with txF := max (-lim) (min lim f), txClamp := clamped }

/-! ### Receiving and sending -/

/-- R321: the TLV with SPP, one of the two keyIDs, and an ICV made with the key the slot holds. -/
def authOk (s : State) (i : Nat) (h : PtpHdr) : Bool :=
  !authOn s i ||
    match h.auth with
    | none => false
    | some (spp, id, key, delayed) =>
      spp == s.fld (PTI.AUTH_CFG_SPP i) && (id == s.fld (PTI.AUTH_CFG_TX_KEY i) || id == s.fld (PTI.AUTH_CFG_RX_KEY2 i)) &&
        keySlot s id == some key && !delayed

/-- The frame round a received PTP message of a kind is one that the table of R294 accepts. -/
def wrapOk (s : State) (n kind : Nat) (h : PtpHdr) : Bool := ptpAtOf s n (isEvent kind) h.wrap == some h.wrap.length

/-- A message of a kind passes every check of R294 and R304 but that of R321. -/
def authDenied (s : State) (n kind : Nat) (h : PtpHdr) : Bool :=
  (s.ethAt n).link && macOn s && s.bit (ETH.ETH_CFG_EN n) && (sizeFate h.fcs h.len).isNone && ptpOn s n && wrapOk s n kind h &&
    h.domain == s.fld (PTI.INST_PORTS_DOMAIN (portInst s n)) && h.good && !authOk s (portInst s n) h

/-- A message of a kind reaches the port: it is accepted, or discarded and counted (R294, R304, R321). -/
def State.ptpAccept (s : State) (n kind : Nat) (h : PtpHdr) : State × Bool :=
  let i := portInst s n
  if !(s.ethAt n).link || !macOn s || !s.bit (ETH.ETH_CFG_EN n) then (s, false)
  else match sizeFate h.fcs h.len with
    | some d => (s.countDrop n d, false)
    | none =>
      if !ptpOn s n || !wrapOk s n kind h then (s.countDrop n .outside, false)
      else if h.domain ≠ s.fld (PTI.INST_PORTS_DOMAIN i) then (s.countDrop n .wrongDomain, false)
      else if !h.good then (s.bump PTP.MALFORMED_CNT, false)
      else if !authOk s i h then
        let s := (s.flag (ETH.PORT_EVT_AUTH_FAIL n)).bump (ETH.AUTH_FAIL_CNT n)
        (s.portEvent n .warn 7, false)
      else (s.bump (ETH.RX_PTP_CNT n), (s.ethAt n).pst != .disabled)

/-- The port can put a message on the cable. -/
def canSend (s : State) (n : Nat) : Bool := macOn s && ptpOn s n && (s.ethAt n).link && !keyMissing s (portInst s n)

/-- The group address of a sent message (R295): peer-delay messages of the P2P profile and every GPTP message go to the
link-local one (others: log entry 98). -/
def txGroup (s : State) (n kind : Nat) : Bool :=
  isGptp s (portInst s n) || (!isE2e s (portInst s n) && [2, 3, 10].contains kind)

/-- The addresses, the tag and the TLV a message is sent with (R295, R296, R321). -/
def txHead (s : State) (n kind : Nat) : TxHead :=
  let i := portInst s n
  let near := txGroup s n kind
  let port := if isEvent kind then 319 else 320
  let ip4 := bytesBE 2 (s.eff1 (ETH.IP4_ADDR n)) ++ bytesBE 2 (s.eff1 (ETH.IP4_ADDR n + 1))
  let t := s.fld (PTI.INST_CTRL_TRANSPORT i)
  let dests := ptpDests s n t
  let peer := dests.getD (if near then 1 else 0) []
  { dst := if t = 0 then peer
      else if t = 1 then bytesBE 3 0x01005E ++ peer.drop 1 else bytesBE 2 0x3333 ++ peer.drop 12,
    src := macOf s n,
    tag := if s.bit (ETH.ETH_CFG_VLAN_EN n) then some (s.fld (ETH.VLAN_PCP n) * 8192 + s.fld (ETH.VLAN_VID n)) else none,
    etype := if t = 0 then 0x88F7 else if t = 1 then 0x0800 else 0x86DD,
    net := if t = 0 then none else some (if t = 1 then ip4 else linkLocal s n, peer, 1, port),
    auth := if authOn s i then some (s.fld (PTI.AUTH_CFG_SPP i), s.fld (PTI.AUTH_CFG_TX_KEY i)) else none }

/-- Messages leave the port and are counted; without a link they are counted in TX_SKIP_CNT (R304). -/
def State.ptpSend (s : State) (n : Nat) (tx : List PtpTx) : State :=
  if canSend s n then (s.ethUp n fun x => { x with sent := tx, heads := tx.map fun m => txHead s n m.kind }).bump (ETH.TX_PTP_CNT n) tx.length
  else if macOn s && ptpOn s n && !(s.ethAt n).link then s.bump PTP.TX_SKIP_CNT tx.length
  else s

/-- A time in ps as a PTP time stamp: whole ns, and the rest in 2^-16 ns (R305). -/
def nsOf (ps : Int) : Int := ps.fdiv 1000
def subNs (ps : Int) : Int := rdiv 60 (ps.fmod 1000 * 65536) 1000

/-- The time of a request that has not been answered passes, or a further one is due (R307, R311). -/
def State.reqMissed (s : State) (n : Nat) : State :=
  let s := (s.ethUp n fun x => { x with dreq := none, pdreq := none, pdresp := none, pdMiss := x.pdMiss + 1 }).bump
    (ETH.DRESP_MISS_CNT n)
  let x := s.ethAt n
  if 3 ≤ x.pdMiss ∧ x.pdValid then
    let s := s.ethUp n fun x => { x with pdValid := false, pdLost := x.pst.follows }
    let s := ((s.flag (ETH.PORT_EVT_PD_FAIL n)).bump (ETH.PD_FAIL_CNT n)).portEvent n .warn 6
    (s.qualUpdate n).capableCheck n
  else s

/-- A path-delay sample, doubled and in 2^-40 ps (R309 to R311): MPD is the mean of the last PD_N, in whole ps. -/
def State.pdSample (s : State) (n : Nat) (v : Int) : State :=
  let s := s.ethUp n fun x =>
    let l := (v :: x.mpds).take (pdN s x.inst)
    { x with mpds := l, mpd := satSigned 32 (rnear 61 (sumInt l) (2 * l.length * 2 ^ 40)), pdValid := true, pdLost := false,
             pdMiss := 0 }
  (s.qualUpdate n).capableCheck n

/-- RATE (R312): the least-squares slope of master minus MTB time over the last 16 measurements, plus MODEL_ERR (R57). -/
def rateOf (s : State) (l : List (Int × Int)) : Int :=
  match l with
  | [] => 0
  | (x0, y0) :: _ =>
    let p := lsqSlope (l.map fun p => (p.1 - x0, p.2 - y0))
    if p.2 = 0 then 0 else (p.1 * 1000000000000 * 2 ^ 24).fdiv p.2 + s.loa.termF

/-- A measurement on an UNCALIBRATED or SLAVE port (R312): `m` is t1 + cS in 2^-16 ps, `t2` none where a step of the time
keeper has put that stamp out of use (R276): the estimator measures on the MTB counter and goes on. -/
def State.ptpMeasure (s : State) (n : Nat) (m : Int) (t2 : Option Int) (mtb : Nat) : State :=
  let x := s.ethAt n
  let s := s.ethUp n fun y => { y with lastSync := t2.map fun v => v * 65536 - m }
  if ¬ x.pdValid then (s.ethUp n fun y => { y with qualN := 0 }).qualUpdate n
  else
    let master := m + (x.mpd + asym s n) * 65536
    let ofs := t2.map fun v => rdiv 62 (v * 65536 - master) 65536
    let diff := master - mtb * 65536
    let s := s.ethUp n fun y =>
      let l := (((mtb : Int), diff) :: y.meas).take 16
      { y with meas := l, qualN := y.qualN + 1, rateF := rateOf s l,
               ofm := (ofs.map (satSigned 48)).getD y.ofm,
               est := some (toSigned 48 (ofSigned 48 (rdiv 63 diff 65536)), mtb), estNew := true }
    let s := if x.pst = .uncalibrated ∧ (¬ isGptp s x.inst ∨ asCapable s n) then s.portTo n .slave else s
    let s := s.qualUpdate n
    let t := portTk s n
    if tkSrc s t = x.inst + 1 then s.tkMeasure t ofs else s

/-- PTP_SYNC_RECEIVE (R304, R307, R312): origin time in ns. -/
def State.syncRx (s : State) (n stamp : Nat) (h : PtpHdr) (origin : Int) : State :=
  let a := s.ptpAccept n 0 h
  if ¬ a.2 then (if authDenied s n 0 h then a.1.ethUp n fun x => { x with authSeen := true } else a.1)
  else
    let mtb := rxMtb s n stamp
    let s := (a.1.bump (ETH.SYNC_RX_CNT n)).capPtp n true 0 h.seq mtb h.srcId h.srcPort
    let x := s.ethAt n
    if ¬ x.pst.follows then s
    else
      let lost := x.sync.isSome
      let s := s.ethUp n fun y =>
        { y with syncAt := s.now, syncTo := false, goodSeen := true, authSeen := false, rxSync := h.logInt, sync := none,
                 qualN := if lost then 0 else y.qualN }
      let s := if lost then s.bump (ETH.FUP_MISS_CNT n) else s
      let s := s.qualUpdate n
      let t2 := stampOf s (portTk s n) mtb
      if h.twoStep then
        s.ethUp n fun y => { y with sync := some ⟨h.seq, (h.srcId, h.srcPort), t2, mtb, h.corr, s.now⟩ }
      else s.ptpMeasure n (origin * 65536000 + h.corr * 1000) t2 mtb

/-- PTP_FOLLOW_UP_RECEIVE (R307): precise origin time in ns, and gmTimeBaseIndicator under GPTP. -/
def State.followUpRx (s : State) (n : Nat) (h : PtpHdr) (origin : Int) (timeBase : Nat) : State :=
  let a := s.ptpAccept n 8 h
  let s := a.1
  if ¬ a.2 then s
  else
    match (s.ethAt n).sync with
    | none => s.bump (ETH.RX_LATE_CNT n)
    | some p =>
      if p.seq = h.seq ∧ p.src = (h.srcId, h.srcPort) ∧ s.now ≤ p.came + logNs (s.ethAt n).rxSync then
        let s := s.ethUp n fun y => { y with sync := none }
        let i := portInst s n
        let s := if isGptp s i then s.ptpUp i fun x =>
            { x with parent := x.parent.map fun q => if q.1 = n then (q.1, { q.2 with timeBase := timeBase }) else q }
          else s
        s.ptpMeasure n (origin * 65536000 + (p.corr + h.corr) * 1000) p.t2 p.mtb
      else s.bump (ETH.RX_LATE_CNT n)

/-- FOLLOW_UP_MISSING (R307): no Follow_Up within one sync interval. -/
def State.followUpMissing (s : State) (n : Nat) : State :=
  match (s.ethAt n).sync with
  | none => s
  | some p =>
    if p.came + logNs (s.ethAt n).rxSync ≤ s.now then
      ((s.ethUp n fun y => { y with sync := none, qualN := 0 }).bump (ETH.FUP_MISS_CNT n)).qualUpdate n
    else s

/-- DELAY_RESP_MISSING (R307): a request unanswered for one request interval. -/
def State.respMissing (s : State) (n : Nat) : State :=
  let x := s.ethAt n
  match x.dreq.or x.pdreq with
  | none => s
  | some q => if q.came + reqNs s n ≤ s.now then s.reqMissed n else s

/-- PTP_DELAY_REQ_RECEIVE (R304): a master port of the E2E profile answers with the ingress time. -/
def State.delayReqRx (s : State) (n stamp : Nat) (h : PtpHdr) : State :=
  let a := s.ptpAccept n 1 h
  let s := a.1
  if ¬ a.2 then s
  else
    let mtb := rxMtb s n stamp
    let s := s.capPtp n true 1 h.seq mtb h.srcId h.srcPort
    if (s.ethAt n).pst = .master ∧ isE2e s (portInst s n) then
      let t := stampPs s (portTk s n) mtb
      s.ptpSend n [⟨9, h.seq, nsOf t, h.corr - subNs t, false, none, none⟩]
    else s

/-- PTP_DELAY_RESP_RECEIVE (R306, R309): the answer names the port that asked; `recv` is t4 in ns. -/
def State.delayRespRx (s : State) (n : Nat) (h : PtpHdr) (reqId reqPort : Nat) (recv : Int) : State :=
  let a := s.ptpAccept n 9 h
  let s := a.1
  let x := s.ethAt n
  if ¬ a.2 ∨ ¬ x.pst.follows ∨ ¬ isE2e s x.inst then s
  else match x.dreq with
    | none => s
    | some q =>
      if q.seq = h.seq ∧ reqId = clockIdentity s ∧ reqPort = portNumber n ∧ s.now ≤ q.came + reqNs s n then
        let s := s.ethUp n fun y =>
          { y with dreq := none, rxDreq := h.logInt, txDreq := if dreqOk h.logInt then some h.logInt else none }
        match x.lastSync, q.sent with
        | some ms, some t3 => s.pdSample n ((ms + recv * 65536000 - t3 * 65536 - h.corr * 1000) * 2 ^ 24)
        | _, _ => s.ethUp n fun y => { y with pdMiss := 0 }
      else s

/-- PTP_PDELAY_REQ_RECEIVE (R304, R305): every enabled port answers; the egress stamp of the answer is `out`. -/
def State.pdelayReqRx (s : State) (n stamp out : Nat) (h : PtpHdr) : State :=
  let a := s.ptpAccept n 2 h
  let s := a.1
  if ¬ a.2 ∨ isE2e s (portInst s n) then s
  else
    let mtb := rxMtb s n stamp
    let mto := txMtb s n out
    let t2 := stampPs s (portTk s n) mtb
    let t3 := stampPs s (portTk s n) mto
    let s := s.capPtp n true 2 h.seq mtb h.srcId h.srcPort
    let s :=
      if oneStep s (portInst s n) then
        s.ptpSend n [⟨3, h.seq, 0, h.corr + rdiv 64 ((t3 - t2) * 65536) 1000, false, none, none⟩]
      else
        s.ptpSend n [⟨3, h.seq, nsOf t2, -subNs t2, true, none, none⟩, ⟨10, h.seq, nsOf t3, h.corr + subNs t3, false, none, none⟩]
    if canSend s n then s.capPtp n false 3 h.seq mto (clockIdentity s) (portNumber n) else s

/-- The sample of a complete peer-delay exchange (R310): t2 and t3 in ns of the peer, t1 and t4 in ps, the correction of both
messages; a response that carries no times leaves r at 1 (log entry 19). -/
def State.pdelayExchange (s : State) (n : Nat) (t1 t2 t3 t4 corr : Int) : State :=
  let s := s.ethUp n fun x =>
    let l := ((t3 * 1000, t4) :: x.pdPairs).take (pdN s x.inst + 1)
    let old := l.getLast?.getD (0, 0)
    let d4 := t4 - old.2
    { x with pdPairs := l,
             nrrF := if t3 = 0 ∨ d4 = 0 then 0 else ((t3 * 1000 - old.1 - d4) * 1000000000000 * 2 ^ 40).fdiv d4 }
  let r := 1000000000000 * 2 ^ 40 + (s.ethAt n).nrrF
  s.pdSample n (((t4 - t1) * r).fdiv 1000000000000 - (t3 - t2) * 1000 * 2 ^ 40 - corr * 1000 * 2 ^ 24)

/-- A peer-delay exchange is complete; a stamp that a step of the time keeper has put out of use gives no sample (R276). -/
def State.pdelayDone (s : State) (n : Nat) (sent : Option Int) (t2 t3 : Int) (came : Option Int) (corr : Int) : State :=
  match sent, came with
  | some t1, some t4 => s.pdelayExchange n t1 t2 t3 t4 corr
  | _, _ => s.ethUp n fun x => { x with pdMiss := 0 }

/-- PTP_PDELAY_RESP_RECEIVE (R307, R310): `recv` is t2 in ns; a one-step response completes the exchange, and one that
answers no request or comes late is discarded. -/
def State.pdelayRespRx (s : State) (n stamp : Nat) (h : PtpHdr) (reqId reqPort : Nat) (recv : Int) : State :=
  let a := s.ptpAccept n 3 h
  let s := a.1
  if ¬ a.2 ∨ isE2e s (portInst s n) then s
  else
    let mtb := rxMtb s n stamp
    let s := s.capPtp n true 3 h.seq mtb h.srcId h.srcPort
    match (s.ethAt n).pdreq with
    | none => s.bump (ETH.RX_LATE_CNT n)
    | some q =>
      if q.seq ≠ h.seq ∨ q.came + reqNs s n < s.now then s.bump (ETH.RX_LATE_CNT n)
      else
        let mine := reqId == clockIdentity s && reqPort == portNumber n
        let t4 := stampOf s (portTk s n) mtb
        let s := s.ethUp n fun x => { x with peerId := h.srcId, peerPort := h.srcPort, peerOk := mine }
        if ¬ mine then s.capableCheck n
        else if h.twoStep then
          s.ethUp n fun x => { x with pdresp := some ⟨h.seq, (h.srcId, h.srcPort), recv, t4, h.corr⟩ }
        else (s.ethUp n fun x => { x with pdreq := none }).pdelayDone n q.sent recv recv t4 h.corr

/-- PTP_PDELAY_RESP_FUP_RECEIVE (R307, R310): `origin` is t3 in ns. -/
def State.pdelayFupRx (s : State) (n : Nat) (h : PtpHdr) (reqId reqPort : Nat) (origin : Int) : State :=
  let a := s.ptpAccept n 10 h
  let s := a.1
  if ¬ a.2 ∨ isE2e s (portInst s n) then s
  else
    match (s.ethAt n).pdreq, (s.ethAt n).pdresp with
    | some q, some p =>
      if p.seq = h.seq ∧ p.src = (h.srcId, h.srcPort) ∧ reqId = clockIdentity s ∧ reqPort = portNumber n ∧
          s.now ≤ q.came + reqNs s n then
        (s.ethUp n fun x => { x with pdreq := none, pdresp := none }).pdelayDone n q.sent p.t2 origin p.t4 (p.corr + h.corr)
      else s.bump (ETH.RX_LATE_CNT n)
    | _, _ => s.bump (ETH.RX_LATE_CNT n)

/-! ### Announce and the best master clock algorithm (R314, R315; log entry 20) -/

/-- The order of datasets: lower is better. -/
def dsKey (d : Dataset) : List Nat :=
  [d.prio1, d.gmClass, d.accuracy, d.variance, d.prio2, d.gmId, d.steps, d.senderId, d.senderPort]

def lexLt : List Nat → List Nat → Bool
  | x :: xs, y :: ys => decide (x < y) || (decide (x = y) && lexLt xs ys)
  | _, _ => false

def bestDs (l : List Dataset) : Option Dataset :=
  l.foldl (fun b d => match b with
    | none => some d
    | some c => if lexLt (dsKey d) (dsKey c) then some d else some c) none

/-- A foreign master is qualified at once under GPTP, else by two Announces within four announce intervals. -/
def qualified (s : State) (n : Nat) (f : Foreign) : Bool :=
  isGptp s (portInst s n) ||
    decide (2 ≤ (f.seen.filter fun t => decide (s.now ≤ t + 4 * logNs (s.ethAt n).rxAnn)).length)

/-- The best master heard on a port. -/
def portBest (s : State) (n : Nat) : Option Dataset :=
  bestDs (((s.ethAt n).foreign.filter (qualified s n)).map (·.ds))

/-- PTP_ANNOUNCE_RECEIVE (R304, R308, R314): the foreign masters of the port, at most eight; the parent's data follow its
Announces, and the UTC data and leap flags reach the time keeper (R283). -/
def State.announceRx (s : State) (n : Nat) (h : PtpHdr) (d : Dataset) : State :=
  let a := s.ptpAccept n 11 h
  let s := a.1
  if ¬ a.2 then s
  else
    let s := s.bump (ETH.ANN_RX_CNT n)
    let d := { d with senderId := h.srcId, senderPort := h.srcPort }
    let i := portInst s n
    let s := s.ethUp n fun x => { x with annAt := s.now, annTo := false, rxAnn := h.logInt }
    if d.senderId = clockIdentity s ∨ 255 ≤ d.steps then s.qualUpdate n
    else
      let same := fun (f : Foreign) => f.ds.senderId == d.senderId && f.ds.senderPort == d.senderPort
      let s := s.ethUp n fun x =>
        if x.foreign.any same then
          { x with foreign := x.foreign.map fun f => if same f then ⟨d, (s.now :: f.seen).take 2⟩ else f }
        else if x.foreign.length < 8 then { x with foreign := x.foreign ++ [⟨d, [s.now]⟩] }
        else x
      let isParent := match (s.ptpAt i).parent with
        | some (p, q) => p == n && q.senderId == d.senderId && q.senderPort == d.senderPort
        | none => false
      let s :=
        if isParent || (!bmcaOn s i && (s.ethAt n).pst.follows) then
          let s := (s.ptpUp i fun x =>
            { x with parent := some (n, { d with timeBase := ((x.parent.map (·.2.timeBase)).getD 0) }) }).gmCheck i
          let t := portTk s n
          if tkSrc s t = i + 1 ∧ bitsOf d.flags 2 2 = 1 then
            s.tkUtc t (some d.utcOfs) (bitsOf d.flags 0 0 == 1) (bitsOf d.flags 1 1 == 1)
          else s
        else s
      s.qualUpdate n

/-- The state decision of one port: the instance's dataset d0, the best of all ports, the best of this port. -/
def decide1 (s : State) (i n : Nat) (d0 : Dataset) (eb : Option (Nat × Dataset)) : PortState :=
  let er := portBest s n
  let x := s.ethAt n
  let low := !isGptp s i && decide (1 ≤ d0.gmClass) && decide (d0.gmClass ≤ 127)
  let own := fun (d : Dataset) => lexLt (dsKey d0) (dsKey d)
  let st : PortState :=
    match er with
    | none =>
      if x.pst == .listening && !isGptp s i && decide (s.now < x.annAt + annTimeouts s i * annNs s n) then .listening
      else .master
    | some d =>
      if low then (if own d then .master else .passive)
      else match eb with
        | none => .master
        | some (p, b) =>
          if own b then .master
          else if p = n then (if x.pst == .slave && ((s.ptpAt i).parent.map (·.1)) == some n then .slave else .uncalibrated)
          else if lexLt (dsKey d) (dsKey { b with steps := b.steps + 1, senderId := clockIdentity s, senderPort := 0 }) then
            .passive
          else .master
  if isGptp s i && !asCapable s n && (st == .master || st == .slave) then .listening else st

/-- The best master over the ports of an instance with the port it was heard on. -/
def instBest (s : State) (i : Nat) : Option (Nat × Dataset) :=
  (members s i).foldl (fun b n =>
    if (s.ethAt n).link && (!isGptp s i || asCapable s n) then
      match portBest s n, b with
      | some d, none => some (n, d)
      | some d, some (p, c) => if lexLt (dsKey d) (dsKey c) then some (n, d) else some (p, c)
      | none, b => b
    else b) none

/-- A port takes the state decided; under E2E and P2P a port that turns MASTER below another master first waits in
PRE_MASTER. -/
def State.portDecide (s : State) (i n : Nat) (q : PortState) (waits : Bool) : State :=
  let x := s.ethAt n
  if q = .master ∧ waits ∧ x.pst ≠ .master then
    if x.pst ≠ .preMaster then (s.ethUp n fun y => { y with preAt := s.now }).portTo n .preMaster
    else
      let k := ((s.ptpAt i).parent.map (·.2.steps)).getD 0 + 2
      if x.preAt + k * annNs s n ≤ s.now then s.portTo n .master else s
  else s.portTo n q

/-- BMCA_RUN (R314): the decision and its time in µs. -/
def State.bmcaRun (s : State) (i us : Nat) : State :=
  if ¬ (s.ptpAt i).en ∨ ¬ bmcaOn s i ∨ ¬ macOn s ∨ 4 ≤ i then s
  else
    let s := (s.bump PTP.BMCA_RUN_CNT).ptpUp i fun x => { x with annClass := ownClass s i }
    let us := satNat 16 us
    let s := { s with ptpc := { s.ptpc with lat := us, latMax := max s.ptpc.latMax us } }
    let d0 := ownDs s i
    let eb := instBest s i
    let ports := (members s i).filter fun n => (s.ethAt n).link && (s.ethAt n).pst != .disabled
    let qs : List (Nat × PortState) := ports.map fun n => (n, decide1 s i n d0 eb)
    let slave := (qs.find? fun q => q.2.follows).map (·.1)
    let oldParent := (s.ptpAt i).parent
    let par := match slave, eb with
      | some n, some (p, d) => if n = p then some (p, d) else none
      | _, _ => none
    let changed := (par.map fun q => (q.1, q.2.senderId, q.2.senderPort)) !=
      (oldParent.map fun q => (q.1, q.2.senderId, q.2.senderPort))
    let s := s.ptpUp i fun x => { x with parent := par }
    let s := qs.foldl (fun u q =>
      let st := if q.2 == .slave && changed then PortState.uncalibrated else q.2
      u.portDecide i q.1 st (!isGptp s i && slave.isSome)) s
    let s := s.gmCheck i
    (members s i).foldl (fun u n => u.qualUpdate n) s

/-- SYNC_RECEIPT_TIMEOUT (R308): under GPTP the master heard on the port is aged out. -/
def State.syncTimeout (s : State) (n : Nat) : State :=
  let x := s.ethAt n
  if ptpOn s n ∧ x.pst.follows ∧ ¬ x.syncTo ∧ x.syncAt + syncTimeouts s x.inst * logNs x.rxSync ≤ s.now then
    let s := s.ethUp n fun y =>
      { y with syncTo := true, goodSeen := false, qualN := 0, foreign := if isGptp s x.inst then [] else y.foreign }
    let s := ((s.flag (ETH.PORT_EVT_SYNC_TO n)).bump (ETH.SYNC_TO_CNT n)).portEvent n .warn 4
    s.qualUpdate n
  else s

/-- ANNOUNCE_RECEIPT_TIMEOUT (R308); not on a static port (R315). -/
def State.announceTimeout (s : State) (n : Nat) : State :=
  let x := s.ethAt n
  if ptpOn s n ∧ bmcaOn s x.inst ∧ x.link ∧ ¬ x.annTo ∧
      (x.pst.follows ∨ x.pst = .listening ∨ x.pst = .passive) ∧
      x.annAt + annTimeouts s x.inst * logNs x.rxAnn ≤ s.now then
    let s := s.ethUp n fun y => { y with annTo := true, foreign := [] }
    let s := ((s.flag (ETH.PORT_EVT_ANN_TO n)).bump (ETH.ANN_TO_CNT n)).portEvent n .warn 5
    s.qualUpdate n
  else s

/-! ### Sending (R303 to R306) -/

def dueSince (last : Option Nat) (ns now : Nat) : Bool :=
  match last with
  | none => true
  | some t => decide (t + ns ≤ now)

/-- The gmTimeBaseIndicator in the Follow_Up information TLV of a GPTP instance (R303). -/
def fupInfo (s : State) (i : Nat) : Option Nat := if isGptp s i then some (announced s i).timeBase else none

/-- SYNC_TX (R304, R305): a master port sends Sync, and its Follow_Up if two-step. -/
def State.syncTx (s : State) (n stamp : Nat) : State :=
  let x := s.ethAt n
  if ¬ (ptpOn s n ∧ macOn s ∧ x.pst = .master ∧ dueSince x.syncTxAt (syncNs s n) s.now) then s
  else
    let mtb := txMtb s n stamp
    let t1 := stampPs s (portTk s n) mtb
    let seq := x.seqSync
    let go := canSend s n
    let s := s.ethUp n fun y => { y with syncTxAt := some s.now, seqSync := (seq + 1) % 65536 }
    let s :=
      if oneStep s x.inst then s.ptpSend n [⟨0, seq, nsOf t1, subNs t1, false, none, none⟩]
      else s.ptpSend n [⟨0, seq, 0, 0, true, none, none⟩, ⟨8, seq, nsOf t1, subNs t1, false, none, fupInfo s x.inst⟩]
    if go then s.capPtp n false 0 seq mtb (clockIdentity s) (portNumber n) else s

/-- ANNOUNCE_TX (R303, R304, R316). -/
def State.announceTx (s : State) (n : Nat) : State :=
  let x := s.ethAt n
  if ¬ (ptpOn s n ∧ macOn s ∧ x.pst = .master ∧ dueSince x.annTxAt (annNs s n) s.now) then s
  else
    let s := s.ptpUp x.inst fun y => { y with annClass := ownClass s x.inst }
    let s := s.ethUp n fun y => { y with annTxAt := some s.now, seqAnn := (x.seqAnn + 1) % 65536 }
    s.ptpSend n [⟨11, x.seqAnn, 0, 0, false, some (announced s x.inst), none⟩]

/-- DELAY_REQ_TX (R304, R306): the E2E slave port asks. -/
def State.delayReqTx (s : State) (n stamp : Nat) : State :=
  let x := s.ethAt n
  if ¬ (ptpOn s n ∧ macOn s ∧ isE2e s x.inst ∧ x.pst.follows ∧ dueSince x.reqTxAt (reqNs s n) s.now) then s
  else
    let s := if x.dreq.isSome then s.reqMissed n else s
    let mtb := txMtb s n stamp
    let seq := x.seqReq
    let go := canSend s n
    let s := s.ethUp n fun y => { y with reqTxAt := some s.now, seqReq := (seq + 1) % 65536 }
    let s := s.ptpSend n [⟨1, seq, 0, 0, false, none, none⟩]
    if go then
      let s := s.ethUp n fun y => { y with dreq := some ⟨seq, stampOf s (portTk s n) mtb, s.now⟩ }
      s.capPtp n false 1 seq mtb (clockIdentity s) (portNumber n)
    else s

/-- PDELAY_REQ_TX (R304): every port that is not DISABLED, under GPTP and P2P. -/
def State.pdelayReqTx (s : State) (n stamp : Nat) : State :=
  let x := s.ethAt n
  if ¬ (ptpOn s n ∧ macOn s ∧ ¬ isE2e s x.inst ∧ x.pst ≠ .disabled ∧ dueSince x.reqTxAt (reqNs s n) s.now) then s
  else
    let s := if x.pdreq.isSome then s.reqMissed n else s
    let mtb := txMtb s n stamp
    let seq := x.seqReq
    let go := canSend s n
    let s := s.ethUp n fun y => { y with reqTxAt := some s.now, seqReq := (seq + 1) % 65536 }
    let s := s.ptpSend n [⟨2, seq, 0, 0, false, none, none⟩]
    if go then
      let s := s.ethUp n fun y => { y with pdreq := some ⟨seq, stampOf s (portTk s n) mtb, s.now⟩, pdresp := none }
      s.capPtp n false 2 seq mtb (clockIdentity s) (portNumber n)
    else s

/-! ### Signaling and management (R304, R306, R319) -/

/-- One field of a message interval request (R306): 126 is the initial value, -128 no change. -/
def newIntv (ok : Int → Bool) (old : Option Int) (v : Int) : Option Int :=
  if v = 126 then none else if ok v then some v else old

/-- PTP_SIGNALING_RECEIVE: `ask` is the message interval request TLV (Pdelay_Req, Sync, Announce). -/
def State.signalingRx (s : State) (n : Nat) (h : PtpHdr) (ask : Option (Int × Int × Int)) : State :=
  let a := s.ptpAccept n 12 h
  let s := a.1
  if ¬ a.2 then s
  else match ask with
    | some (d, y, an) =>
      if isGptp s (portInst s n) then
        s.ethUp n fun x =>
          { x with txDreq := newIntv dreqOk x.txDreq d, txSync := newIntv syncOk x.txSync y,
                   txAnn := newIntv annOk x.txAnn an }
      else s.bump PTP.SIG_DROP_CNT
    | none => s.bump PTP.SIG_DROP_CNT

/-- PTP_MANAGEMENT_RECEIVE (R319): `get` says that it is a GET, `target` names a port number, none all ports. -/
def State.managementRx (s : State) (n : Nat) (h : PtpHdr) (get : Bool) (ask : MgmtAsk) (target : Option Nat) : State :=
  let a := s.ptpAccept n 13 h
  let s := a.1
  if ¬ a.2 then s
  else
    let s := s.bump (ETH.MGMT_RX_CNT n)
    let i := portInst s n
    let recent := (s.ptpAt i).mgmt.filter fun t => decide (s.now < t + 1000000000)
    let hit := match target with
      | none => true
      | some p => (members s i).any fun m => portNumber m == p
    if get && ask != .other && hit && !isGptp s i && s.bit (PTI.INST_CTRL_MGMT_EN i) && decide (recent.length < 16) then
      let ds := match ask with
        | .null | .clockDescription => none
        | .defaultDs => some (ownDs s i)
        | _ => some (match (s.ptpAt i).parent with
          | some (_, d) => d
          | none => ownDs s i)
      let s := s.ptpUp i fun x => { x with mgmt := s.now :: recent }
      let s := if canSend s n then s.bump PTP.MGMT_RESP_CNT else s
      s.ptpSend n [⟨13, h.seq, 0, 0, false, ds, none⟩]
    else s.bump PTP.MGMT_DROP_CNT

/-! ### Instances, keys, datasets -/

/-- The instance's enable, configuration error and key state after a write that can change them (R302, R306, R315, R322);
`rise` events for a condition that begins. -/
def State.instReconf (s : State) (i : Nat) : State :=
  let old := s.ptpAt i
  let want := s.bit (PTI.INST_CTRL_EN i)
  let on := want && !instBad s i
  let s := s.ptpUp i fun x => { x with en := on }
  let bad := want && (instBad s i || (!bmcaOn s i && decide (1 < (staticSlaves s i).length)))
  let s := s.ptpUp i fun x => { x with cfgErr := bad }
  let s := if bad && !old.cfgErr then (s.flag (PTI.INST_EVT_CFG i)).instEvent i 0 .warn 3 else s
  let s :=
    if on && !old.en then
      let s := s.ptpUp i fun x => { x with annClass := ownClass s i, gmId := clockIdentity s, parent := none, mgmt := [] }
      (members s i).foldl (fun u n => u.portStart n) s
    else if !on && old.en then
      let s := s.ptpUp i fun x => { x with parent := none }
      (members s i).foldl (fun u n => u.portStart n) s
    else s
  let k := keyMissing s i
  let s := s.ptpUp i fun x => { x with keyMissing := k }
  let s := if k && !old.keyMissing then (s.flag (PTI.INST_EVT_KEY i)).instEvent i 0 .warn 4 else s
  (members s i).foldl (fun u n => u.qualUpdate n) s

/-- A static role, a BMCA_EN or an asCapable setting was written: the member ports take their roles (R315). -/
def State.rolesWritten (s : State) (i : Nat) : State :=
  if (s.ptpAt i).en then
    (members s i).foldl (fun u n =>
      if (u.ethAt n).link ∧ ¬ bmcaOn u i then
        let q := restState u n
        if q = .uncalibrated ∧ (u.ethAt n).pst = .slave then u else u.portTo n q
      else u) s
  else s

/-- The key state of every instance after a change of the slots (R322). -/
def State.keysChanged (s : State) : State := (List.range 4).foldl State.instReconf s

/-- PORT_CFG.INST applies at the next epoch; the port restarts in INITIALIZING (R325). -/
def State.portInstEpoch (s : State) (n : Nat) : State :=
  let want := s.fld (ETH.PORT_CFG_INST n)
  if want = (s.ethAt n).inst then s
  else
    let old := (s.ethAt n).inst
    let s := s.dropParent n
    let s := s.ethUp n fun x =>
      { x with inst := want, sync := none, dreq := none, pdreq := none, pdresp := none, foreign := [], txSync := none,
               txAnn := none, txDreq := none, pst := .none }
    let s := if old < 4 then s.instReconf old else s
    let s := if want < 4 then s.instReconf want else s
    s.portStart n

/-- PD_RESTART written 1: the held samples are discarded. -/
def State.pdRestart (s : State) (n : Nat) : State := s.ethUp n fun x => { x with mpds := [], pdPairs := [] }

/-- KEY_CTRL.SLOT written: PTR returns to 0 (R322). -/
def State.keySelect (s : State) : State := { s with ptpc := { s.ptpc with keyBuf := [] } }

/-- A KEY_DATA write: first key byte in bits 15:8 of the first word (R322). -/
def State.keyData (s : State) (w : Nat) : State :=
  if s.ptpc.keyBuf.length < 16 then { s with ptpc := { s.ptpc with keyBuf := s.ptpc.keyBuf ++ [w] } } else s

/-- COMMIT (R322): stores the key when PTR is 16; an unusable secure bank holds none (R504). -/
def State.keyCommit (s : State) : State :=
  if s.ptpc.keyBuf.length = 16 ∧ ¬ (vat s.bist.units 12).unusable then
    let key := s.ptpc.keyBuf.foldl (fun a w => a * 65536 + w) 0
    ({ s with mem := { s.mem with keys := vup s.mem.keys (s.fld PTP.KEY_CTRL_SLOT) fun _ => some key } }).keysChanged
  else s

/-- ERASE (R322). -/
def State.keyErase (s : State) : State :=
  ({ s with mem := { s.mem with keys := vup s.mem.keys (s.fld PTP.KEY_CTRL_SLOT) fun _ => none } }).keysChanged

/-- The dataset item DS_SEL names (R317). -/
def dsItem (s : State) (i item : Nat) : Nat :=
  let par := (s.ptpAt i).parent
  let d := match par with
    | some (_, d) => d
    | none => ownDs s i
  let word := fun (v k : Nat) => v / 65536 ^ k % 65536
  if item < 4 then word d.gmId item
  else if item = 4 then d.gmClass % 256 * 256 + d.accuracy % 256
  else if item = 5 then d.variance % 65536
  else if item = 6 then d.prio1 % 256 * 256 + d.prio2 % 256
  else if item < 11 then word d.senderId (item - 7)
  else if item = 11 then d.senderPort % 65536
  else if item = 12 then (if par.isSome then ofSigned 16 d.utcOfs else 0)
  else if item = 13 then (if par.isSome then d.flags % 256 * 256 + d.timeSource % 256 else 0)
  else if item = 14 then (if par.isSome then d.timeBase % 65536 else 0)
  else 0

/-- Writing DS_SEL copies the item (R317). -/
def State.dsCopy (s : State) : State :=
  { s with ptpc := { s.ptpc with dsData := dsItem s (s.fld PTP.DS_SEL_INST) (s.fld PTP.DS_SEL_ITEM) } }

/-! ### The epoch -/

/-- The results of the enabled estimators at an epoch edge (R115, R116, R312).  An estimator is enabled while its port's
reference is not ABSENT: while the port follows a master, or has failed doing so (DESIGN CHOICE, log entry 71: R116 does not say
which estimators are enabled). -/
def State.estClose (s : State) : State :=
  (List.range 8).foldl (fun u n =>
    let x := u.ethAt n
    if x.qual = .absent then u
    else
      let e := x.est.getD (0, 0)
      let r : Result :=
        { src := 32 + n, valid := x.est.isSome, newEdge := x.estNew, los := false, reanchor := false, dstep := false,
          hit := false, etag := u.epoch % 16, age := satNat 16 (rdiv 2 ((u.now * 1000 : Nat) - (e.2 : Int)) 1000).toNat, phase := e.1 }
      { u with coll := { u.coll with entries := u.coll.entries ++ [r] },
               eth := vup u.eth n fun y => { y with estNew := false } }) s

/-- What the ports do at an epoch edge (R291, R325). -/
def State.ethEpoch (s : State) : State :=
  (List.range 8).foldl (fun u n => (u.portInstEpoch n).txSteer n) s

end Sys2Proof.Machine
end

