-- ==== Sys2Proof/Machine/SelfTest.lean ====
section
/-! DEFINITION. Self-test, the life cycle and on-module memory (16: R497 to R526). -/
namespace Sys2Proof.Machine

def State.bistUp (s : State) (f : Bist → Bist) : State := { s with bist := f s.bist }
def unitAt (s : State) (u : Nat) : Unit3 := vat s.bist.units u
def State.unitUp (s : State) (u : Nat) (f : Unit3 → Unit3) : State :=
  { s with bist := { s.bist with units := vup s.bist.units u f } }
def State.lcUp (s : State) (f : Lc → Lc) : State := { s with lc := f s.lc }
def State.memUp (s : State) (f : Mem → Mem) : State := { s with mem := f s.mem }

/-! ### The life-cycle state (R513) -/

/-- The state that the fuses and the seal flag give. -/
def lcState (s : State) : LcState :=
  if s.lc.endFuse then .ended
  else if s.lc.retFuse then .ret
  else if s.lc.fieldFuse then (if s.nvs.sealFlag then .sealed else .field)
  else if s.lc.provFuse then .provision
  else .fab

/-- FAB 0 to END 5, in the order of R21: FAB, PROVISION, FIELD, SEALED, RETURN, END. -/
def LcState.code : LcState → Nat
  | .fab => 0
  | .provision => 1
  | .field => 2
  | .sealed => 3
  | .ret => 4
  | .ended => 5

def LcState.ofCode : Nat → Option LcState
  | 0 => some .fab
  | 1 => some .provision
  | 2 => some .field
  | 3 => some .sealed
  | 4 => some .ret
  | 5 => some .ended
  | _ => none

/-- LC_STAT.LOCK: SEALED or END. -/
def lcLocked (s : State) : Bool := lcState s == .sealed || lcState s == .ended

/-- The transitions of R513 that GO may request; the return to FIELD needs an unseal. -/
def lcMoves : LcState → LcState → Bool
  | .fab, .provision => true
  | .provision, .field => true
  | .field, .sealed => true
  | .provision, .ret => true
  | .field, .ret => true
  | .sealed, .ret => true
  | .ended, .ended => false
  | _, .ended => true
  | _, _ => false

/-! ### Units under test (R497, R498, R504) -/

/-- A unit's coverage in per cent (R497, R524). -/
def coverage (u : Nat) : Nat := if u < 13 ∨ (26 ≤ u ∧ u < 33) then 100 else 92

/-- A unit's expected count (R497, R510); that of a logic test is not stated (log entry 4). -/
def expectedOf (u : Nat) : Nat :=
  if u < 4 then 40960 else if u < 12 then 81920 else if u = 12 then 20480
  else if 26 ≤ u ∧ u < 33 then 67 else Config.bistExpected u

/-- Two parametric tests never run together: the added power stays within 2.5 W (R498). -/
def isParam (u : Nat) : Bool := decide (26 ≤ u) && decide (u < 33)

/-- Unit u may start: fewer than two units under test, itself not among them, the power within its limit. -/
def mayStart (s : State) (u : Nat) : Bool :=
  decide (s.bist.active.length < 2) && !s.testing u && !(isParam u && s.bist.active.any fun x => isParam x.1)

/-- A tree under test takes its outputs into TEST, whatever their state (R248, R265). -/
def State.outTest (s : State) (n : Nat) : State :=
  s.outUp n fun o => if o.st = .parked then o else { o with st := .test, counting := false }

/-- At rejoin an output returns through ALIGNING (R265), or to its fault state; one that had not started is as at its enable. -/
def State.outUntest (s : State) (n : Nat) : State :=
  if (s.outAt n).st ≠ .test ∨ treeTesting s n then s
  else if (s.outAt n).fresh then (s.outUp n fun o => { o with st := .off }).outTryStart n false
  else s.outUp n fun o => if o.drvFault then { o with st := .safe } else o.align true

/-- The outputs of tree k: those with SRC_SYN k, and for SYNS those in bypass on it. -/
def treeOuts (s : State) (k : Nat) : List Nat :=
  (List.range 40).filter fun n =>
    if k = 6 then (s.outAt n).st == .bypass && s.fld (OUT.CTRL_BYP_SRC n) == 1 else outSyn s n == k

/-- The units whose test holds every output in TEST (R501). -/
def holdsAll (u : Nat) : Bool := u == 43 || u == 44 || u == 47

/-- The block of a unit leaves service (R498, R501, R507). -/
def State.isolate (s : State) (u : Nat) : State :=
  if 13 ≤ u ∧ u < 19 then (List.range 4).foldl (fun t i => t.monReconfig (4 * (u - 13) + i)) s
  else if 19 ≤ u ∧ u < 25 then (treeOuts s (u - 19)).foldl State.outTest s
  else if u = 25 then s.gateSyns
  else if 26 ≤ u ∧ u < 33 then s.synOff (u - 26)
  else if 33 ≤ u ∧ u < 41 then
    let s := s.linkGone (u - 33)
    if u - 33 < 8 then s.monReconfig (16 + (u - 33)) else s
  else if u = 41 then s.upFall false
  else if u = 42 then s.dnFall false
  else if holdsAll u then (List.range 40).foldl State.outTest s
  else s

/-- The block rejoins from its register file (R405, R498). -/
def State.rejoin (s : State) (u : Nat) : State :=
  if 13 ≤ u ∧ u < 19 then (List.range 4).foldl (fun t i => t.monReconfig (4 * (u - 13) + i)) s
  else if 19 ≤ u ∧ u < 26 then
    let s := (List.range 40).foldl State.outUntest s
    if s.bit (SYN.CTRL_EN (u - 19)) then s.synEnable (u - 19) else s
  else if 26 ≤ u ∧ u < 33 then (if s.bit (SYN.CTRL_EN (u - 26)) then s.synEnable (u - 26) else s)
  else if 33 ≤ u ∧ u < 41 then s.monReconfig (16 + (u - 33))
  else if u = 41 ∨ u = 42 then s.casTrain
  else if holdsAll u then (List.range 40).foldl State.outUntest s
  else s

/-- A test begins: the unit, its origin (1 request, 2 background, 3 background and destructive), the time. -/
def State.testBegin (s : State) (u origin : Nat) : State :=
  (s.bistUp fun b => { b with active := b.active ++ [(u, origin, s.now)] }).isolate u

/-! ### Verdicts (R502, R503, R506) -/

def Verdict3.code : Verdict3 → Nat
  | .none => 0
  | .pass => 1
  | .fail => 2
  | .aborted => 3
  | .incomplete => 4

/-- The verdict of a test that was not aborted. -/
def verdictOf (u : Nat) (r : TestResult) : Verdict3 :=
  if r.applied < expectedOf u then .incomplete
  else if expectedOf u < r.applied then .fail
  else if r.sigOk then .pass
  else .fail

/-- A verdict is reported: counter, flags, source 26 or 27, and the BIST_FAIL spread counter (R502). -/
def State.report (s : State) (u origin : Nat) (v : Verdict3) : State :=
  let rest := u * 256 + v.code * 32 + min 2 origin
  match v with
  | .none => s
  | .pass => ((s.flag BIST.BIST_EVT_DONE).bump BIST.PASS_CNT).raise 26 .info 0 rest
  | .aborted => ((s.flag BIST.BIST_EVT_ABORTED).bump BIST.ABORT_CNT).raise 26 .info 0 rest
  | .fail => (((s.flag BIST.BIST_EVT_FAIL).bump BIST.FAIL_CNT).countInc 11).raise 27 .warn 0 rest
  | .incomplete => ((s.flag BIST.BIST_EVT_INCOMPLETE).bump BIST.INCOMPL_CNT).raise 27 .warn 0 rest

/-- An event of sources 22 and 23: word 5 is bank [15:12] and cause [2:0]. -/
def State.memEvent (s : State) (src : Nat) (sev : Severity) (cause bank : Nat) : State :=
  s.raise src sev cause (bank * 4096)

/-- Factory spare columns of a bank (R519). -/
def spares (b : Nat) : Nat := if b < 4 then 4 else if b < 12 then 8 else 2

def sparesLeft (s : State) (b : Nat) : Nat := spares b - vat s.mem.factory b - vat s.mem.soft b

/-- SRAM_REPAIR (R506): a spare column replaces the failing one, and the window is tested again; with no spare left the
bank stays in service unrepaired. -/
def State.repair (s : State) (b : Nat) (ok : Bool) : State × Verdict3 :=
  if sparesLeft s b = 0 then (((s.flag MEM.MEM_EVT_NO_SPARE).memEvent 23 .warn 3 b), .fail)
  else
    let s := s.memUp fun m => { m with soft := vup m.soft b (· + 1) }
    if ok then (((s.flag MEM.MEM_EVT_REPAIR).bump MEM.REPAIR_CNT).memEvent 22 .info 1 b, .pass) else (s, .fail)

/-- The stalls of the sequencer that a test caused (R510). -/
def State.stalled (s : State) (n longest : Nat) : State :=
  (s.bump MEM.STALL_CNT n).memUp fun m => { m with stallMax := max m.stallMax (min 12 longest) }

/-- A unit's result is kept, with its duration in µs. -/
def State.resultPut (s : State) (u origin : Nat) (v : Verdict3) (r : TestResult) (us : Nat) (rep : Bool) : State :=
  s.unitUp u fun x =>
    { x with verdict := v, origin := min 2 origin, repaired := rep, duration := satNat 16 us,
             applied := r.applied, expected := expectedOf u, sig := r.sigOk, completed := v != .aborted }

/-- A test in service ends with its verdict, and the unit rejoins. -/
def State.serviceEnd (s : State) (u origin began : Nat) (r : TestResult) : State :=
  let v0 := verdictOf u r
  let rp := if v0 = .fail ∧ u < 13 then s.repair u r.repairOk else (s, v0)
  let s := rp.1
  let s := if rp.2 = .fail ∧ 13 ≤ u then s.unitUp u fun x => { x with svcFail := true } else s
  let s := s.resultPut u origin rp.2 r ((s.now - began) / 1000) (v0 == .fail && rp.2 == .pass)
  let s := s.bistUp fun b => { b with active := b.active.filter fun x => x.1 != u }
  (s.report u origin rp.2).rejoin u

/-- A test is aborted: the unit is re-initialised and serves (R507, R509). -/
def State.testAbort (s : State) (u origin began : Nat) : State :=
  let s := s.resultPut u origin .aborted ⟨u, 0, false, false, 0, 0⟩ ((s.now - began) / 1000) false
  let s := s.bistUp fun b => { b with active := b.active.filter fun x => x.1 != u }
  (s.report u origin .aborted).rejoin u

/-- A background test that would start in the register-file cycle of what needs its unit or its place does not (R523). -/
def State.testUndo (s : State) (u : Nat) : State :=
  (s.bistUp fun b => { b with active := b.active.filter fun x => x.1 != u }).rejoin u

/-- Every requested and background test that p names is aborted. -/
def State.abortTests (s : State) (p : Nat × Nat × Nat → Bool) : State :=
  (s.bist.active.filter p).foldl (fun t x => t.testAbort x.1 x.2.1 x.2.2) s

/-! ### Requests and background tests (R507 to R509, R511) -/

/-- Unit u is within the reach of the life-cycle state (R511). -/
def reachable (s : State) (u : Nat) : Bool :=
  match lcState s with
  | .fab | .provision | .ret => decide (u < 48)
  | .field => decide (u < 43)
  | .sealed | .ended => false

/-- Every ring's size in force is 0 (R469). -/
def ringsOff (s : State) : Bool := s.cap.ring.toList.all fun r => r.size == 0

/-- Unit u is idle for a background test (R508). -/
def isIdle (s : State) (u : Nat) : Bool :=
  if u < 13 then true
  else if u < 19 then (List.range 4).all fun i => (s.monAt (4 * (u - 13) + i)).st == .absent && !inmWants s (4 * (u - 13) + i)
  else if u < 33 then
    let k := if u < 26 then u - 19 else u - 26
    !s.bit (SYN.CTRL_EN k) &&
      !(k == 6 && (List.range 40).any fun n => (s.outAt n).st == .bypass && s.fld (OUT.CTRL_BYP_SRC n) == 1)
  else if u < 41 then !s.bit (ETH.ETH_CFG_EN (u - 33))
  else if u < 43 then !s.bit CAS.CAS_CFG_EN || roleSel s == 0
  else false

/-- A background test of u would be destructive: a ring bank that R469 holds OFF. -/
def bgOrigin (s : State) (u : Nat) : Nat := if 4 ≤ u ∧ u < 12 ∧ ringsOff s then 3 else 2

/-- The next unit of the pass begins; units that are not idle are skipped and counted (R508). -/
def bgSteps : List Nat → State → State
  | [], s => s
  | u :: rest, s =>
    if isIdle s u then
      if s.bist.active.isEmpty then
        (s.bistUp fun b => { b with bgLeft := rest }).testBegin u (bgOrigin s u)
      else s.bistUp fun b => { b with bgLeft := u :: rest }
    else bgSteps rest ((s.bistUp fun b => { b with bgLeft := rest }).bump BIST.BG_SKIP_CNT)

/-- Background tests may start: RUN, EN, not END, the sequencer not restarting (R480, R498, R508, R512). -/
def bgMay (s : State) : Bool :=
  s.pwr.st == .run && s.bit BIST.BG_CTRL_EN && lcState s != .ended && !s.seq.restarting

/-- The pass goes on when no unit is under test. -/
def State.bgNext (s : State) : State :=
  if bgMay s ∧ s.bist.active.isEmpty ∧ s.bist.queued.isNone then bgSteps s.bist.bgLeft s else s

/-- The hours between passes (R508); 0 is applied as 1. -/
def bgPeriod (s : State) : Nat := max 1 (s.fld BIST.BG_CTRL_PERIOD_H)

/-- BACKGROUND_PASS (R508): due after PERIOD_H powered hours. -/
def State.bgPass (s : State) : State :=
  if bgMay s ∧ s.bist.hoursLeft = 0 ∧ s.bist.bgLeft = [] then
    let us := (List.range 43).filter fun u => bitsOf (s.reg (BIST.BG_MASK (u / 16))) (u % 16) (u % 16) == 1
    (s.bistUp fun b => { b with bgLeft := us, hoursLeft := bgPeriod s }).bgNext
  else s

/-- A request that waits starts when it can; it is judged against the state of then (R507, R523). -/
def State.queueNext (s : State) : State :=
  match s.bist.queued with
  | none => s
  | some u =>
    if s.pwr.st ≠ .run ∨ ¬ mayStart s u then s
    else
      let s := s.bistUp fun b => { b with queued := none }
      if reachable s u then s.testBegin u 1 else s.flag BIST.BIST_EVT_REFUSED

/-- BIST_CTRL.RUN written 1 for a unit in reach (R507): a background test is pre-empted, or, if it began in the same cycle, waits
for its turn (R523); the request starts, waits, or is refused while another waits. -/
def State.bistRun (s : State) (u : Nat) : State :=
  if s.bist.queued.isSome then s.flag BIST.BIST_EVT_REFUSED
  else
    let s := (s.bist.active.filter fun x => decide (2 ≤ x.2.1) && decide (x.2.2 / 4 = s.now / 4)).foldl (fun t x =>
      (t.bistUp fun b => { b with bgLeft := x.1 :: b.bgLeft }).testUndo x.1) s
    let s := s.abortTests fun x => decide (2 ≤ x.2.1)
    (s.bistUp fun b => { b with queued := some u }).queueNext

/-- BIST_CTRL.ABORT (R500, R507): start-up BIST is not aborted. -/
def State.bistAbort (s : State) : State :=
  (((s.abortTests fun _ => true).bistUp fun b => { b with bgLeft := [] }).queueNext)

/-- A unit under background test is needed (R509): it is no longer idle, or a bank under a destructive test is in use again. -/
def bgNeeded (s : State) (x : Nat × Nat × Nat) : Bool :=
  decide (2 ≤ x.2.1) && (!isIdle s x.1 || (x.2.1 == 3 && !ringsOff s) || lcState s == .ended)

/-- A service request to a unit under background test aborts the test (R509); in the cycle in which the test would start, the
unit is skipped (R523). -/
def State.bgSweep (s : State) : State :=
  let s := (s.bist.active.filter fun x => bgNeeded s x && decide (x.2.2 / 4 = s.now / 4)).foldl (fun t x =>
    (t.testUndo x.1).bump BIST.BG_SKIP_CNT) s
  s.abortTests (bgNeeded s)

/-! ### Start-up BIST (R499 to R505) -/

/-- Records all rings hold with the usable banks (R504). -/
def ringCapOf (s : State) : Nat :=
  let bad := fun (par : Nat) => (List.range 8).any fun b => b % 2 == par && (unitAt s (4 + b)).unusable
  if bad 0 && bad 1 then 0 else if bad 0 || bad 1 then 16384 else 32768

/-- No key is held: the instances that need one are checked again (R322, R504, R517). -/
def State.wipe (s : State) (cause : Nat) : State := (s.wipeBank cause).keysChanged

/-- The duration of a unit's start-up test in µs (R497, R499). -/
def startUs (u : Nat) : Nat :=
  if u < 4 then 85 else if u < 12 then 170 else if u = 12 then 43 else if isParam u then 12000 else 4000

/-- A unit's start-up verdict (R503, R505): PASS clears the mark, FAIL or a second INCOMPLETE sets it. -/
def State.startEnd (s : State) (r : TestResult) : State :=
  let u := r.unit
  let v := verdictOf u r
  let again := v == .incomplete && (unitAt s u).verdict != .incomplete
  let s := s.resultPut u 0 v r (startUs u) false
  let s := s.unitUp u fun x =>
    { x with unusable := if v = .pass then false else if again then x.unusable else true,
             svcFail := if v = .pass then false else x.svcFail }
  let s := s.memUp fun m => { m with ringCap := ringCapOf s }
  let s :=
    if u = 12 then
      if v = .pass then (s.shadowRestore).keysChanged
      else if v = .fail then s.wipe 4
      else if again then s
      else (s.memUp fun m => { m with keys := Vector.replicate 16 none, half := (none, none) }).keysChanged
    else s
  s.report u 0 v

/-- BIST_TEST_END (R502): a unit under test in service, or a unit of the start-up run, ends its test. -/
def State.testEnd (s : State) (r : TestResult) : State :=
  match s.bist.active.find? fun x => x.1 == r.unit with
  | some x => (((s.stalled r.stalls r.longest).serviceEnd x.1 x.2.1 x.2.2 r).queueNext).bgNext
  | none =>
    if s.bist.full ∧ ¬ s.bist.done ∧ r.unit < 43 then s.startEnd r else s

/-! ### Life cycle (R513 to R518) -/

/-- An open sealing window closes as abandoned. -/
def State.sealDrop (s : State) : State :=
  if s.lc.sealing.isSome then (s.lcUp fun l => { l with sealing := none }).flag SYS.LC_EVT_SEAL_ABANDON else s

/-- A life-cycle event (R474, SYS.HIST_SEL): new state [15:13], old state [12:10]. -/
def State.lcEvent (s : State) (old new : LcState) (tamper : Bool) : State :=
  s.raise 1 .info 0 (new.code * 8192 + old.code * 1024 + tamper.toNat)

/-- A transition is complete (R512, R514). -/
def State.lcDone (s : State) (old : LcState) : State :=
  let s := ((s.countInc 6).flag SYS.LC_EVT_CHANGE).flag SYS.SYS_EVT_LC_CHANGE
  let s := s.nvsUp fun x => { x with bpWritten := false }
  let s := s.lcEvent old (lcState s) false
  let s := if lcState s = .ended then (s.abortTests fun x => decide (2 ≤ x.2.1)).bistUp fun b => { b with bgLeft := [] } else s
  s.keysChanged

/-- LC_CTRL.GO (R514, R515). -/
def State.lcGo (s : State) : State :=
  if s.lc.busy.isSome then s.goNote SYS.LC_CTRL_GO true
  else
    let t := s.fld SYS.LC_CTRL_TARGET
    let ok := s.reg SYS.LC_CONFIRM == 0xA500 + t
    let s := s.setReg SYS.LC_CONFIRM 0
    match LcState.ofCode t with
    | some q =>
      if ok && lcMoves (lcState s) q && !(q == .sealed && (unitAt s 12).unusable) then
        let s := s.wipe 2
        if q = .sealed then s.lcUp fun l => { l with sealing := some (s.now + 60000000000) }
        else s.sealDrop.lcUp fun l => { l with busy := some q }
      else s.flag SYS.LC_EVT_BAD_REQ
    | none => s.flag SYS.LC_EVT_BAD_REQ

/-- A fuse is blown. -/
def Lc.blow (l : Lc) : LcState → Lc
  | .fab => l
  | .provision => { l with provFuse := true }
  | .field => { l with fieldFuse := true }
  | .sealed => l
  | .ret => { l with retFuse := true }
  | .ended => { l with endFuse := true }

/-- LC_TRANSITION_DONE: the fuse is programmed, or fails to program and leaves the state unchanged (R514). -/
def State.lcFuse (s : State) (ok : Bool) : State :=
  match s.lc.busy with
  | none => s
  | some q =>
    let old := lcState s
    let s := s.lcUp fun l => { l with busy := none, fuseErr := !ok }
    (if ok then (s.lcUp fun l => l.blow q).lcDone old else s).goEnd SYS.LC_CTRL_GO State.lcGo

/-- KEY_OK: both halves of the unseal key are held (R515). -/
def keyOk (s : State) : Bool := s.mem.half.1.isSome && s.mem.half.2.isSome

/-- A 128-bit value held first byte first, bits 15:8 of the first word (R515, R516). -/
def wordsBE16 (s : State) (a : Nat) : Nat := (List.range 8).foldl (fun n i => n * 65536 + s.reg (a + i)) 0

/-- KEY_COMMIT (R515): one half of the unseal key, in the sealing window. -/
def State.unsealCommit (s : State) : State :=
  if s.lc.sealing.isNone then s
  else
    let v := wordsBE16 s (SYS.LC_KEY 0)
    let s := s.zeroRegs (SYS.LC_KEY 0) 8
    let s := s.memUp fun m =>
      { m with half := if s.bit SYS.LC_CTRL_KEY_HALF then (m.half.1, some v) else (some v, m.half.2) }
    s.shadowPut

/-- CLOSE (R515). -/
def State.sealClose (s : State) : State :=
  if s.lc.sealing.isSome && keyOk s then
    let old := lcState s
    ((s.lcUp fun l => { l with sealing := none }).nvsUp fun x => { x with sealFlag := true }).lcDone old
  else s.flag SYS.LC_EVT_BAD_REQ

/-- SEALING_WINDOW_EXPIRE (R515). -/
def State.sealExpire (s : State) : State :=
  match s.lc.sealing with
  | some t => if t ≤ s.now then s.sealDrop else s
  | none => s

/-- UNSEAL_REQ (R516): a fresh nonce, no sooner than 1 s after the last. -/
def State.unsealReq (s : State) : State :=
  if (s.lc.nonceAt.map fun t => decide (s.now < t + 1000000000)) = some true then s
  else
    let r := (List.range 8).foldl (fun (p : Nat × State) _ =>
      let q := p.2.takeFree
      (p.1 * 65536 + q.1 % 65536, q.2)) (0, s)
    r.2.lcUp fun l => { l with nonce := r.1, nonceOk := true, nonceAt := some s.now }

/-- The factory EUI-64: what CLOCK_ID holds at reset, first octet (CLOCK_ID3 bits 15:8) first (R516). -/
def factoryEui : List Byte :=
  (List.range 4).flatMap fun i => bytesBE 2 (resetWord (PTP.CLOCK_ID + (3 - i))).toNat

/-- The response that unseals (R516). -/
def unsealMac (s : State) : Option Nat :=
  match s.mem.half with
  | (some a, some b) =>
    some (natBE ((hmac256 (bytesBE 16 a ++ bytesBE 16 b)
      (bytesBE 16 s.lc.nonce ++ factoryEui ++ bytesLE 4 (ctrOf s 4))).take 16))
  | _ => none

/-- UNSEAL_GO (R516): either outcome consumes the nonce. -/
def State.unsealGo (s : State) : State :=
  let ok := s.lc.nonceOk && unsealMac s == some (wordsBE16 s (SYS.LC_RESP 0))
  let old := lcState s
  let s := s.lcUp fun l => { l with nonceOk := false }
  if old ≠ .sealed then s.flag SYS.LC_EVT_BAD_REQ
  else if ok then
    let s := ((s.wipe 2).countInc 4).flag SYS.LC_EVT_UNSEAL_OK
    (s.nvsUp fun x => { x with sealFlag := false }).lcDone old
  else s.flag SYS.LC_EVT_UNSEAL_FAIL

/-- TAMPER (R518). -/
def State.tamper (s : State) : State :=
  let s := ((s.wipe 1).countInc 5).flag SYS.LC_EVT_TAMPER
  (s.lcEvent (lcState s) (lcState s) true).sealDrop

/-! ### Memory (R519, R520) -/

/-- An uncorrectable error (R519); in a sequencer bank the sequencer restarts. -/
def State.eccBad (s : State) (b w : Nat) : State :=
  let s := ((s.flag MEM.MEM_EVT_UNCORR).bump MEM.ECC_UNCORR_CNT).memUp fun m =>
    { m with uncorr := b % 16 * 2 ^ 28 + w % 8192 }
  let s := s.memEvent 23 .warn 2 b
  if b < 4 then s.seqRestart else s

/-- SRAM_SCRUB_PASS (R519, R520): single-bit errors corrected, words with an uncorrectable error, the sequencer's highest
share of each ring bank. -/
def State.sramScrub (s : State) (ms corrected : Nat) (bad : List (Nat × Nat)) (shares : List Nat) : State :=
  let s := s.bump MEM.ECC_CORR_CNT corrected
  let s := bad.foldl (fun t x => t.eccBad x.1 x.2) s
  s.memUp fun m =>
    { m with scrubMs := satNat 16 ms,
             share := Vector.ofFn fun (b : Fin 8) => max (vat m.share b) (min 50 (shares.getD b 0)) }

end Sys2Proof.Machine
end

