-- ==== Sys2Proof/Machine/Power.lean ====
section
/-! DEFINITION. The power ladder and wake (14: R461 to R472), Breeze drivers (R456 to R460), the 48 V input and hold-up
(17: R534 to R539, R555) and the temperatures (R543).  The starts are in Start.lean. -/
namespace Sys2Proof.Machine

def State.pwrUp (s : State) (f : Power → Power) : State := { s with pwr := f s.pwr }

/-! ### The ladder (R462 to R467) -/

/-- PS_STAT.STATE; start-up and off read as RUN. -/
def PState.code : PState → Nat
  | .off | .boot | .run => 0
  | .park => 1
  | .keep => 2
  | .nap => 3
  | .dormant => 4

/-- The state TARGET names; 5 to 7 are treated as RUN (R472). -/
def pTarget (s : State) : PState :=
  match s.fld PWR.PS_CTRL_TARGET with
  | 1 => .park
  | 2 => .keep
  | 3 => .nap
  | 4 => .dormant
  | _ => .run

/-- A Breeze driver stops at the end of its cycle or pulse in progress: at once where it is between pulses (R459). -/
def Breeze.stop (b : Breeze) (t : Nat) : Breeze :=
  if b.active && (bitsOf b.ctrl 14 14 == 0 || b.level t) then { b with stopping := true }
  else { b with active := false }

def State.brzStop (s : State) : State :=
  s.pwrUp fun p => { p with brz := p.brz.map fun b => b.stop p.brzT }

/-- An output completes its cycle or pulse and parks (R465). -/
def Output.park (o : Output) : Output :=
  if o.st = .run ∨ o.st = .aligning ∨ o.st = .gated ∨ o.st = .bypass then { o with st := .parked, counting := false } else o

/-- Every PTP port follows the state of the MAC (R293). -/
def State.portsFollow (s : State) : State := (List.range 8).foldl State.portStart s

/-- Every monitor follows its conditions. -/
def State.monsFollow (s : State) : State := (List.range 24).foldl State.monReconfig s

/-- RUN to PARK (R462, R465, R466, R498). -/
def State.enterPark (s : State) : State :=
  let s := (s.abortTests fun _ => true).bistUp fun b => { b with bgLeft := [] }
  let s := s.pwrUp fun p => { p with st := .park, lowSince := s.now }
  let s := { s with outs := s.outs.map Output.park }.brzStop
  let s := (List.range 8).foldl State.linkGone s.monsFollow
  s.portsFollow.casOff

/-- PARK to KEEP (R462, R168, R561). -/
def State.enterKeep (s : State) : State :=
  let s := s.pwrUp fun p => { p with st := .keep, lowSince := s.now }
  let s := (List.range 7).foldl State.synOff s
  s.domsKeep.ovenUpdate

/-- KEEP to NAP (R285, R353, R467): what is left of the epoch in progress is not done, and its entries are released (R34, R37). -/
def State.enterNap (s : State) : State :=
  let s := (s.capNap.slotsLate).tksNap
  let s := { s with coll := { s.coll with entries := [], stage := 3 } }
  s.pwrUp fun p => { p with st := .nap, lowSince := s.now }

/-- NAP to DORMANT (R462, R467). -/
def State.enterDormant (s : State) : State := s.pwrUp fun p => { p with st := .dormant, lowSince := s.now }

/-- One state down the ladder. -/
def State.stepDown (s : State) : State :=
  match s.pwr.st with
  | .run => s.enterPark
  | .park => s.enterKeep
  | .keep => s.enterNap
  | .nap => s.enterDormant
  | _ => s

/-- NAP to KEEP (R103, R285). -/
def State.leaveNap (s : State) : State :=
  let s := s.tksWake.pwrUp fun p => { p with st := .keep, lowSince := s.now }
  { s with trk := s.trk.map fun t => { t with reanchor := true } }

/-- KEEP to PARK (R463, R561): the oven starts from COLD, the synthesisers from OFF. -/
def State.leaveKeep (s : State) : State :=
  let s := s.pwrUp fun p => { p with st := .park, lowSince := s.now }
  ((List.range 7).foldl State.synEnable s).ovenUpdate

/-- PARK to RUN (R293, R465, R466). -/
def State.leavePark (s : State) : State :=
  let s := s.pwrUp fun p => { p with st := .run }
  let s := { s with outs := s.outs.map fun (o : Output) =>
    if o.st = OState.parked then o.align (!o.fresh) else o }
  let s := (List.range 40).foldl (fun t n => t.outTryStart n true) s
  ((s.monsFollow.portsFollow).casTrain).queueNext

/-- One state up the ladder, up to RUN. -/
def State.stepUp (s : State) : State :=
  match s.pwr.st with
  | .park => s.leavePark
  | .keep => s.leaveKeep
  | .nap => s.leaveNap
  | _ => s

/-- The place of a state on the ladder; start-up and off have none. -/
def PState.rung : PState → Option Nat
  | .run => some 0
  | .park => some 1
  | .keep => some 2
  | .nap => some 3
  | .dormant => some 4
  | .off | .boot => none

def downBy : Nat → State → State
  | 0, s => s
  | n + 1, s => downBy n s.stepDown

def upBy : Nat → State → State
  | 0, s => s
  | n + 1, s => upBy n s.stepUp

/-- The time in the state that is left (LOW_TIME), and the cause (R468, R472). -/
def State.wakeNote (s : State) (cause port : Nat) : State :=
  s.pwrUp fun p =>
    { p with lowTime := satNat 32 ((s.now - p.lowSince) / 1000000000), wakeCause := cause, wakePort := port }

/-- A wake from PARK, KEEP or NAP returns the module to RUN (R468). -/
def State.wakeUp (s : State) (cause port : Nat) : State :=
  match s.pwr.st.rung with
  | some (n + 1) => (upBy (n + 1) (s.wakeNote cause port)).flag PWR.PS_EVT_WOKE
  | _ => s

/-- GO is deferred while the load or start-up BIST runs (R464), and towards a higher state while TRIP is 1 (R555). -/
def goDeferred (s : State) (up : Bool) : Bool :=
  (!s.cfg.loaded && s.cfg.lst != .error) || !s.bist.done || (up && s.thm.trip)

/-- GO acts (R464). -/
def State.goMove (s : State) : State :=
  match s.pwr.st.rung, (pTarget s).rung with
  | some a, some b =>
    if a = b then s.pwrUp fun p => { p with deferred := false }
    else if goDeferred s (decide (b < a)) then s.pwrUp fun p => { p with deferred := true }
    else
      let s := s.pwrUp fun p => { p with deferred := false }
      if a < b then downBy (b - a) s
      else
        let s := upBy (a - b) (s.wakeNote 4 0)
        if b = 0 then s.flag PWR.PS_EVT_WOKE else s
  | _, _ => s.pwrUp fun p => { p with deferred := true }

/-- A deferred GO acts when what defers it has ended. -/
def State.goRetry (s : State) : State := if s.pwr.deferred then s.goMove else s

/-- RTC_TICK (R33): in NAP and DORMANT the counter advances by 30,517.578125 ns. -/
def State.rtcTick (s : State) : State :=
  if s.pwr.st = .nap ∨ s.pwr.st = .dormant then
    let f := s.pwr.rtcFrac + 37
    let t := s.brzAdvance (30517 + f / 64)
    { t with mtb := s.mtb + BitVec.ofNat 64 (30517 + f / 64), pwr := { t.pwr with rtcFrac := f % 64 } }.cycleFrom s
  else s

/-! ### Wake sources (R468) -/

/-- The module is in a state that a wake source can end. -/
def asleep (s : State) : Bool :=
  match s.pwr.st.rung with
  | some n => decide (1 ≤ n) && !s.pwr.holdup
  | none => false

/-- The module woke in the register-file cycle in progress (R468, R471). -/
def wokeNow (s : State) : Bool := s.cyc.sets.contains (PWR.PS_EVT_WOKE.addr, PWR.PS_EVT_WOKE.lo)

/-- A wake source can act: it ends a low state, or it coincides with the one that has. -/
def mayWake (s : State) : Bool := asleep s || wokeNow s

def padWakes (s : State) (high : Bool) : Bool :=
  mayWake s && s.bit PWR.WAKE_CFG_WAKE_EN && s.bit PWR.WAKE_CFG_WAKE_POL == high

def tc10Wakes (s : State) (n : Nat) : Bool :=
  mayWake s && bitsOf (s.fld PWR.WAKE_CFG_TC10_PORTS) n n == 1 && s.bit (ETH.ETH_CFG_TC10_EN n)

def rtcWakes (s : State) : Bool :=
  let a := s.effWide PWR.RTC_ALARM 2
  mayWake s && s.bit PWR.WAKE_CFG_RTC_EN && decide (a ≠ 0) && decide (s.pwr.lowSince + a * 1000000000 ≤ s.now)

/-! ### Grade (R461) -/

/-- A domain whose MODE is AUTO or FORCED and that has an enabled slot is LOCKED with a VALID selected reference. -/
def domGood (s : State) (d : Nat) : Bool :=
  let x := s.domAt d
  decide (2 ≤ domMode s d) || !((List.range 8).any fun i => slotEn s d i) ||
    (x.st == .locked && x.sel.isSome && refState s d x.selRef == .valid)

def gradeFull (s : State) : Bool :=
  s.cfg.loaded && s.bist.done && s.loa.oven == .settled && (List.range 6).all (domGood s)

/-- 0 BREEZE, 1 REDUCED, 2 FULL. -/
def gradeCode (s : State) : Nat := if !s.cfg.loaded then 0 else if gradeFull s then 2 else 1

/-- Entry to FULL and each fall from it set their flags (R461). -/
def State.gradeSweep (s : State) : State :=
  let f := gradeFull s
  if f = s.pwr.full then s
  else
    let s := s.pwrUp fun p => { p with full := f }
    if f then s.flag PWR.PS_EVT_GRADE_FULL else s.flag PWR.PS_EVT_GRADE_LOST

/-! ### Breeze service (R456 to R459) -/

/-- Words of the early-outputs entries: from page 192 if it holds a set, else the factory defaults (R456). -/
def brzWord (s : State) (i : Nat) : Nat :=
  if (pageFind s 192).1.isSome then natLE (((pageData s 192).drop (2 * i)).take 2) else (resetWord (0x0060 + i)).toNat

/-- Entry e may run (R457, R458). -/
def brzOk (ctrl freq : Nat) : Bool :=
  decide (16 ≤ ctrl % 256) && decide (ctrl % 256 < 40) && decide (bitsOf ctrl 13 11 < 5) &&
    (bitsOf ctrl 14 14 == 1 || (decide (1 ≤ freq) && decide (freq ≤ 50000000)))

def brzEntry (s : State) (e : Nat) : Breeze :=
  let w := fun i => brzWord s (4 * e + i)
  let en := bitsOf (w 0) 15 15 == 1
  let f := w 1 + 65536 * w 2
  { active := en && brzOk (w 0) f, stopping := false, err := en && !brzOk (w 0) f, ctrl := w 0, freq := f, width := w 3 }

/-- BREEZE_START (R456): the set is latched, and loaded into the SYS.EO registers. -/
def State.brzStart (s : State) : State :=
  let s := s.pwrUp fun p =>
    { p with brz := Vector.ofFn fun (e : Fin 4) => brzEntry s e, brzNvs := (pageFind s 192).1.isSome }
  (List.range 16).foldl (fun t i => t.setReg (0x0060 + i) (brzWord s i)) s

/-- A driver hands its port over when the configured output could start (R459). -/
def State.brzSweep (s : State) : State :=
  s.pwrUp fun p =>
    { p with brz := p.brz.map fun b =>
        let n := b.ctrl % 256
        if b.active && (s.outAt n).st == .aligning && synLocked s (outSyn s n) then b.stop p.brzT else b }

/-! ### The 48 V input (R534 to R539) -/

/-- An event of sources 4 to 7: word 5 is cause [2:0] and rail [10:8]. -/
def State.pwrEvent (s : State) (src : Nat) (cause rail : Nat) : State := s.raise src .warn cause (rail * 256)

def vinRead (p : Power) (v : Nat) : Power := { p with vin := v, vinMin := min p.vinMin v }

/-- The UV warning threshold in 10 mV (R534). -/
def uvwTh (s : State) : Nat := min 600 (max 360 (s.reg PWR.UVW_TH)) * 10

def State.uvWarn (s : State) (vin : Nat) : State :=
  let s := s.pwrUp fun p => vinRead p vin
  if vin < uvwTh s ∧ ¬ s.pwr.uvWarn then
    let s := s.pwrUp fun p => { p with uvWarn := true }
    ((s.flag PWR.PWR_EVT_UV_WARN).bump PWR.UVW_CNT).pwrEvent 4 1 0
  else s

def State.uvWarnClear (s : State) (vin : Nat) : State :=
  let s := s.pwrUp fun p => vinRead p vin
  if uvwTh s + 100 ≤ vin then s.pwrUp fun p => { p with uvWarn := false } else s

/-- SHEDDING (R537): PHYs, cascade ends, synthesisers, oven and drivers. -/
def State.shed (s : State) : State :=
  let s := (List.range 8).foldl State.linkGone s
  let s := (s.upFall false).dnFall false
  let s := (List.range 7).foldl State.synOff s
  let s := { s with outs := s.outs.map fun (o : Output) => { o with st := .off, counting := false } }.brzStop
  s.casOff.ovenUpdate

/-- Hold-up is engaged (R442, R537): what the NVS island has begun goes on; an operation that waits is not begun, nor is a STORE
accepted in the same cycle (R449). -/
def State.holdUp (s : State) : State :=
  if s.pwr.holdup then s
  else
    let s := match s.nvs.op with
      | .store _ 0 _ _ t => if t / 4 = s.now / 4 then (s.nvsUp fun x => { x with op := .idle }).storeCut else s
      | _ => s
    let s := s.pwrUp fun p => { p with uv := true, holdup := true, holdAt := s.now }
    let s := ((s.flag PWR.PWR_EVT_UV).pwrEvent 5 2 0).pwrEvent 6 4 0
    let s := s.countInc 1
    let s := if s.nvs.pend.isSome then (s.nvsUp fun x => { x with pend := none }).pageRes 5 else s
    s.shed

/-- INPUT_UV (R534, R539): VIN falls through 35.0 V, once input UV is armed. -/
def State.inputUv (s : State) (vin : Nat) : State :=
  let s := s.pwrUp fun p => vinRead p vin
  if vin < 3500 ∧ s.pwr.armed then s.holdUp else s

/-- TURN_OFF (R534, R539): the main converter stops; hold-up engages here where input UV was not armed. -/
def State.turnOff (s : State) (vin : Nat) : State :=
  let s := s.pwrUp fun p => vinRead p vin
  if vin < 3200 then (s.pwrUp fun p => { p with pg := false }).holdUp else s

def State.uvArm (s : State) (vin : Nat) : State :=
  let s := s.pwrUp fun p => vinRead p vin
  if 3600 ≤ vin then s.pwrUp fun p => { p with armed := true } else s

def State.overVolt (s : State) (vin : Nat) : State :=
  let s := s.pwrUp fun p => vinRead p vin
  if 7700 < vin ∧ ¬ s.pwr.ov then
    let s := s.pwrUp fun p => { p with ov := true }
    ((s.flag PWR.PWR_EVT_OV).bump PWR.OV_CNT).pwrEvent 5 3 0
  else s

def State.ovClear (s : State) (vin : Nat) : State :=
  let s := s.pwrUp fun p => vinRead p vin
  if vin ≤ 7600 then s.pwrUp fun p => { p with ov := false } else s

/-- RAIL_FAULT and RAIL_RECOVERY (R555). -/
def State.railFault (s : State) (r : Nat) : State :=
  if 8 ≤ r ∨ bitsOf s.pwr.railBad r r = 1 then s
  else
    let s := s.pwrUp fun p => { p with railBad := setBits p.railBad r r 1 }
    ((s.flag PWR.PWR_EVT_RAIL).bump PWR.RAIL_CNT).pwrEvent 7 5 r

def State.railOk (s : State) (r : Nat) : State :=
  if 8 ≤ r then s else s.pwrUp fun p => { p with railBad := setBits p.railBad r r 0 }

/-- The input as measured: the peak, the lowest VIN, and the sums of the one-second means (R556). -/
def State.supplyRead (s : State) (x : Option Supply) : State :=
  match x with
  | none => s
  | some x =>
    s.pwrUp fun p =>
      { vinRead p x.vin with iin := x.iin, pin := x.pin, pinPeak := max p.pinPeak (satNat 16 x.pin),
                             pinSum := p.pinSum + x.pin, pinN := p.pinN + 1 }

/-- A second ends: its mean enters the log, 0 newest. -/
def State.pinSecond (s : State) : State :=
  if s.pwr.pinN = 0 then s
  else
    s.pwrUp fun p =>
      { p with pinLog := (satNat 16 (rdiv 70 p.pinSum p.pinN).toNat :: p.pinLog).take 16, pinSum := 0, pinN := 0 }

/-! ### Temperatures (R543) -/

def State.thmUp (s : State) (f : Thm → Thm) : State := { s with thm := f s.thm }

/-- Readings arrive: the die sensors and the case. -/
def State.tempRead (s : State) (x : Temps) : State := s.sense ⟨none, some x, none⟩

/-- The reading of sensor i: a die, 7 the case. -/
def tempOf (s : State) (i : Nat) : Int := if i = 7 then s.loa.tCase else s.thm.dies.getD i (-27300)

def warnTh (s : State) (i : Nat) : Int := if i = 7 then toSigned 16 (s.reg THM.T_WARN) else 13500
def limitTh (s : State) (i : Nat) : Int := if i = 7 then toSigned 16 (s.reg THM.T_LIM) else 14500

def State.tempWarn (s : State) (x : Temps) : State :=
  (List.range 8).foldl (fun t i =>
    if warnTh t i ≤ tempOf t i ∧ bitsOf t.thm.warn i i = 0 then
      let t := t.thmUp fun y => { y with warn := setBits y.warn i i 1 }
      ((t.flag THM.THM_EVT_WARN).bump THM.WARN_CNT).raise 20 .warn 1 (i * 256)
    else t) (s.tempRead x)

def State.tempLimit (s : State) (x : Temps) : State :=
  (List.range 8).foldl (fun t i =>
    if limitTh t i ≤ tempOf t i ∧ bitsOf t.thm.limit i i = 0 then
      let t := t.thmUp fun y => { y with limit := setBits y.limit i i 1 }
      (t.flag THM.THM_EVT_LIMIT).raise 21 .warn 2 (i * 256)
    else t) (s.tempRead x)

/-- TEMP_RECOVERY: 2 K below the warning threshold, or below the limit. -/
def State.tempRecover (s : State) (x : Temps) : State :=
  (List.range 8).foldl (fun t i =>
    let t := if tempOf t i ≤ warnTh t i - 200 then t.thmUp fun y => { y with warn := setBits y.warn i i 0 } else t
    if tempOf t i < limitTh t i then t.thmUp fun y => { y with limit := setBits y.limit i i 0 } else t) (s.tempRead x)

/-- The die sensor that reads highest (HOT_DIE, T_DIE_MAX). -/
def hotDie (s : State) : Nat :=
  (List.range 7).foldl (fun h i => if tempOf s h < tempOf s i then i else h) 0

/-- THERMAL_TRIP (R543, R555): a die at 155 °C moves the module to KEEP without GO. -/
def State.trip (s : State) (x : Temps) : State :=
  let s := s.tempRead x
  let h := hotDie s
  if tempOf s h < 15500 ∨ s.thm.trip then s
  else
    let s := s.thmUp fun y => { y with trip := true }
    let s := ((s.flag THM.THM_EVT_TRIP).bump THM.TRIP_CNT).raise 21 .warn 3 (h * 256)
    match s.pwr.st with
    | .run => downBy 2 s
    | .park => downBy 1 s
    | _ => s

/-- TRIP_CLEAR: every die is below 140 °C; a GO deferred by it acts. -/
def State.tripClear (s : State) (x : Temps) : State :=
  let s := s.tempRead x
  if s.thm.trip ∧ tempOf s (hotDie s) < 14000 then (s.thmUp fun y => { y with trip := false }).goRetry else s

end Sys2Proof.Machine
end

