-- ==== Sys2Proof/Machine/Hold.lean ====
section
/-! DEFINITION. When a clear is refused: the flags whose condition still holds, the CLEAR_REFUSED flag of each block, and the
hold condition of a severe latch (R88, R120, R181, R227, R279, R481, R487, R543, R555). -/
namespace Sys2Proof.Machine

/-- A condition that a CAUSE bit of monitor k latches is live (R88). -/
def causeLive (s : State) (k bit : Nat) : Bool :=
  let m := s.monAt k
  match bit with
  | 15 => m.los
  | 14 => m.hitRun
  | 13 => m.freq
  | 12 => m.peer
  | 11 => m.proj
  | 10 => forceFail s k
  | 9 => disagreeLive s k
  | _ => false

/-- A TDC calibration of an active tracker stays discarded (R105, R120). -/
def calBad (s : State) : Bool := s.trk.toList.any fun t => t.active && !t.calOk

/-- The clear of W1C bit `bit` at address a is refused. -/
def flagHeld (s : State) (a bit : Nat) : Bool :=
  if a = SYS.SYS_EVT then bit == 14 && s.pwr.clkFault
  else if 0x0800 ≤ a ∧ a < 0x0E00 then a % 64 == 0x19 && causeLive s ((a - 0x0800) / 64) bit
  else if a = TRK.EVT_STAT then bit == 13 && calBad s
  else if a = LOA.LOA_EVT then bit == 14 && !s.loa.accOk
  else if a = CAS.CAS_EVT then bit == 12 && s.cas.up == 0
  else if 0x1000 ≤ a ∧ a < 0x1600 then
    let d := (a - 0x1000) / 256
    if a % 256 = 0x13 then (bit == 14 && (s.domAt d).disagree) || (bit == 13 && (s.domAt d).usable == 0)
    else a % 256 == 0x37 && hoOver s d
  else if 0x1800 ≤ a ∧ a < 0x1F00 then
    a % 256 == 2 && bit == 15 && (s.synAt ((a - 0x1800) / 256)).st == .unlocked
  else if 0x2800 ≤ a ∧ a < 0x2C00 then
    a % 256 == 2 && bit == 14 && (s.tkAt ((a - 0x2800) / 256)).st == .holdover
  else if 0x3100 ≤ a ∧ a < 0x3900 then
    a % 256 == 2 && bit == 13 && (s.ethAt ((a - 0x3100) / 256)).phyFault
  else false

/-- The CLEAR_REFUSED flag of the block of a flag register. -/
def refusedFlag (a : Nat) : Option Field :=
  if a < 0x0080 then some SYS.SYS_EVT_CLEAR_REFUSED
  else if a < 0x0100 then some SYS.LC_EVT_CLEAR_REFUSED
  else if 0x0800 ≤ a ∧ a < 0x0E00 then some (INM.CAUSE_CLEAR_REFUSED ((a - 0x0800) / 64))
  else if a = TRK.EVT_STAT then some TRK.EVT_STAT_CLEAR_REFUSED
  else if a = LOA.LOA_EVT then some LOA.LOA_EVT_CLEAR_REFUSED
  else if a = CAS.CAS_EVT then some CAS.CAS_EVT_CLEAR_REFUSED
  else if 0x1000 ≤ a ∧ a < 0x1600 then
    let d := (a - 0x1000) / 256
    some (if a % 256 = 0x13 then DOM.SEL_EVT_CLEAR_REFUSED d else DOM.LOOP_EVT_CLEAR_REFUSED d)
  else if 0x1800 ≤ a ∧ a < 0x1F00 then some (SYN.EVT_CLEAR_REFUSED ((a - 0x1800) / 256))
  else if 0x2000 ≤ a ∧ a < 0x2500 then some (OUT.EVT_CLEAR_REFUSED ((a - 0x2000) / 32))
  else if 0x2800 ≤ a ∧ a < 0x2C00 then some (TK.TK_EVT_CLEAR_REFUSED ((a - 0x2800) / 256))
  else if 0x3100 ≤ a ∧ a < 0x3900 then some (ETH.ETH_EVT_CLEAR_REFUSED ((a - 0x3100) / 256))
  else none

/-- The hold condition of a source's severe latch (R487): the condition under which the block refuses the clear of the flag
that raised the classifying event; a source whose block defines none always accepts the clear. -/
def latchHeld (s : State) (src : Nat) : Bool :=
  let c := s.fltAt src
  if src = 3 then s.pwr.clkFault
  else if src = 5 then s.pwr.uv || s.pwr.ov
  else if src = 7 then s.pwr.railBad != 0
  else if src = 17 then !s.loa.accOk
  else if src = 21 then s.thm.limit != 0
  else if src = 29 then c.cause == 4 && s.cas.up == 0
  else if src = 31 then c.cause != 4 && calBad s
  else if 32 ≤ src ∧ src < 56 then
    let m := s.monAt (src - 32)
    !c.direct && m.st == .failed && failing s (src - 32) m
  else if 56 ≤ src ∧ src < 74 then (src - 56) % 3 == 2 && c.cause == 3 && hoOver s ((src - 56) / 3)
  else if 74 ≤ src ∧ src < 88 then
    (src - 74) % 2 == 0 && c.cause == 1 && (s.synAt ((src - 74) / 2)).st == .unlocked
  else if src = 90 then
    match c.cover with
    | .outs l => c.cause == 3 && l.any fun n => (s.outAt n).drvFault
    | _ => false
  else if 92 ≤ src ∧ src < 100 then
    (src - 92) % 2 == 1 && c.cause == 3 && (s.tkAt ((src - 92) / 2)).st == .holdover
  else if 100 ≤ src ∧ src < 108 then c.cause == 3 && (s.ethAt (src - 100)).phyFault
  else false

/-- The block's CLEAR_REFUSED flag that a refused latch clear sets (R487). -/
def latchRefusedFlag (s : State) (src : Nat) : Option Field :=
  if src < 4 then some SYS.SYS_EVT_CLEAR_REFUSED
  else if src < 8 then some PWR.PWR_EVT_CLEAR_REFUSED
  else if src < 12 then some CFG.CFG_EVT_CLEAR_REFUSED
  else if src < 16 then none
  else if src < 20 then some LOA.LOA_EVT_CLEAR_REFUSED
  else if src < 22 then some THM.THM_EVT_CLEAR_REFUSED
  else if src < 24 then some MEM.MEM_EVT_CLEAR_REFUSED
  else if src < 26 then some NVS.NVS_EVT_CLEAR_REFUSED
  else if src < 28 then some BIST.BIST_EVT_CLEAR_REFUSED
  else if src < 30 then some CAS.CAS_EVT_CLEAR_REFUSED
  else if src < 32 then some TRK.EVT_STAT_CLEAR_REFUSED
  else if src < 56 then some (INM.CAUSE_CLEAR_REFUSED (src - 32))
  else if src < 74 then
    let d := (src - 56) / 3
    some (if (src - 56) % 3 = 1 then DOM.SEL_EVT_CLEAR_REFUSED d else DOM.LOOP_EVT_CLEAR_REFUSED d)
  else if src < 88 then some (SYN.EVT_CLEAR_REFUSED ((src - 74) / 2))
  else if src < 92 then
    match (s.fltAt src).cover with
    | .outs l => (l.find? fun n => (s.outAt n).drvFault).map OUT.EVT_CLEAR_REFUSED
    | _ => none
  else if src < 100 then some (TK.TK_EVT_CLEAR_REFUSED ((src - 92) / 2))
  else if src < 108 then some (ETH.ETH_EVT_CLEAR_REFUSED (src - 100))
  else if src < 112 then some (PTI.INST_EVT_CLEAR_REFUSED (src - 108))
  else none

end Sys2Proof.Machine
end

