-- ==== Sys2Proof/Machine/ViewA.lean ====
section
/-! DEFINITION. What the registers of SYS, PWR, THM, REG, CFG, NVS, MEM and BIST read.  Each block has a list of rows: an
address, a number of words, and the value those words show, least significant word first (R17).  A register in no row
reads its stored word. -/
namespace Sys2Proof.Machine

/-- A row: address, words, value. -/
abbrev ViewRow := Nat × Nat × Nat

/-- A word with fields laid over it. -/
def packed (n : Nat) (l : List (Field × Nat)) : Nat := l.foldl (fun n p => setBits n p.1.hi p.1.lo p.2) n

/-- A stored word with the fields that the block owns laid over it. -/
def shown (s : State) (a : Nat) (l : List (Field × Nat)) : ViewRow := (a, 1, packed (s.reg a) l)

/-- A word of a block history (R474): entry e, word w; an empty entry reads 0. -/
def histWord (s : State) (h e w : Nat) : Nat :=
  match (vat s.hist h)[e]? with
  | none => 0
  | some x =>
    if w < 4 then x.time / 65536 ^ w % 65536
    else if w = 4 then word4 x
    else if w = 5 then x.word5 % 65536
    else if w = 6 then x.word6 % 65536
    else 0

/-- The history window of a block whose HIST_SEL is at a and whose HIST_DATA follows it. -/
def histRow (s : State) (h a : Nat) : ViewRow :=
  (a + 1, 1, histWord s h (bitsOf (s.reg a) 5 4) (bitsOf (s.reg a) 2 0))

/-- A mask of the indices below n that satisfy p. -/
def maskBy (n : Nat) (p : Nat → Bool) : Nat := (List.range n).foldl (fun m i => if p i then m + 2 ^ i else m) 0

/-- Sixteen bits of a per-source predicate (SEV_SUM, PEND_SUM). -/
def srcMask (s : State) (p : SrcState → Bool) (i : Nat) : Nat := maskBy 16 fun j => p (s.fltAt (16 * i + j))

/-- The fault registers (R496). -/
def faultRows (s : State) : List ViewRow :=
  let src := s.fld SYS.FLT_SEL_SRC
  let c := s.fltAt src
  [ (SYS.FLT_SRC, 1, packed 0
      [(SYS.FLT_SRC_SEVERE, c.sev.toNat), (SYS.FLT_SRC_PEND, c.pend.toNat), (SYS.FLT_SRC_CLEAR_REFUSED, c.refused.toNat),
       (SYS.FLT_SRC_HOLD, (latchHeld s src).toNat), (SYS.FLT_SRC_INJ_ONLY, (c.sev && !latchActs s src c).toNat),
       (SYS.FLT_SRC_COUNT, min 255 (inWindow (clsWindow s src) s.now c.warns).length)]),
    (SYS.FLT_STAT, 1, packed 0
      [(SYS.FLT_STAT_FAULT_LOW, s.pads.faultLow.toNat), (SYS.FLT_STAT_SAFE_N_LOW, s.pads.safeLow.toNat),
       (SYS.FLT_STAT_IRQ_LOW, maskBy 4 fun k => s.pads.irqLow.getD k false),
       (SYS.FLT_STAT_SEV_N, (s.flt.toList.filter (·.sev)).length)]) ]
  ++ (List.range 8).map (fun i => (SYS.SEV_SUM i, 1, srcMask s (·.sev) i))
  ++ (List.range 8).map (fun i => (SYS.PEND_SUM i, 1, srcMask s (·.pend) i))

/-- Seconds left until an instant (log entry 3). -/
def secsLeft (s : State) (t : Nat) : Nat := (rdiv 73 ((t - s.now : Nat) : Int) 1000000000).toNat

/-- The life-cycle registers (R524). -/
def lcRows (s : State) : List ViewRow :=
  [ shown s SYS.LC_CTRL [(SYS.LC_CTRL_GO, s.lc.busy.isSome.toNat)],
    (SYS.LC_STAT, 1, packed 0
      [(SYS.LC_STAT_STATE, (lcState s).code), (SYS.LC_STAT_SEALING, s.lc.sealing.isSome.toNat),
       (SYS.LC_STAT_LOCK, (lcLocked s).toNat), (SYS.LC_STAT_KEY_OK, (keyOk s).toNat),
       (SYS.LC_STAT_NONCE_VALID, s.lc.nonceOk.toNat), (SYS.LC_STAT_FUSE_ERR, s.lc.fuseErr.toNat),
       (SYS.LC_STAT_WINDOW_S, min 255 ((s.lc.sealing.map (secsLeft s)).getD 0))]) ]
  ++ (List.range 8).map (fun i => (SYS.LC_NONCE i, 1, s.lc.nonce / 65536 ^ (7 - i) % 65536))
  ++ [(SYS.LC_KEY 0, 8, 0)]

def sysRows (s : State) : List ViewRow :=
  [ (SYS.MTB_CNT, 4, s.now), (SYS.EPOCH, 2, s.epoch),
    (SYS.RESET_CAUSE, 1, packed 0
      [(SYS.RESET_CAUSE_CAUSE, s.pwr.cause), (SYS.RESET_CAUSE_WDOG_SEEN, s.pwr.wdog.toNat),
       (SYS.RESET_CAUSE_CLK_SEEN, s.pwr.clkSeen.toNat)]),
    histRow s 0 SYS.HIST_SEL,
    (SYS.TOD_STAT, 1, packed 0
      [(SYS.TOD_STAT_VALID, s.tod.valid.toNat), (SYS.TOD_STAT_CONFIRMED, min 15 s.tod.confirmed),
       (SYS.TOD_STAT_LAST_ERR, s.tod.lastErr)]),
    (SYS.TOD_SEC, 3, s.tod.sec),
    (SYS.BRZ_STAT, 1, packed 0
      [(SYS.BRZ_STAT_SRC, s.pwr.brzNvs.toNat), (SYS.BRZ_STAT_ENTRY_ERR, maskBy 4 fun e => (s.pwr.brz.toList.getD e default).err),
       (SYS.BRZ_STAT_ACTIVE, maskBy 4 fun e => (s.pwr.brz.toList.getD e default).active)]) ]
  ++ faultRows s ++ lcRows s

def pwrRows (s : State) : List ViewRow :=
  let p := s.pwr
  [ shown s PWR.PS_CTRL [(PWR.PS_CTRL_GO, p.deferred.toNat)],
    (PWR.PS_STAT, 1, packed 0
      [(PWR.PS_STAT_STATE, p.st.code), (PWR.PS_STAT_GRADE, gradeCode s), (PWR.PS_STAT_DEFERRED, p.deferred.toNat)]),
    (PWR.WAKE_CAUSE, 1, packed 0 [(PWR.WAKE_CAUSE_PORT, p.wakePort), (PWR.WAKE_CAUSE_CAUSE, p.wakeCause)]),
    (PWR.LOW_TIME, 2, p.lowTime),
    (PWR.PWR_STAT, 1, packed 0
      [(PWR.PWR_STAT_PG, p.pg.toNat), (PWR.PWR_STAT_UV_WARN, p.uvWarn.toNat), (PWR.PWR_STAT_UV, p.uv.toNat),
       (PWR.PWR_STAT_OV, p.ov.toNat), (PWR.PWR_STAT_HOLDUP, p.holdup.toNat),
       (PWR.PWR_STAT_RAIL_FAULT, (p.railBad != 0).toNat)]),
    (PWR.VIN_MEAS, 1, satNat 16 p.vin), (PWR.IIN_MEAS, 1, satNat 16 p.iin), (PWR.PIN_MEAS, 1, satNat 16 p.pin),
    (PWR.RAIL_STAT, 1, if p.pg then 255 - p.railBad % 256 else 0), (PWR.PIN_PEAK, 1, satNat 16 p.pinPeak),
    (PWR.VIN_MIN, 1, satNat 16 p.vinMin), histRow s 1 PWR.HIST_SEL ]

def thmRows (s : State) : List ViewRow :=
  [ (THM.THM_STAT, 1, packed 0
      [(THM.THM_STAT_WARN, (s.thm.warn != 0).toNat), (THM.THM_STAT_LIMIT, (s.thm.limit != 0).toNat),
       (THM.THM_STAT_TRIP, s.thm.trip.toNat), (THM.THM_STAT_HOT_DIE, hotDie s)]),
    (THM.T_DIE_MAX, 1, ofSigned 16 (tempOf s (hotDie s))), (THM.T_CASE_PEAK, 1, ofSigned 16 s.thm.peak),
    histRow s 5 THM.HIST_SEL ]
  ++ (List.range 16).map (fun i => (THM.PIN_LOG i, 1, satNat 16 (s.pwr.pinLog.getD i 0)))

/-- The words of a context's own window that the module owns (R414 to R423). -/
def txnStat (x : TxnCtx) : Nat :=
  packed 0 [(REG.TXN_STAT_OPEN, x.isOpen.toNat), (REG.TXN_STAT_DOOM_OVF, x.doomOvf.toNat),
          (REG.TXN_STAT_DOOM_LOCK, x.doomLock.toNat), (REG.TXN_STAT_COUNT, if x.isOpen then x.entries.length else x.staged)]

def txnRes (x : TxnCtx) : Nat :=
  packed 0 [(REG.LAST_RES_RESULT, x.res), (REG.LAST_RES_SLOT, x.resSlot), (REG.LAST_RES_COUNT, x.resCount)]

/-- The own-context window as context c reads it; a register of it in no row reads what the context wrote. -/
def ownRows (s : State) (c : Ctx) : List ViewRow :=
  let x := txnAt s c
  [ (REG.TXN_STAT, 1, txnStat x), (REG.LAST_RES, 1, txnRes x), (REG.LAST_ID, 1, x.lastId),
    (REG.TXN_PEND, 1, packed 0
      [(REG.TXN_PEND_ANY, maskBy 4 fun w => (slotOf s w).busy),
       (REG.TXN_PEND_OWN, maskBy 4 fun w => (slotOf s w).busy && (slotOf s w).ctx == c)]) ]
  ++ [0x220, 0x221, 0x225, 0x226, 0x227, 0x228, 0x229, 0x22A].map fun a => (a, 1, (x.win.get a).toNat)

def ctxAt (s : State) (i : Nat) : TxnCtx := vat s.acc.ctx i

/-- Contexts, wait slots and the completion log as every reader sees them. -/
def tableRows (s : State) : List ViewRow :=
  (List.range 5).flatMap (fun i =>
    [(REG.CTX_STAT i, 1, txnStat (ctxAt s i)),
     (REG.CTX_ID i, 1, if (ctxAt s i).isOpen then (ctxAt s i).id else (ctxAt s i).lastId),
     (REG.CTX_RES i, 1, txnRes (ctxAt s i))])
  ++ (List.range 4).flatMap (fun w =>
    let x := slotOf s w
    [(REG.WS_STAT w, 1, if x.busy then packed 0
        [(REG.WS_STAT_BUSY w, 1), (REG.WS_STAT_CTX w, ctxIdx x.ctx), (REG.WS_STAT_AT w, x.at'), (REG.WS_STAT_ARG w, x.arg)]
        else 0),
     (REG.WS_ID w, 1, x.id), (REG.WS_COUNT w, 1, x.entries.length),
     (REG.WS_AGE w, 1, if x.busy then satNat 16 ((s.now - x.came) / 1000000) else 0)])
  ++ (List.range 16).flatMap (fun e =>
    let x := s.acc.log.getD e (0, 0, 0, 0, 0)
    [(REG.LOG_ID e, 1, x.1),
     (REG.LOG_INFO e, 1, packed 0
        [(REG.LOG_INFO_RESULT e, x.2.1), (REG.LOG_INFO_CTX e, x.2.2.1), (REG.LOG_INFO_COUNT e, x.2.2.2.1)]),
     (REG.LOG_EPOCH e, 1, x.2.2.2.2)])

def regRows (s : State) (c : Ctx) : List ViewRow :=
  [ (REG.REG_STAT, 1, packed 0
      [(REG.REG_STAT_CTX_OPEN, maskBy 5 fun i => (ctxAt s i).isOpen),
       (REG.REG_STAT_WAIT_N, (s.acc.slots.toList.filter (·.busy)).length)]),
    histRow s 3 REG.HIST_SEL,
    (REG.HILDO_STAT, 1, packed 0
      [(REG.HILDO_STAT_LAST_PORT, s.acc.hPort), (REG.HILDO_STAT_SEQ_VALID, s.acc.hSeq.isSome.toNat)]),
    (REG.HILDO_SEQ, 2, s.acc.hSeq.getD 0), shown s REG.IF_CFG [(REG.IF_CFG_ID, s.pads.id)],
    (REG.SCRUB_STAT, 1, s.acc.passUs) ]
  ++ ownRows s c ++ tableRows s

def LState.code : LState → Nat
  | .idle => 0
  | .header => 1
  | .check => 2
  | .apply => 3
  | .nvsApply => 4
  | .done => 5
  | .error => 6

/-- A STORE runs. -/
def storing (s : State) : Bool :=
  s.nvs.storeNext.isSome ||
    match s.nvs.op with
    | .store .. => true
    | _ => false

/-- The address is persist-eligible in the image in force (R430). -/
def eligible (s : State) (a : Nat) : Bool := s.cfg.pmap.any fun r => decide (r.1 ≤ a) && decide (a < r.1 + r.2)

def cfgRows (s : State) : List ViewRow :=
  let c := s.cfg
  [ shown s CFG.CFG_CTRL [(CFG.CFG_CTRL_STORE, (storing s).toNat)],
    (CFG.CFG_STAT, 1, packed 0
      [(CFG.CFG_STAT_LSTATE, c.lst.code), (CFG.CFG_STAT_LOADED, c.loaded.toNat),
       (CFG.CFG_STAT_FL_RELEASED, c.released.toNat), (CFG.CFG_STAT_PATCH_ACTIVE, c.patch.toNat),
       (CFG.CFG_STAT_BOOT_QUAL, c.bootQual.toNat), (CFG.CFG_STAT_STORE_BUSY, (storing s).toNat),
       (CFG.CFG_STAT_ERR_CODE, c.err), (CFG.CFG_STAT_STORE_RES, s.nvs.storeRes)]),
    (CFG.IMG_LEN, 2, c.len), (CFG.IMG_CRC, 2, c.crc), (CFG.PATCH_VER, 1, c.patchVer), (CFG.REC_CNT, 1, satNat 16 c.recs),
    (CFG.NVS_APPLIED, 1, satNat 16 c.applied), (CFG.NVS_SKIPPED, 1, satNat 16 c.skipped),
    (CFG.LOAD_TIME, 1, satNat 16 c.loadTime), (CFG.ERR_OFS, 2, c.errOfs), (CFG.STORE_PAGES, 1, s.nvs.storePages),
    (CFG.STORE_TIME, 1, satNat 16 s.nvs.storeTime), (CFG.PMAP_CNT, 1, sumNat (c.pmap.map (·.2))),
    (CFG.PMAP_RES, 1, packed 0 [(CFG.PMAP_RES_ELIGIBLE, (eligible s (s.reg CFG.PMAP_ADDR)).toNat)]),
    histRow s 2 CFG.HIST_SEL ]
  ++ (List.range 32).map (fun i => (CFG.HDR i, 1, natLE ((c.hdr.drop (2 * i)).take 2)))

/-- A page read or a page write (`w`) of the user runs or waits. -/
def pageWaits (s : State) (w : Bool) : Bool :=
  (match s.nvs.op with
    | .page .. => w
    | _ => false) ||
  (match s.nvs.pend with
    | some (d, _) => d.isSome == w
    | none => false)

/-- Page 1 holds a valid LOA model. -/
def hasModel (s : State) : Bool := (pageFind s 1).1.isSome && bitsOf ((pageData s 1).getD 63 0).toNat 7 7 == 1

def nvsRows (s : State) : List ViewRow :=
  let x := s.nvs
  [ shown s NVS.NVS_CTRL
      [(NVS.NVS_CTRL_PAGE_READ, (pageWaits s false).toNat), (NVS.NVS_CTRL_PAGE_WRITE, (pageWaits s true).toNat),
       (NVS.NVS_CTRL_SCRUB_NOW, x.scrubReq.toNat), (NVS.NVS_CTRL_CNT_INC, x.userInc.isSome.toNat)],
    (NVS.NVS_STAT, 1, packed 0
      [(NVS.NVS_STAT_BUSY, (nvsBusy s).toNat), (NVS.NVS_STAT_TORN, x.torn.toNat), (NVS.NVS_STAT_STALE, x.stale.toNat),
       (NVS.NVS_STAT_PAGE_BAD, x.bad.toNat), (NVS.NVS_STAT_STORE_INCOMPLETE, x.incomplete.toNat),
       (NVS.NVS_STAT_HAS_MODEL, (hasModel s).toNat), (NVS.NVS_STAT_TORN_PAGE, x.tornPage)]),
    shown s NVS.PROTECT [(NVS.PROTECT_BP_WRITTEN, x.bpWritten.toNat)],
    (NVS.PAGE_RES, 1, x.pageRes), (NVS.PAGE_GEN, 2, pageGen s (s.fld NVS.PAGE_SEL_PAGE)),
    (NVS.BOOT_SUM, 1, packed 0 [(NVS.BOOT_SUM_TORN_N, satNat 8 x.tornN), (NVS.BOOT_SUM_STALE_N, satNat 8 x.staleN)]),
    (NVS.SCRUB_STAT, 1, x.hoursLeft), (NVS.CNT_VAL, 2, ctrOf s (s.fld NVS.CNT_SEL_CNT)), (NVS.CNT_LIFE, 1, maskBy 16 fun k => decide (ratedLife < ctrOf s k)),
    histRow s 7 NVS.HIST_SEL, shown s NVS.FLOG_SEL [(NVS.FLOG_SEL_UNSTORED, x.unstored)] ]
  ++ (List.range 7).map (fun i => (NVS.FLOG_DATA i, 1, natLE ((x.flog.drop (2 * i)).take 2)))
  ++ (List.range 64).map (fun i => (NVS.PAGE_BUF i, 1, bufWord s i))

/-- The state of SRAM bank b, 0 to 3 the sequencer's and 4 to 11 the rings', under R469: 0 ON, 1 RETENTION, 2 OFF. -/
def bankAuto (s : State) (b : Nat) : Nat :=
  match s.pwr.st with
  | .run | .park | .keep => if 4 ≤ b ∧ ringsOff s then 2 else 0
  | .nap => 1
  | .boot => 0
  | .off | .dormant => 2

/-- A bank's explicit request (R470): 0b11 is ON. -/
def bankReq (s : State) (b : Nat) : Nat :=
  let r := s.wide MEM.PM_REQ 2 / 4 ^ b % 4
  if r = 3 then 0 else r

/-- The bank's state in force (R469, R470). -/
def bankState (s : State) (b : Nat) : Nat :=
  if s.bit MEM.PM_MODE_EXPLICIT then max (bankAuto s b) (bankReq s b) else bankAuto s b

/-- Bank b is known to be usable: not marked unusable (R504), once start-up BIST has ended; until then the registers show their
reset value (R14). -/
def bankOk (s : State) (b : Nat) : Bool := s.bist.done && !(unitAt s b).unusable

def memRows (s : State) : List ViewRow :=
  let m := s.mem
  [ (MEM.MEM_STAT, 1, packed 0
      [(MEM.MEM_STAT_SECURE_OK, (bankOk s 12).toNat), (MEM.MEM_STAT_SEQ_OK, maskBy 4 (bankOk s)),
       (MEM.MEM_STAT_RING_OK, maskBy 8 fun b => bankOk s (4 + b))]),
    (MEM.RING_CAP, 1, m.ringCap), (MEM.WIPE_STAT, 1, packed 0 [(MEM.WIPE_STAT_CAUSE, m.wipe)]),
    histRow s 6 MEM.HIST_SEL, (MEM.UNCORR_ADDR, 2, m.uncorr),
    (MEM.PM_STAT0, 1, sumNat ((List.range 8).map fun b => bankState s b * 4 ^ b)),
    shown s MEM.PM_STAT1 [(MEM.PM_STAT1_ACT, sumNat ((List.range 4).map fun b => bankState s (8 + b) * 4 ^ b))],
    (MEM.SEC_STAT, 1, packed 0
      [(MEM.SEC_STAT_SHADOW_OK, (shadowOk s).toNat), (MEM.SEC_STAT_UNSEAL_KEY, (keyOk s).toNat),
       (MEM.SEC_STAT_SLOTS, (m.keys.toList.filter (·.isSome)).length)]),
    (MEM.STALL_MAX, 1, m.stallMax), (MEM.SCRUB_STAT, 1, satNat 16 m.scrubMs) ]
  ++ (List.range 13).map (fun b => (MEM.SPARE b, 1, packed 0
      [(MEM.SPARE_FACTORY_USED b, vat m.factory b), (MEM.SPARE_SOFT_USED b, vat m.soft b), (MEM.SPARE_LEFT b, sparesLeft s b)]))
  ++ (List.range 8).map (fun k => (MEM.RING_SHARE k, 1, vat m.share k))

/-- A unit's coverage as its result shows it: 0 while it has none. -/
def covShown (s : State) (u : Nat) : Nat := if (unitAt s u).verdict = .none then 0 else coverage u

/-- The words of a unit's last result (R503), as a write of RES_SEL copies them. -/
def resWords (s : State) (u : Nat) : List (Nat × Nat) :=
  let x := unitAt s u
  [ (BIST.RES0, packed 0
      [(BIST.RES0_VERDICT, x.verdict.code), (BIST.RES0_ORIGIN, x.origin), (BIST.RES0_UNUSABLE, x.unusable.toNat),
       (BIST.RES0_REPAIRED, x.repaired.toNat), (BIST.RES0_COVERAGE, covShown s u)]),
    (BIST.RES1, satNat 16 x.duration),
    (BIST.RES_APPLIED, x.applied % 65536), (BIST.RES_APPLIED + 1, x.applied / 65536 % 65536),
    (BIST.RES_EXPECTED, x.expected % 65536), (BIST.RES_EXPECTED + 1, x.expected / 65536 % 65536),
    (BIST.RES6, packed 0
      [(BIST.RES6_SIG_MATCH, x.sig.toNat), (BIST.RES6_COUNT_OK, (x.completed && x.applied == x.expected).toNat),
       (BIST.RES6_COMPLETED, x.completed.toNat)]) ]

def bistRows (s : State) : List ViewRow :=
  let b := s.bist
  [ shown s BIST.BIST_CTRL [(BIST.BIST_CTRL_RUN, (b.queued.isSome || b.active.any fun x => x.2.1 == 1).toNat)],
    (BIST.BIST_STAT, 1, packed 0 [(BIST.BIST_STAT_STARTUP_DONE, b.done.toNat), (BIST.BIST_STAT_QUEUED, b.queued.isSome.toNat)]),
    (BIST.ACTIVE, 1, packed 0
      [(BIST.ACTIVE_A_VALID, (decide (0 < b.active.length)).toNat), (BIST.ACTIVE_UNIT_A, (b.active.getD 0 (0, 0, 0)).1),
       (BIST.ACTIVE_B_VALID, (decide (1 < b.active.length)).toNat), (BIST.ACTIVE_UNIT_B, (b.active.getD 1 (0, 0, 0)).1)]),
    (BIST.BG_LOCK, 1, packed 0 [(BIST.BG_LOCK_LOCKED, b.locked.toNat)]), (BIST.BG_STAT, 1, b.hoursLeft),
    histRow s 8 BIST.HIST_SEL, (BIST.STARTUP_TIME, 2, b.startUs), (BIST.FACTORY 0, 13, 0) ]
  ++ (List.range 3).map (fun i => (BIST.UNUSABLE i, 1, maskBy 16 fun j => (unitAt s (16 * i + j)).unusable))
  ++ (List.range 48).map (fun u => (BIST.UNIT_INFO u, 1, packed 0
      [(BIST.UNIT_INFO_VERDICT u, (unitAt s u).verdict.code), (BIST.UNIT_INFO_UNUSABLE u, (unitAt s u).unusable.toNat),
       (BIST.UNIT_INFO_SVC_FAIL u, (unitAt s u).svcFail.toNat), (BIST.UNIT_INFO_REACHABLE u, (s.bist.done && reachable s u).toNat),
       (BIST.UNIT_INFO_COVERAGE u, covShown s u)]))

end Sys2Proof.Machine
end

