-- ==== Sys2Proof/Machine/ViewB.lean ====
section
/-! DEFINITION. What the registers of LOA, INM, TRK, CAS, DOM and SYN read. -/
namespace Sys2Proof.Machine

/-- A signed value in w bits, saturating. -/
def satW (w : Nat) (v : Int) : Nat := ofSigned w (satSigned w v)

/-- A number with a 40-bit fraction as a register of w bits shows it (log entries 3 and 5). -/
def shownF (w : Nat) (v : Int) : Nat := satW w (rdiv 71 v (2 ^ 40))

/-- RESID_RMS: the root mean square of the learning domain's INTEG over the last hour, in ppt. -/
def residRms (s : State) : Nat :=
  let l := s.loa.resids
  if l.isEmpty then 0 else satNat 16 (rsqrt 72 ((sumInt (l.map fun x => x * x)).toNat / (l.length * 2 ^ 80)))

def loaRows (s : State) : List ViewRow :=
  let l := s.loa
  [ (LOA.OVEN_STAT, 1, packed 0
      [(LOA.OVEN_STAT_STATE, l.oven.code), (LOA.OVEN_STAT_AT_TEMP, (atTemp s).toNat),
       (LOA.OVEN_STAT_HEATER_SAT, (decide (min 14 (max 6 (s.fld LOA.OVEN_CTRL_WU_LIM)) * 250 ≤ l.power)).toNat)]),
    (LOA.T_RES, 1, satW 16 l.tRes), (LOA.T_OVEN, 1, satW 16 l.tOven), (LOA.T_CASE, 1, satW 16 l.tCase),
    (LOA.OVEN_PWR, 1, satNat 16 l.power),
    (LOA.MODEL_STAT, 1, packed 0
      [(LOA.MODEL_STAT_HO_VALID, (hoValid s).toNat), (LOA.MODEL_STAT_ACC_OK, l.accOk.toNat),
       (LOA.MODEL_STAT_LEARNING, (decide (l.learnDom < 6) && learnOk s l.learnDom).toNat), (LOA.MODEL_STAT_RAMPING, (l.rampF != 0).toNat),
       (LOA.MODEL_STAT_SRC_DOM, l.learnDom)]),
    (LOA.MODEL_ERR, 3, shownF 40 l.termF), (LOA.ACC 0, 1, satW 16 l.acc.1), (LOA.ACC 1, 1, satW 16 l.acc.2.1),
    (LOA.ACC 2, 1, satW 16 l.acc.2.2), (LOA.AGE_DAYS, 1, satNat 16 (poweredHours s / 24)), (LOA.RESID_RMS, 1, residRms s),
    (LOA.HO_SUM, 1, l.expired), histRow s 4 LOA.HIST_SEL ]

/-- The registers of monitor k (R98 to R100). -/
def inmRows (s : State) (k : Nat) : List ViewRow :=
  let m := s.monAt k
  [ shown s (INM.PEER_CFG k) [(INM.PEER_CFG_PEER_NONE k, (m.peers == 0).toNat), (INM.PEER_CFG_PEER_ONE k, (m.peers == 1).toNat)],
    (INM.QSTAT k, 1, packed 0
      [(INM.QSTAT_STATE k, m.st.code), (INM.QSTAT_FIRST_CAUSE k, m.firstCause), (INM.QSTAT_KIND k, (isPulse s k).toNat),
       (INM.QSTAT_MEAS_READY k, m.measReady.toNat), (INM.QSTAT_LOS k, m.los.toNat), (INM.QSTAT_HITRUN k, m.hitNow.toNat),
       (INM.QSTAT_FREQ k, m.freq.toNat), (INM.QSTAT_PEER k, m.peer.toNat), (INM.QSTAT_PROJ k, m.proj.toNat),
       (INM.QSTAT_WARN k, m.warn.toNat), (INM.QSTAT_PRE_SETTLED k, (s.loa.oven != .settled).toNat),
       (INM.QSTAT_CFG_ERR k, (inmCfgErr s k).toNat)]),
    (INM.WTR_LEFT k, 1, packed 0 [(INM.WTR_LEFT_BOOTQ k, (bootQ s k).toNat), (INM.WTR_LEFT_LEFT k, wtrLeft s k)]),
    (INM.FOFS k, 3, satW 40 m.fofs), (INM.DRIFT k, 2, satW 32 m.drift), (INM.PEER_DEV k, 2, satW 32 m.peerDev),
    (INM.PROJ_T k, 1, m.projT), shown s (INM.WS_SEL k) [(INM.WS_SEL_COUNT k, m.ws.length)],
    (INM.WS_DATA k, 3, satW 40 m.wsData), histRow s (11 + k) (INM.HIST_SEL k) ]

/-- The 80-bit record of R113; PHASE wraps modulo 2^48 (R108). -/
def Result.word (r : Result) : Nat :=
  let b := fun (c : Bool) (i : Nat) => c.toNat * 2 ^ i
  ofSigned 48 r.phase + min 65535 r.age * 2 ^ 48 + r.etag % 16 * 2 ^ 64 + b r.hit 68 + b r.dstep 69 + b r.reanchor 70 +
    b r.los 71 + b r.newEdge 72 + b r.valid 73 + r.src % 64 * 2 ^ 74

def trkRows (s : State) : List ViewRow :=
  let c := s.coll
  [ shown s TRK.CTRL [(TRK.CTRL_ARM, c.armed.toNat)],
    (TRK.COLL_STAT, 1, packed 0 [(TRK.COLL_STAT_PEAK, c.peak), (TRK.COLL_STAT_LAST_N, c.lastN)]),
    shown s TRK.EVT_STAT [(TRK.EVT_STAT_CAL_TRK, c.calTrk)], (TRK.SNAP 0, 5, (c.snap.map Result.word).getD 0),
    (TRK.HIST_DATA, 1, histWord s 10 (s.fld TRK.CTRL_HIST_ENTRY) (s.fld TRK.CTRL_HIST_WORD)) ]
  ++ (List.range 25).map (fun k =>
    let t := s.trkAt k
    (TRK.TSTAT k, 1, packed 0
      [(TRK.TSTAT_ACTIVE k, t.active.toNat), (TRK.TSTAT_CAL_OK k, t.calOk.toNat), (TRK.TSTAT_PREDIV k, t.prediv),
       (TRK.TSTAT_ANCHORED k, t.anchored.toNat)]))

/-- A slave's report, by its position, in the acting master's table (R386). -/
def slaveOf (s : State) (p : Nat) : Option (List Byte × Nat) :=
  if s.cas.isMaster then (s.cas.reports.find? fun x => x.1 == p).map (·.2) else none

/-- Epochs since a position's last report. -/
def slaveAge (s : State) (p : Nat) : Nat := ((slaveOf s p).map fun x => satNat 16 (s.epoch - x.2)).getD 0xFFFF

/-- The rows of position p = i + 1 of the chain table: the report's bytes (R386). -/
def slaveRows (s : State) (i : Nat) : List ViewRow :=
  let p := i + 1
  let b := fun lo n => ((slaveOf s p).map fun x => natLE ((x.1.drop lo).take n)).getD 0
  [ (CAS.SLV_STAT i, 1, packed 0
      [(CAS.SLV_STAT_REF_STATE i, b 0 1 / 32), (CAS.SLV_STAT_DSTATE i, b 0 1 / 4 % 8), (CAS.SLV_STAT_CAL_VALID i, b 0 1 / 2 % 2),
       (CAS.SLV_STAT_PRESENT i, (decide (slaveAge s p ≤ 40)).toNat)]),
    (CAS.SLV_D0 i, 1, b 1 2), (CAS.SLV_D1 i, 1, b 3 2), (CAS.SLV_RES i, 1, b 5 2), (CAS.SLV_FERR i, 1, b 7 2),
    (CAS.SLV_TK_OFS0 i, 1, b 9 2), (CAS.SLV_TK_OFS1 i, 1, b 11 2),
    (CAS.SLV_AGE i, 1, if s.cas.isMaster then slaveAge s p else 0) ]

def casRows (s : State) : List ViewRow :=
  let c := s.cas
  [ (CAS.CAS_STAT, 1, packed 0
      [(CAS.CAS_STAT_ROLE_ACT, c.role), (CAS.CAS_STAT_UP_LINK, c.up), (CAS.CAS_STAT_DN_LINK, c.dn),
       (CAS.CAS_STAT_CAL_VALID, c.calValid.toNat), (CAS.CAS_STAT_MASTER_LOST, c.lost.toNat),
       (CAS.CAS_STAT_CFG_ERR, (casCfgErr s).toNat), (CAS.CAS_STAT_CONFLICT, c.conflict.toNat),
       (CAS.CAS_STAT_ROLE_PADS, s.pads.casRole)]),
    (CAS.CHAIN, 1, packed 0
      [(CAS.CHAIN_POS, c.pos), (CAS.CHAIN_CHAIN_LEN, if c.isMaster then 1 + c.below else 0), (CAS.CHAIN_MASTER_GEN, c.gen)]),
    (CAS.REF_QUAL, 1, packed 0 [(CAS.REF_QUAL_STATE, c.ref.code), (CAS.REF_QUAL_FIRST_CAUSE, c.cause)]),
    (CAS.D_UP, 2, satW 32 c.dUp), (CAS.RT_DN, 2, satW 32 c.rt), (CAS.D_DN, 2, satW 32 c.dDn), (CAS.REF_LEFT, 1, casLeft s),
    (CAS.BCAST_STAT, 1, packed 0 [(CAS.BCAST_STAT_BSTATE, c.bc.st), (CAS.BCAST_STAT_LAST_RESULT, c.bc.result)]),
    (CAS.BCAST_FRAME, 2, c.bc.fa), (CAS.FRAME_NO, 2, c.frameNo), histRow s 9 CAS.HIST_SEL,
    (CAS.READY_SUM, 1, packed 0 [(CAS.READY_SUM_READY, c.bc.ready / 2)]),
    (CAS.PRESENT_SUM, 1, packed 0 [(CAS.PRESENT_SUM_PRESENT, maskBy 7 fun i => (slaveOf s (i + 1)).isSome && decide (slaveAge s (i + 1) ≤ 40))]) ]
  ++ (List.range 7).flatMap (slaveRows s)

/-- The holdover history as the window shows it (HHIST_CTRL.FREEZE). -/
def hhShown (x : Domain) : List Int := x.frozenHist.getD (x.ho.map (·.2))

def domRows (s : State) (d : Nat) : List ViewRow :=
  let x := s.domAt d
  let blk := s.fld (DOM.HIST_SEL_HH_BLOCK d)
  [ shown s (DOM.SEL_CTRL d) [(DOM.SEL_CTRL_BO_RESET d, x.boReset.toNat)],
    (DOM.SEL_STAT d, 1, packed 0
      [(DOM.SEL_STAT_DSTATE d, x.st.code), (DOM.SEL_STAT_SEL_VALID d, x.sel.isSome.toNat), (DOM.SEL_STAT_SEL_SLOT d, x.sel.getD 0),
       (DOM.SEL_STAT_MAN_PEND d, x.manPend.toNat), (DOM.SEL_STAT_BO_SLEW d, x.slewing.toNat),
       (DOM.SEL_STAT_CFG_ERR d, (selCfgErr s d).toNat), (DOM.SEL_STAT_SEL_REF d, x.selRef)]),
    (DOM.SEL_STAT2 d, 1, packed 0
      [(DOM.SEL_STAT2_LAST_CAUSE d, x.lastCause), (DOM.SEL_STAT2_WV_BASIS d, x.basis), (DOM.SEL_STAT2_SW_EPOCHS d, x.swEpochs)]),
    (DOM.CAND_STAT d, 1, packed 0 [(DOM.CAND_STAT_TIED d, x.tied), (DOM.CAND_STAT_USABLE d, x.usable)]),
    (DOM.BO_OFS d, 3, shownF 48 x.boF), (DOM.BO_RESID d, 1, ofSigned 16 (satSym 16 x.boResid)),
    (DOM.LOOP_STAT d, 1, packed 0
      [(DOM.LOOP_STAT_CLAMPED d, x.clamped.toNat), (DOM.LOOP_STAT_FROZEN d, x.frozen.toNat),
       (DOM.LOOP_STAT_HIT_HOLD d, x.hitHold.toNat), (DOM.LOOP_STAT_LOCK_OK d, x.lockOk.toNat),
       (DOM.LOOP_STAT_PRE_SETTLED d, (s.loa.oven != .settled).toNat), (DOM.LOOP_STAT_HO_GRADE d, x.grade),
       (DOM.LOOP_STAT_TRIM d, (domOffset s d != 0).toNat), (DOM.LOOP_STAT_LEARN_SRC d, (s.loa.learnDom == d).toNat),
       (DOM.LOOP_STAT_PULLIN_LTD d, x.pullinLtd.toNat)]),
    (DOM.PH_ERR d, 3, shownF 48 x.errF), (DOM.FREQ d, 3, shownF 40 x.freqF), (DOM.INTEG d, 3, shownF 40 x.integF),
    (DOM.HO_FREQ d, 3, shownF 40 x.hoFreqF),
    shown s (DOM.HO_STAT d)
      [(DOM.HO_STAT_ACTIVE d, (x.st == .holdover).toNat), (DOM.HO_STAT_COLD_SEEN d, (x.nCold != 0).toNat),
       (DOM.HO_STAT_NOG_SEEN d, (x.nNog != 0).toNat)],
    (DOM.HO_TE d, 2, satNat 32 x.hoTe), (DOM.HO_TIME d, 2, satNat 32 x.hoTime), (DOM.HO_SIGF d, 1, satNat 16 x.sigf),
    (DOM.TE_ENTRY d, 1, satNat 16 (cdiv x.teEntry 1000)), (DOM.DTC_MAX d, 1, satNat 16 x.dtcMax),
    histRow s (35 + d) (DOM.HIST_SEL d), shown s (DOM.HHIST_CTRL d) [(DOM.HHIST_CTRL_COUNT d, (hhShown x).length)],
    (DOM.LOCKED_S d, 2, satNat 32 (x.lockedEp / 40000)), (DOM.HO_SE d, 1, satNat 16 x.hoSe), (DOM.HO_N d, 1, x.hoN) ]
  ++ (List.range 8).flatMap (fun i =>
    [(DOM.SLOTV d (6 * i), 3, shownF 48 (x.cph.getD i 0)), (DOM.SLOTV d (6 * i + 3), 3, shownF 40 (x.cfr.getD i 0))])
  ++ (List.range 64).map (fun i => (DOM.HH d (2 * i), 2, shownF 32 ((hhShown x).getD (64 * blk + i) 0)))

/-- Some output of tree k is in state q.  The tree of SYNS serves the outputs whose bypass source it is: those in bypass on
it, and those that stay gated while it is not locked (R217, R222). -/
def treeHas (s : State) (k : Nat) (q : OState) : Bool :=
  (List.range 40).any fun n => (s.outAt n).st == q &&
    (if k = 6 then s.fld (OUT.CTRL_BYP_SRC n) == 1 && (q != .gated || !synLocked s 6) else outSyn s n == k)

def synRows (s : State) (k : Nat) : List ViewRow :=
  let y := s.synAt k
  let w := s.fld (SYN.CTRL_HIST_WORD k)
  [ shown s (SYN.CTRL k) [(SYN.CTRL_UPDATE k, (y.update || y.strobe).toNat), (SYN.CTRL_RECAL k, y.recal.toNat)],
    (SYN.STAT k, 1, packed 0
      [(SYN.STAT_STATE k, y.st.code), (SYN.STAT_GATED k, (treeHas s k .gated).toNat), (SYN.STAT_BYPASS k, (treeHas s k .bypass).toNat),
       (SYN.STAT_BT_EMPTY k, y.btEmpty.toNat), (SYN.STAT_BAND_NONE k, y.bandNone.toNat),
       (SYN.STAT_LD_FALLBACK k, (ldFallback s k).toNat), (SYN.STAT_STROBE_PEND k, y.strobe.toNat), (SYN.STAT_ALOCK k, (y.aInd && s.fld SYS.LOCKA_SEL_SEL == k).toNat),
       (SYN.STAT_CLOCK k, y.cInd.toNat), (SYN.STAT_TOL_RAISED k, (tolRaised s k).toNat)]),
    (SYN.NA_INT k, 1, y.nCur / 2 ^ 48 % 1024), (SYN.NA_FRAC k, 3, y.nCur % 2 ^ 48),
    (SYN.BAND_STAT k, 1, packed 0 [(SYN.BAND_STAT_ENTRY k, y.cur.getD 0), (SYN.BAND_STAT_CODE k, y.curCode)]),
    (SYN.T_DIE k, 1, satW 16 (dieT s k)),
    (SYN.HIST_DATA k, 1, if w = 6 then satNat 16 y.voteRepair else histWord s (41 + k) (s.fld (SYN.CTRL_HIST_ENTRY k)) w) ]
  ++ (List.range 64).map (fun i => (SYN.PRED k i, 1, if i < bandCount s k then predOf s k i % 65536 else 0))

end Sys2Proof.Machine
end

