-- ==== Sys2Proof/Machine/ViewC.lean ====
section
/-! DEFINITION. What the registers of OUT, PG, TK, PTP, ETH, CAP and RING read. -/
namespace Sys2Proof.Machine

def outRows (s : State) (n : Nat) : List ViewRow :=
  let o := s.outAt n
  [ (OUT.STEP n, 1, ofSigned 16 o.stepPend),
    (OUT.STAT n, 1, packed 0
      [(OUT.STAT_OSTATE n, o.st.code), (OUT.STAT_STEP_BUSY n, (o.stepPend != 0).toNat), (OUT.STAT_CFG_ERR n, (outCfgErr s n).toNat),
       (OUT.STAT_DRV_FAULT n, o.drvFault.toNat), (OUT.STAT_COVERED n, (covered s n).toNat)]),
    (OUT.CYC_DUE n, 3, o.due % 2 ^ 48), (OUT.CYC_EMIT n, 3, ofSigned 48 o.emit), (OUT.CYC_GATED n, 3, o.gated % 2 ^ 48),
    (OUT.STEPPED n, 2, if isPulseOut s n then 0 else ofSigned 32 o.stepped), (OUT.DIV_ACT n, 2, o.div) ]

def outcRows (s : State) : List ViewRow :=
  [ (OUTC.HIST_DATA, 1, histWord s 48 (s.fld OUTC.OUT_CTRL_HIST_ENTRY) (s.fld OUTC.OUT_CTRL_HIST_WORD)),
    (OUTC.PG_SUM, 1, packed 0
      [(OUTC.PG_SUM_ALIGNING, maskBy 8 fun p => (s.pgAt p).st == .armed),
       (OUTC.PG_SUM_RUNNING, maskBy 8 fun p => (s.pgAt p).st != .idle)]) ]
  ++ (List.range 3).map (fun i => (OUTC.SAFE_SUM i, 1, maskBy 16 fun j => decide (16 * i + j < 40) && covered s (16 * i + j)))

def PgState.code : PgState → Nat
  | .idle => 0
  | .running => 1
  | .armed => 2

/-- ORIGIN modulo P in 2^-8 ns (R257; log entry 3). -/
def originPh (g : Pg) : Nat :=
  (rdiv 74 ((g.origin * g.den) % ((g.num : Int) * 2 ^ 80)) (g.den * 2 ^ 72)).toNat

def pgRows (s : State) (p : Nat) : List ViewRow :=
  let g := s.pgAt p
  [ shown s (PG.PG_CTRL p) [(PG.PG_CTRL_ALIGN p, (g.st == .armed).toNat)], (PG.ORIGIN_PH p, 3, originPh g),
    (PG.PG_STAT p, 1, packed 0
      [(PG.PG_STAT_PSTATE p, g.st.code), (PG.PG_STAT_CFG_ERR p, g.cfgErr.toNat), (PG.PG_STAT_WIDTH_CLIP p, g.clip.toNat),
       (PG.PG_STAT_TK_INVALID p, ((s.tkAt (pgTk s p)).st == .stopped).toNat)]) ]

/-- The three parts of a time-keeper step in ps, each with the sign of the step. -/
def stepParts (ps : Int) : Int × Int × Int :=
  (ps.tdiv 1000000000000, (ps.tmod 1000000000000).tdiv 1000, ps.tmod 1000)

def tkRows (s : State) (t : Nat) : List ViewRow :=
  let x := s.tkAt t
  let ns := x.time.fmod (1000000000 * 2 ^ 80)
  let st := stepParts x.step
  [ (TK.TK_STAT t, 1, packed 0
      [(TK.TK_STAT_TSTATE t, x.st.code), (TK.TK_STAT_BUDGET t, x.budget.toNat), (TK.TK_STAT_IN_VALID t, (inValid s t).toNat),
       (TK.TK_STAT_CLIPPED t, x.clipped.toNat), (TK.TK_STAT_OFS_SAT t, (decide (140737488355327 ≤ x.ofs) || decide (x.ofs ≤ -140737488355327)).toNat),
       (TK.TK_STAT_WAKE_COARSE t, x.wake.toNat), (TK.TK_STAT_CFG_ERR t, (tkCfgErr s t).toNat),
       (TK.TK_STAT_LEAP60 t, x.leap60.isSome.toNat)]),
    (TK.SEC t, 3, ofSigned 48 (tkSec s t)), (TK.NS t, 2, (ns.fdiv (2 ^ 80)).toNat), (TK.FRAC t, 3, ((ns.fmod (2 ^ 80)).fdiv (2 ^ 40)).toNat),
    (TK.OFS t, 3, ofSigned 48 (satSym 48 x.ofs)), (TK.STEP_S t, 3, ofSigned 48 st.1), (TK.STEP_NS t, 2, ofSigned 32 st.2.1),
    (TK.STEP_PSR t, 1, ofSigned 16 st.2.2), (TK.ADJ t, 3, satW 40 (x.adjF.tdiv (2 ^ 40))), histRow s (49 + t) (TK.HIST_SEL t) ]

def ptpRows (s : State) : List ViewRow :=
  let c := s.ptpc
  [ (PTP.PTP_STAT, 1, packed 0
      [(PTP.PTP_STAT_CFG_ERR, c.etypeErr.toNat), (PTP.PTP_STAT_ACTIVE, maskBy 4 fun i => (s.ptpAt i).en)]),
    (PTP.DS_DATA, 1, c.dsData % 65536), shown s PTP.KEY_CTRL [(PTP.KEY_CTRL_PTR, c.keyBuf.length)], (PTP.KEY_DATA, 1, 0),
    (PTP.KEY_STAT, 1, maskBy 16 fun k => (keySlot s k).isSome), (PTP.BMCA_LAT, 1, satNat 16 c.lat),
    histRow s 61 PTP.HIST_SEL, (PTP.BMCA_LAT_MAX, 1, satNat 16 c.latMax) ]

/-- INST_STAT.ISTATE: 0 DISABLED, 1 LISTENING, 2 GRANDMASTER, 3 SLAVE. -/
def instState (s : State) (i : Nat) : Nat :=
  if !(s.ptpAt i).en then 0
  else if (followPort s i).isSome then 3
  else if (members s i).any fun n => (s.ethAt n).pst == .master then 2
  else 1

def ptiRows (s : State) (i : Nat) : List ViewRow :=
  let x := s.ptpAt i
  [ shown s (PTI.INST_PORTS i) [(PTI.INST_PORTS_MEMBERS i, maskBy 8 fun n => (s.ethAt n).inst == i)],
    (PTI.INST_STAT i, 1, packed 0
      [(PTI.INST_STAT_ISTATE i, instState s i), (PTI.INST_STAT_SLAVE_VALID i, (slavePort s i).isSome.toNat),
       (PTI.INST_STAT_SLAVE_PORT i, (slavePort s i).getD 0), (PTI.INST_STAT_CFG_ERR i, x.cfgErr.toNat),
       (PTI.INST_STAT_TWO_STEP_FORCED i, (x.en && authOn s i).toNat), (PTI.INST_STAT_KEY_MISSING i, x.keyMissing.toNat)]),
    (PTI.STEPS_RM i, 1, (x.parent.map fun p => p.2.steps % 65536).getD 0),
    (PTI.MASTER_PORTS i, 1, maskBy 8 fun n => (s.ethAt n).inst == i && (s.ethAt n).pst == .master) ]

def ethRows (s : State) (n : Nat) : List ViewRow :=
  let x := s.ethAt n
  [ (ETH.ETH_STAT n, 1, packed 0
      [(ETH.ETH_STAT_LINK n, x.link.toNat), (ETH.ETH_STAT_SPEED_ACT n, x.speedAct), (ETH.ETH_STAT_ROLE_ACT n, x.roleAct.toNat),
       (ETH.ETH_STAT_TC10_STATE n, x.tc10), (ETH.ETH_STAT_PHY_FAULT n, x.phyFault.toNat),
       (ETH.ETH_STAT_CFG_ERR n, (decide (4 < s.fld (ETH.ETH_CFG_SPEED n))).toNat), (ETH.ETH_STAT_TX_CLAMP n, x.txClamp.toNat),
       (ETH.ETH_STAT_SQI n, x.sqi)]),
    shown s (ETH.PORT_CTRL n) [(ETH.PORT_CTRL_SLEEP_REQ n, (x.tc10 == 1).toNat), (ETH.PORT_CTRL_WAKE_REQ n, (x.tc10 == 3).toNat)],
    (ETH.PORT_STAT n, 1, packed 0
      [(ETH.PORT_STAT_PSTATE n, x.pst.code), (ETH.PORT_STAT_REF_STATE n, x.qual.code), (ETH.PORT_STAT_FIRST_CAUSE n, x.cause),
       (ETH.PORT_STAT_AS_CAPABLE n, (asCapable s n).toNat), (ETH.PORT_STAT_PD_VALID n, x.pdValid.toNat),
       (ETH.PORT_STAT_RATE_VALID n, (decide (4 ≤ x.meas.length)).toNat)]),
    (ETH.RX_LAT n, 1, x.rxLat % 65536), (ETH.TX_LAT n, 1, x.txLat % 65536), (ETH.MPD n, 2, satW 32 x.mpd), (ETH.OFM n, 3, satW 48 x.ofm),
    (ETH.RATE n, 3, shownF 40 x.rateF), (ETH.NRR n, 3, shownF 40 x.nrrF),
    (ETH.RX_INTV n, 1, packed 0
      [(ETH.RX_INTV_LOG_SYNC_RX n, ofSigned 4 x.rxSync), (ETH.RX_INTV_LOG_ANN_RX n, ofSigned 4 x.rxAnn),
       (ETH.RX_INTV_LOG_DREQ_RX n, ofSigned 4 x.rxDreq)]),
    (ETH.PEER_ID n, 4, x.peerId), (ETH.PEER_PORT n, 1, x.peerPort % 65536), histRow s (53 + n) (ETH.HIST_SEL n) ]

def ringFull (s : State) (k : Nat) : Bool := (ringAt s k).free == 0 && decide (0 < inRing s k)

/-- RSTAT.ABOVE_WM (R343). -/
def aboveWm (s : State) (k : Nat) : Bool :=
  let w := s.fld (RING.WMARK_WMARK k)
  w != 0 && decide (w ≤ (ringAt s k).used)

def capRows (s : State) : List ViewRow :=
  let c := s.cap
  let one := fun (f : CapSrc → Nat) => ((selSrc s).map fun i => f (capSrc s i)).getD 0
  let fly := match selSrc s with
    | some i => inFlight s i
    | none => if s.fld CAP.SRC_SEL_SRC = 64 then (c.buf.filter (·.counted)).length else 0
  [ (CAP.CAP_STAT, 1, packed 0
      [(CAP.CAP_STAT_EXP0_ACTIVE, (expRuns s 0).toNat), (CAP.CAP_STAT_EXP1_ACTIVE, (expRuns s 1).toNat),
       (CAP.CAP_STAT_EXP0_ERR, (expErr s 0).toNat), (CAP.CAP_STAT_EXP1_ERR, (expErr s 1).toNat)]),
    (CAP.SRC_CFG, 1, one (·.cfg)), (CAP.SRC_DEC, 1, one (·.dec)),
    (CAP.SRC_STAT, 1, packed 0
      [(CAP.SRC_STAT_NO_INPUT, ((selSrc s).map fun i => (noInput s i).toNat).getD 0),
       (CAP.SRC_STAT_CFG_ERR, ((selSrc s).map fun i => (decide (20 ≤ srcTarget s i)).toNat).getD 0), (CAP.SRC_STAT_IN_FLIGHT, fly)]),
    (CAP.CAPTURED, 3, capShown s (·.captured)), (CAP.DELIVERED, 3, capShown s (·.delivered)), (CAP.OVERRUN, 3, capShown s (·.overrun)),
    (CAP.DROP_DIS, 3, capShown s (·.dropDis)), (CAP.DROP_INT, 3, capShown s (·.dropInt)), (CAP.SEQ, 2, one (·.seq)),
    (CAP.SKIP_CNT, 1, satNat 16 (one (·.skip))), histRow s 62 CAP.HIST_SEL,
    (CAP.WM_SUM, 1, maskBy 16 (aboveWm s)), (CAP.FULL_SUM, 1, maskBy 16 (ringFull s)),
    (CAP.IF_TOTAL, 1, packed 0 [(CAP.IF_TOTAL_PEAK, c.peak), (CAP.IF_TOTAL_LIVE, c.buf.length)]) ]
  ++ (List.range 2).map (fun x => (CAP.EXP_FCNT x, 1, (vat c.exp x).fcnt % 65536))
  ++ (List.range 16).map (fun k => (CAP.IF_RING k, 1, packed 0
      [(CAP.IF_RING_PEAK k, (ringAt s k).peak), (CAP.IF_RING_LIVE k, inRing s k)]))

/-- The registers of ring k as reader c sees them; RD_DATA shows the halfword that the next read takes (R347). -/
def ringRows (s : State) (c : Ctx) (k : Nat) : List ViewRow :=
  let r := ringAt s k
  [ (RING.RSTAT k, 1, packed 0
      [(RING.RSTAT_RESIZING k, r.next.isSome.toNat), (RING.RSTAT_FULL k, (ringFull s k).toNat), (RING.RSTAT_ABOVE_WM k, (aboveWm s k).toNat),
       (RING.RSTAT_CFG_ERR k, r.cfgErr.toNat), (RING.RSTAT_WM_ARMED k, r.armed.toNat)]),
    (RING.USED k, 1, r.used), (RING.FREE k, 1, r.free), shown s (RING.RD_CTRL k) [(RING.RD_CTRL_RD_POS k, (rdBuf s c k).pos)],
    (RING.RD_DATA k, 1, (s.ringRead c k).1 % 65536),
    (RING.WRITTEN k, 2, r.written), (RING.TAKEN k, 2, r.taken), (RING.FLUSHED k, 2, r.flushed) ]

end Sys2Proof.Machine
end

