-- ==== Sys2Proof/Machine/View.lean ====
section
/-! DEFINITION. Reading a register: the row of its block, or the stored word; and the reads that latch (R39, R185, R246,
R282, R358, R391). -/
namespace Sys2Proof.Machine

/-- The rows of the block an address lies in, as reader c sees them. -/
def viewRows (s : State) (c : Ctx) (a : Nat) : List ViewRow :=
  if a < 0x0100 then sysRows s
  else if a < 0x0130 then pwrRows s
  else if a < 0x0200 then thmRows s
  else if a < 0x0300 then regRows s c
  else if a < 0x0400 then cfgRows s
  else if a < 0x0500 then nvsRows s
  else if a < 0x0600 then memRows s
  else if a < 0x0700 then bistRows s
  else if a < 0x0800 then loaRows s
  else if a < 0x0E00 then inmRows s ((a - 0x0800) / 64)
  else if a < 0x0F00 then trkRows s
  else if a < 0x1000 then casRows s
  else if a < 0x1800 then domRows s ((a - 0x1000) / 256)
  else if a < 0x2000 then synRows s ((a - 0x1800) / 256)
  else if a < 0x2500 then outRows s ((a - 0x2000) / 32)
  else if a < 0x2510 then outcRows s
  else if a < 0x2800 then pgRows s ((a - 0x2510) / 16)
  else if a < 0x3000 then tkRows s ((a - 0x2800) / 256)
  else if a < 0x3020 then ptpRows s
  else if a < 0x3100 then ptiRows s ((a - 0x3020) / 16)
  else if a < 0x3C00 then ethRows s ((a - 0x3100) / 256)
  else if a < 0x3D00 then capRows s
  else ringRows s c ((a - 0x3D00) / 16)

/-- What a register shows at this instant, without the effects of a read. -/
def readPlain (s : State) (c : Ctx) (a : Nat) : Nat :=
  match (viewRows s c a).find? fun r => decide (r.1 ≤ a) && decide (a < r.1 + r.2.1) with
  | some r => r.2.2 / 65536 ^ (a - r.1) % 65536
  | none => s.reg a

/-! ### Latching reads -/

/-- The block base of an address, and its latching values: offset of the register whose read latches, and how many registers
from it on are latched together.  RTC_ALARM is the one setting among them (R472). -/
def latchGroups (a : Nat) : Nat × List (Nat × Nat) :=
  if a < 0x0100 then (0, [(0x10, 6), (0x24, 8), (0x2C, 8), (0x44, 3)])
  else if a < 0x0200 then (0x0100, [(0x05, 2), (0x07, 2), (0x12, 3)])
  else if a < 0x0300 then (0x0200, [(0x05, 4), (0x1C, 2)])
  else if a < 0x0400 then (0x0300, [(0x05, 2), (0x0E, 2)])
  else if a < 0x0500 then (0x0400, [(0x0F, 2)])
  else if a < 0x0600 then (0x0500, [(0x1E, 2)])
  else if a < 0x0700 then (0x0600, [(0x06, 2), (0x21, 2)])
  else if a < 0x0800 then (0x0700, [(0x09, 3)] ++ bankGroups 0x20 ++ bankGroups 0x40 ++ bankGroups 0x60)
  else if a < 0x0E00 then (a / 64 * 64, [(0x1B, 3), (0x1E, 2), (0x20, 2)])
  else if a < 0x0F00 then (0x0E00, [])
  else if a < 0x1000 then (0x0F00, [(0x09, 2), (0x0B, 2), (0x0D, 2), (0x12, 2), (0x14, 2)])
  else if a < 0x1800 then
    (a / 256 * 256,
     [(0x0F, 3), (0x2B, 3), (0x2E, 3), (0x31, 3), (0x34, 3), (0x38, 2), (0x3A, 2), (0x4C, 2)]
      ++ (List.range 16).map (fun j => (0x50 + 3 * j, 3)) ++ (List.range 64).map (fun i => (0x80 + 2 * i, 2)))
  else if a < 0x2000 then (a / 256 * 256, [(0x08, 3)])
  else if a < 0x2500 then (a / 32 * 32, [(0x0A, 11), (0x15, 2)])
  else if a < 0x2510 then (0x2500, [])
  else if a < 0x2800 then (a / 16 * 16, [(0x09, 3)])
  else if a < 0x3000 then (a / 256 * 256, [(0x03, 8), (0x19, 3), (0x1C, 3), (0x1F, 2), (0x22, 3)])
  else if a < 0x3100 then (0x3000, [])
  else if a < 0x3C00 then (a / 256 * 256, [(0x14, 2), (0x16, 3), (0x19, 3), (0x1C, 3), (0x20, 4)])
  else if a < 0x3D00 then (0x3C00, [(0x07, 15), (0x16, 2)])
  else (a / 16 * 16, [(0x08, 6)])

/-- The registers that a read of a latches.  CAPTURED0 also latches SRC_STAT.IN_FLIGHT, and WRITTEN0 its ring's USED and
FREE (R358). -/
def latches (a : Nat) : List Nat :=
  let g := latchGroups a
  match g.2.find? fun x => g.1 + x.1 == a with
  | none => []
  | some x =>
    (List.range (x.2 - 1)).map (fun i => a + 1 + i) ++
      (if a = CAP.CAPTURED then [CAP.SRC_STAT] else if 0x3D00 ≤ a ∧ a < 0x3E00 then [g.1 + 4, g.1 + 5] else [])

/-- Register a reads from the shadow of its reader. -/
def fromShadow (a : Nat) : Bool :=
  let g := latchGroups a
  (g.2.any fun x => decide (g.1 + x.1 < a) && decide (a < g.1 + x.1 + x.2)) ||
    (decide (0x3D00 ≤ a) && decide (a < 0x3E00) && (a % 16 == 4 || a % 16 == 5))

/-- A shadow word: 0 before the reader's first latch since the start (R39). -/
def shadowGet (r : RegStore) (a : Nat) : Nat := ((r.find? fun x => x.1 == a).map (·.2.toNat)).getD 0

def shadowSet (r : RegStore) (a n : Nat) : RegStore :=
  if n % 65536 = 0 then Store.erase a r else Store.put a (BitVec.ofNat 16 n) r

/-- A read of a by reader c latches what it latches. -/
def State.latch (s : State) (c : Ctx) (a : Nat) : State :=
  match latches a with
  | [] => s
  | l =>
    let put := fun (r : RegStore) (m : Nat) => shadowSet r m (readPlain s c m)
    { s with shadows := vup s.shadows (ctxIdx c) fun r => l.foldl put r }

/-- The word that a read of a mapped register returns to reader c, and the state after it.  RD_DATA takes a halfword of its
ring (R347). -/
def State.readReg (s : State) (c : Ctx) (a : Nat) : Nat × State :=
  if 0x3D00 ≤ a ∧ a < 0x3E00 ∧ a % 16 = 6 then s.ringRead c ((a - 0x3D00) / 16)
  else if fromShadow a then (shadowGet (vat s.shadows (ctxIdx c)) a, s)
  else if a = CAP.SRC_STAT then
    (setBits (readPlain s c a) 7 0 (shadowGet (vat s.shadows (ctxIdx c)) a % 256), s)
  else (readPlain s c a, s.latch c a)

end Sys2Proof.Machine
end

