-- ==== Sys2Proof/Machine/Store.lean ====
section
/-! DEFINITION. STORE: what it takes, which pages it writes and how it ends (13: R435, R440 to R442). -/
namespace Sys2Proof.Machine

/-- The mask of a register's fields of some types. -/
def typeMask (p : FType → Bool) (a : Nat) : Nat :=
  match regAt a with
  | none => 0
  | some r => (r.fields.filter fun f => p f.ty).foldl (fun m f => m + maskOf f.hi f.lo) 0

/-- The RW, LK and WO fields, which STORE keeps and the NVS step applies (R440, R445); a counter field is a RW field. -/
def FType.kept : FType → Bool
  | .rw | .cnt | .sh | .lk | .wo => true
  | .ro | .w1c | .sc => false

/-- The persist-eligible registers, in ascending order (R430). -/
def eligibles (s : State) : List Nat := (List.range 0x3E00).filter fun a => eligible s a && mapped a

/-- The persist entries in force: address and value (R440). -/
def persistEntries (s : State) : List (Nat × Nat) :=
  (eligibles s).map fun a => (a, Nat.land (readPlain s .seq a) (typeMask FType.kept a))

/-- A page of 256 bytes. -/
def page256 (pad : Byte) (bs : List Byte) : List Byte := (bs ++ List.replicate (256 - bs.length) pad).take 256

/-- The directory page (R435). -/
def dirPage (s : State) (seq state persist : Nat) : List Byte :=
  page256 0 (bytesLE 4 seq ++ [BitVec.ofNat 8 state] ++ [0, 0, 0] ++ bytesLE 8 s.now ++ bytesLE 4 s.cfg.imageId ++
    bytesLE 2 persist ++ bytesLE 2 s.nvs.faultLog.length)

/-- The STORE sequence of the directory, 0 while it was never written. -/
def dirSeq (s : State) : Nat := if (pageFind s 0).1.isSome then natLE ((pageData s 0).take 4) else 0

/-- The pages of a STORE in the order of R440, each with its new content. -/
def storePlan (s : State) : List (Nat × List Byte) :=
  let seq := (dirSeq s + 1) % 2 ^ 32
  let es := persistEntries s
  let bank := page256 0 ((List.range 32).flatMap fun i => bytesLE 2 (s.reg (0x0720 + i)))
  let old := pageData s 1
  let log := s.nvs.faultLog.flatMap flogBytes
  let eo := page256 0 ((List.range 16).flatMap fun i => bytesLE 2 (s.reg (0x0060 + i)))
  let ent := es.flatMap fun e => bytesLE 2 e.1 ++ bytesLE 2 e.2
  let empty : List Byte := [0xFF, 0xFF, 0, 0]
  let entPage := fun i => (((ent.drop (256 * i)).take 256) ++ (List.replicate 64 empty).flatten).take 256
  [(0, dirPage s seq 0xA5 es.length), (1, bank)] ++ (if old = bank then [] else [(2, old)]) ++
    (List.range 16).map (fun i => (3 + i, page256 0 ((log.drop (256 * i)).take 256))) ++ [(192, eo)] ++
    (List.range 63).map (fun i => (193 + i, entPage i)) ++ [(0, dirPage s seq 0x5A es.length)]

/-- A page of the plan differs from what the NVS holds; the directory always does, since its sequence moves on. -/
def pageDiffers (s : State) (p : Nat × List Byte) : Bool := p.1 == 0 || pageData s p.1 != p.2

def State.storeEnd (s : State) (res : Nat) : State :=
  let s := s.nvsUp fun x => { x with storeRes := res }
  s.flagIf (res == 2 || res == 3 || res == 5) CFG.CFG_EVT_STORE_FAIL

/-- STORE written 1 (R440, R441): the pages are read to find those that differ (R438). -/
def State.storeReq (s : State) : State :=
  if storing s then s.goNote CFG.CFG_CTRL_STORE true
  else if lcState s = .ended then s.storeEnd 6
  else if s.pwr.holdup then s.storeEnd 5
  else if ¬ s.cfg.loaded then s.storeEnd 4
  else
    let all := (storePlan s).filter (pageDiffers s)
    let l := all.filter fun p => !protOf s p.1
    let prot := all.any fun p => protOf s p.1
    let s := (s.pagesRead ([0, 1] ++ (List.range 16).map (3 + ·) ++ (List.range 64).map (192 + ·))).nvsUp fun x =>
      { x with unstored := 0 }
    if nvsBusy s then s.nvsUp fun x => { x with storeNext := some (l, prot, s.now) }
    else s.nvsUp fun x => { x with op := .store l 0 prot false s.now }

/-- STORE_DONE: every page of the plan is written (R440). -/
def State.storeDone (s : State) : State :=
  match s.nvs.op with
  | .store [] n prot failed t =>
    let res := if failed then 3 else if prot then 2 else 1
    let s := s.nvsUp fun x => { x with op := .idle, storePages := n, storeTime := satNat 16 ((s.now - t) / 100000) }
    let s := (s.storeEnd res).flag CFG.CFG_EVT_STORE_DONE
    let s := if res = 3 then s else s.countInc 2
    let s := if res = 1 then s else s.bump CFG.STORE_FAIL_CNT
    let s := s.raise 11 (if res = 1 then .info else .warn) res (s.cfg.err * 4096)
    let s := s.goEnd CFG.CFG_CTRL_STORE State.storeReq
    if nvsBusy s then s else s.pendBegin
  | _ => s

end Sys2Proof.Machine
end

