-- ==== Sys2Proof/Machine/Collide.lean ====
section
/-! DEFINITION. A software write and a hardware update of one field in one register-file cycle (12: R406, R408, R410; 00:
R12; 01: R45).  Two commands fall into one cycle when the MTB counter is in the same 4 ns at both (log entry 60). -/
namespace Sys2Proof.Machine

/-- The order of R406 in which the writes of a cycle apply: transactions, the sequencer, Hildo, I2C, SPI. -/
def rankOf : Ctx → Nat
  | .cas => 0
  | .seq => 1
  | .hildo => 2
  | .i2c => 3
  | .spi => 4

/-- The bits of a register that a write later in the order of R406 has written in the cycle in progress. -/
def priorMask (s : State) (rank a : Nat) : Nat :=
  (s.cyc.wrote.filter fun w => w.addr == a && decide (rank < w.rank)).foldl (fun m w => Nat.lor m w.mask) 0

/-- Two words with what they differ in. -/
def differ (n m : Nat) : Nat := Nat.xor n m

/-- The hardware-owned bits of a register (R12). -/
def hwMask (a : Nat) : Nat := typeMask (fun t => t.owner == .hw) a

/-- The hardware-owned bits under a mask that hardware has changed since the cycle began (R410). -/
def lostMask (s : State) (a mask : Nat) : Nat :=
  let m := Nat.land mask (hwMask a)
  if m = 0 then 0
  else Nat.land m (differ (readPlain { s with toBlocks := s.found } .seq a) (readPlain s .seq a))

/-- The WRITE_LOST flag of the block that a register belongs to (R410). -/
def lostFlag (a : Nat) : Field :=
  if 0x0080 ≤ a ∧ a < 0x00A0 then SYS.LC_EVT_WRITE_LOST
  else if a < 0x0100 then SYS.SYS_EVT_WRITE_LOST
  else if a < 0x0110 then PWR.PS_EVT_WRITE_LOST
  else if a < 0x0130 then PWR.PWR_EVT_WRITE_LOST
  else if a < 0x0200 then THM.THM_EVT_WRITE_LOST
  else if a < 0x0300 then REG.ACC_EVT_WRITE_LOST
  else if a < 0x0400 then CFG.CFG_EVT_WRITE_LOST
  else if a < 0x0500 then NVS.NVS_EVT_WRITE_LOST
  else if a < 0x0600 then MEM.MEM_EVT_WRITE_LOST
  else if a < 0x0700 then BIST.BIST_EVT_WRITE_LOST
  else if a < 0x0800 then LOA.LOA_EVT_WRITE_LOST
  else if a < 0x0E00 then INM.CAUSE_WRITE_LOST ((a - 0x0800) / 64)
  else if a < 0x0F00 then TRK.EVT_STAT_WRITE_LOST
  else if a < 0x1000 then CAS.CAS_EVT_WRITE_LOST
  else if a < 0x1800 then DOM.LOOP_EVT_WRITE_LOST ((a - 0x1000) / 256)
  else if a < 0x2000 then SYN.EVT_WRITE_LOST ((a - 0x1800) / 256)
  else if a < 0x2500 then OUT.EVT_WRITE_LOST ((a - 0x2000) / 32)
  else if a < 0x2510 then REG.ACC_EVT_WRITE_LOST
  else if a < 0x2800 then PG.PG_EVT_WRITE_LOST ((a - 0x2510) / 16)
  else if a < 0x3000 then TK.TK_EVT_WRITE_LOST ((a - 0x2800) / 256)
  else if a < 0x3020 then REG.ACC_EVT_WRITE_LOST
  else if a < 0x3100 then PTI.INST_EVT_WRITE_LOST ((a - 0x3020) / 16)
  else if a < 0x3C00 then
    (if a % 256 < 0x0B then ETH.ETH_EVT_WRITE_LOST ((a - 0x3100) / 256)
     else ETH.PORT_EVT_WRITE_LOST ((a - 0x3100) / 256))
  else REG.ACC_EVT_WRITE_LOST

/-- The flags of a register that hardware set in the cycle in progress: a clear in that cycle leaves them set (R410). -/
def justSet (s : State) (a : Nat) : Nat := maskBy 16 fun b => s.cyc.sets.any fun x => x.1 == a && x.2 == b

/-- The word to store at a, where the written word is `new`: a counter field takes the written value plus what hardware
added in the cycle in progress (R45, R410).  `w` masks the written bits. -/
def plusAdded (s : State) (a w data old new : Nat) : Nat :=
  match regAt a with
  | none => new
  | some r =>
    (r.fields.filter fun f => f.ty == .cnt).foldl (fun n f =>
      let k := s.cyc.added a f.lo
      if k = 0 ∨ bitsOf w f.hi f.lo = 0 then n
      else
        let w' := bitsOf w f.hi f.lo
        let old' := bitsOf old f.hi f.lo - k
        let v := Nat.lor (old' - Nat.land old' w') (Nat.land (bitsOf data f.hi f.lo) w')
        setBits n f.hi f.lo (satNat (f.hi + 1 - f.lo) (v + k))) new

/-- A write of a field in the cycle of a scrubber's visit replaces the visit: its repair is not counted (R408). -/
def State.unfix (s : State) (a mask : Nat) : State :=
  let l := s.cyc.fixed.filter fun x => x.1 == a && bitsOf mask x.2.1 x.2.1 == 1
  let t := { s with cyc := { s.cyc with fixed := s.cyc.fixed.filter fun x => !(x.1 == a && bitsOf mask x.2.1 x.2.1 == 1) } }
  l.foldl (fun t x => t.setReg x.2.2 (t.reg x.2.2 - 1)) t

/-- A write has reached the register file: the cycle keeps it. -/
def State.noteWrite (s : State) (rank a mask go : Nat) : State :=
  { s with cyc := { s.cyc with wrote := ⟨a, mask, go, rank, readPlain s .seq a⟩ :: s.cyc.wrote } }

/-- A write that loses hardware-owned bits sets the block's flag. -/
def State.noteLost (s : State) (a lost : Nat) : State := s.flagIf (lost != 0) (lostFlag a)

/-- Hardware has changed a hardware-owned field after a write of it in the cycle in progress (R410). -/
def State.lostSweep (s : State) : State :=
  s.cyc.wrote.foldl (fun t w =>
    let m := Nat.land w.mask (hwMask w.addr)
    t.noteLost w.addr (if m = 0 then 0 else Nat.land m (differ w.shown (readPlain s .seq w.addr)))) s

end Sys2Proof.Machine
end

