-- ==== Sys2Proof/Machine/RegLock.lean ====
section
/-! DEFINITION. What a register write may change: locked and write-once fields, the access-fault record, and the word that
is stored (12: R389, R390, R410 to R413; 00: R11, R15). -/
namespace Sys2Proof.Machine

def State.when (s : State) (b : Bool) (f : State → State) : State := if b then f s else s

/-- The mask covers a bit of the field. -/
def hits (mask : Nat) (f : Field) : Bool := bitsOf mask f.hi f.lo != 0

/-- A go bit acts: `go` is mask AND data (R390). -/
def goes (go : Nat) (f : Field) : Bool := bitsOf go f.hi f.lo != 0

/-! ### Locked fields (R411, R412) -/

/-- A locked field's cause: 1 LOCK, 2 WRITE_ONCE. -/
def lockWhen (b : Bool) (cause : Nat) : Option Nat := if b then some cause else none

/-- The locks of SYS, CFG, NVS, MEM, BIST, LOA and REG (R173, R403, R412, R440, R443, R508, R511, R515, R517). -/
def lockLow (s : State) (a mask data : Nat) : Option Nat :=
  if 0x0094 ≤ a ∧ a < 0x009C then lockWhen (s.lc.sealing.isNone) 1
  else if a = REG.HILDO_CFG then
    lockWhen (s.bit REG.REG_LOCK_HILDO_LK && Nat.land mask (typeMask (· == .lk) a) != 0) 1
  else if a = REG.REG_LOCK then lockWhen (s.acc.lkWritten && hits mask REG.REG_LOCK_HILDO_LK) 2
  else if a = CFG.CFG_CTRL then lockWhen (lcState s == .ended && hits mask CFG.CFG_CTRL_STORE) 1
  else if a = NVS.PROTECT then lockWhen (s.nvs.bpWritten && hits mask NVS.PROTECT_BP) 2
  else if a = MEM.WIPE_CTRL then lockWhen (lcLocked s && hits mask MEM.WIPE_CTRL_WIPE) 1
  else if a = BIST.BIST_CTRL then
    let u := bitsOf (Nat.lor (Nat.land mask data) (s.reg a - Nat.land (s.reg a) mask)) 6 0
    lockWhen (hits mask BIST.BIST_CTRL_RUN && !reachable s u) 1
  else if 0x060E ≤ a ∧ a < 0x0612 then
    lockWhen (s.bist.locked && Nat.land mask (typeMask (· == .lk) a) != 0) 1
  else if a = LOA.COMP_CTRL then
    lockWhen (hits mask LOA.COMP_CTRL_APPLY_STAGED &&
      !(goes (Nat.land mask data) LOA.COMP_CTRL_LOAD_FACTORY && goes (Nat.land mask data) LOA.COMP_CTRL_APPLY_STAGED) &&
      !(lcState s == .fab || lcState s == .provision || lcState s == .ret)) 1
  else none

/-- The lock that a write meets (R411): cause 1 LOCK or 2 WRITE_ONCE of ACC_INFO. -/
def lockOf (s : State) (c : Ctx) (a mask data : Nat) : Option Nat :=
  if c = .hildo ∧ ¬ s.bit REG.HILDO_CFG_WR_EN then some 1
  else if a < 0x0800 ∧ (lockLow s a mask data).isSome then lockLow s a mask data
  else if a = PTP.KEY_CTRL then
    lockWhen (lcLocked s && (hits mask PTP.KEY_CTRL_COMMIT || hits mask PTP.KEY_CTRL_ERASE)) 1
  else if lcLocked s ∧ bitsOf mask 2 2 = 1 then lockWhen (clsSrc a).isSome 1
  else none

/-! ### Access faults (R411, R413) -/

/-- The access-fault record takes a capture; under REC_HOLD it keeps the first one while a flag stands. -/
def State.accRecord (s : State) (c : Ctx) (a cause : Nat) (read : Bool) : State :=
  if s.bit REG.REG_CTRL_REC_HOLD ∧ (s.bit REG.ACC_EVT_ACCESS_VIOLATION ∨ s.bit REG.ACC_EVT_UNMAPPED) then s
  else
    let s := s.setReg REG.ACC_ADDR a
    let s := s.setReg REG.ACC_INFO
      (packed 0 [(REG.ACC_INFO_IF, ctxIdx c), (REG.ACC_INFO_CAUSE, cause), (REG.ACC_INFO_READ, read.toNat)])
    s.setWide REG.ACC_TIME 4 s.now

/-- A refused write (R411): 4 STAGED_LOCK and 5 APPLY_LOCK are the causes of transactions. -/
def State.accRefuse (s : State) (c : Ctx) (a cause : Nat) : State :=
  let s := ((s.accRecord c a cause false).flag REG.ACC_EVT_ACCESS_VIOLATION).bump REG.VIOL_CNT
  s.raise 12 .warn 1 (ctxIdx c * 8192) a

/-- An access to an unmapped address (R413). -/
def State.accUnmapped (s : State) (c : Ctx) (a : Nat) (read : Bool) : State :=
  ((s.accRecord c a 3 read).flag REG.ACC_EVT_UNMAPPED).bump REG.UNMAPPED_CNT

/-! ### The stored word -/

/-- The bits of a register that take what is written: its fields of the writable types, but for those that a block's
tables make read-only or reserved (R48, R173, SYN.CTRL.COMP, INM.IN_CFG of references 16 to 23). -/
def writeMask (s : State) (a : Nat) : Nat :=
  let m := typeMask FType.kept a
  if 0x0720 ≤ a ∧ a < 0x0740 then 0
  else if 0x0740 ≤ a ∧ a < 0x0760 then (if lcState s = .fab then m else 0)
  else if 0x0C00 ≤ a ∧ a < 0x0E00 ∧ a % 64 = 0 then m - Nat.land m (maskOf 12 5)
  else if 0x0C00 ≤ a ∧ a < 0x0E00 ∧ 1 ≤ a % 64 ∧ a % 64 ≤ 4 then 0
  else if 0x1800 ≤ a ∧ a < 0x1E00 ∧ a % 256 = 0 then m - Nat.land m 4
  else m

/-- The bits that stay where n and m differ from m: n without m. -/
def without (n m : Nat) : Nat := n - Nat.land n m

/-- The W1C bits of a write whose clear is refused. -/
def heldBits (s : State) (a clear : Nat) : Nat := maskBy 16 fun b => bitsOf clear b b == 1 && flagHeld s a b

/-- A masked write reaches the stored word: writable bits take the data, W1C flags written 1 clear unless their condition
holds, which sets CLEAR_REFUSED, or hardware sets them in the same cycle; a counter keeps what hardware adds in the same
cycle; go bits and read-only bits store nothing (R11, R88, R389, R410). -/
def State.storeWord (s : State) (a mask data : Nat) : State :=
  let w := Nat.land mask (writeMask s a)
  let clear := Nat.land (Nat.land mask data) (typeMask (· == .w1c) a)
  let held := heldBits s a clear
  let clear := if 0x2000 ≤ a ∧ a < 0x2500 ∧ a % 32 = 9 then without clear 8192 else clear
  let old := s.reg a
  let new := Nat.lor (without (without old w) (without (without clear held) (justSet s a))) (Nat.land data w)
  let s := s.setReg a (plusAdded s a w data old new)
  match held, refusedFlag a with
  | 0, _ | _, none => s
  | _, some f => s.flag f

end Sys2Proof.Machine
end

