-- ==== Sys2Proof/Machine/HookA.lean ====
section
/-! DEFINITION. What a write does beyond its stored word, on the pages of SYS, PWR, THM, REG, CFG, NVS, MEM, BIST and LOA.
Each hook has the address a, the mask m, the go word g (mask AND data), the state o before the write and the state s after
the word is stored. -/
namespace Sys2Proof.Machine

/-- CNT_CLR, PEAK_CLR and other go bits that reset the n registers from a. -/
def State.clearRegs (s : State) (l : List (Nat × Nat)) : State := l.foldl (fun t x => t.zeroRegs x.1 x.2) s

/-! ### Faults (R479, R482, R487, R492) -/

/-- FLT_SRC.SEVERE written 1 (R487): the latch ends with its count and coverage, or the clear is refused; a severe classification
in the same cycle keeps it (R488). -/
def State.latchClear (s : State) (src : Nat) : State :=
  if ¬ (s.fltAt src).sev then s
  else if latchHeld s src then
    let s := s.fltUp src fun c => { c with refused := true }
    match latchRefusedFlag s src with
    | some f => s.flag f
    | none => s
  else if s.severeNow src then s
  else (s.fltUp src SrcState.unlatch).cleared (some src) true

/-- A pending bit is cleared, but not in the cycle of a new event (R482, R495). -/
def State.pendClear (s : State) (src : Nat) : State := s.fltUp src fun c => { c with pend := s.raisedNow src && c.pend }

/-- PEND_CLR (R482). -/
def State.pendClearAll (s : State) : State := (List.range 128).foldl State.pendClear s

/-- A source's WARN count is cleared (R479). -/
def State.countClear (s : State) (src : Nat) : State := (s.fltUp src fun c => { c with warns := [] }).cleared (some src) false

/-- SYS.FLT_CTRL.CNT_CLR (R479). -/
def State.warnsClear (s : State) : State :=
  let t := { s with flt := s.flt.map fun (c : SrcState) => { c with warns := [] } }
  t.cleared none false

/-- A write of FLT_SRC acts on the source that FLT_SEL selects. -/
def State.fltSrcWritten (s : State) (g : Nat) : State :=
  let src := s.fld SYS.FLT_SEL_SRC
  let s := s.when (goes g SYS.FLT_SRC_CLEAR_REFUSED) fun s => s.fltUp src fun c => { c with refused := false }
  let s := s.when (goes g SYS.FLT_SRC_PEND) fun s => s.pendClear src
  s.when (goes g SYS.FLT_SRC_SEVERE) fun s => s.latchClear src

/-- Word 5 of a source's history entry with cause 0 and every other subfield as it stands (R490). -/
def restNow (s : State) (src : Nat) : Nat :=
  if src = 1 then (lcState s).code * 9216
  else if 8 ≤ src ∧ src < 12 then s.cfg.err * 4096 + s.nvs.storeRes
  else if 16 ≤ src ∧ src < 20 then s.loa.oven.code * 16384 + s.loa.expired
  else if src = 28 ∨ src = 29 then s.cas.pos % 8 * 8192
  else if src = 30 ∨ src = 31 then s.coll.calTrk * 256
  else if 32 ≤ src ∧ src < 56 then (s.monAt (src - 32)).st.code * 9216
  else if 56 ≤ src ∧ src < 74 then (s.domAt ((src - 56) / 3)).st.code * 9216
  else if 74 ≤ src ∧ src < 88 then (s.synAt ((src - 74) / 2)).st.code * 8192
  else if 88 ≤ src ∧ src < 92 then (s.outAt 0).st.code * 32
  else if 92 ≤ src ∧ src < 100 then (s.tkAt ((src - 92) / 2)).st.code * 9216
  else if 100 ≤ src ∧ src < 108 then (s.ethAt (src - 100)).pst.code * 4096
  else if 108 ≤ src ∧ src < 112 then (src - 108) * 16384
  else if 112 ≤ src then (src - 112) * 4096
  else 0

/-- FORCE written 1 (R492): one injected WARN event. -/
def State.force (s : State) (src : Nat) : State := s.post ⟨src, .warn, false, true, 0, restNow s src, 0, []⟩

/-- EVT_CLASS of a source (R479): a change of THRESH_N clears the count; INJ_REACT that gives an injected latch its hardware
effect starts the reaction at this write (R485, R495); FORCE injects. -/
def State.classWritten (s o : State) (src g : Nat) : State :=
  let s := s.when (clsThresh s src != clsThresh o src) fun s => s.countClear src
  let gained := !latchActs o src (o.fltAt src) && latchActs s src (s.fltAt src)
  let s := s.when (gained && (src == 30 || src == 31) && clsReact s src) State.holdAll
  s.when (bitsOf g 2 2 == 1) fun s => s.force src

/-- EVT_WINDOW of a source (R479): a change clears the count. -/
def State.windowWritten (s o : State) (src : Nat) : State :=
  s.when (clsWindow s src != clsWindow o src) fun s => s.countClear src

/-- The classification registers of every block. -/
def hookClass (o s : State) (a g : Nat) : State :=
  match clsSrc a with
  | some src => s.classWritten o src g
  | none => if a = 0 then s else match clsSrc (a - 1) with
    | some src => s.windowWritten o src
    | none => s

/-! ### SYS -/

def hookSys (o s : State) (a m g : Nat) : State :=
  if a = SYS.FLT_SRC then s.fltSrcWritten g
  else if a = SYS.FLT_CTRL then
    (s.when (goes g SYS.FLT_CTRL_CNT_CLR) State.warnsClear).when (goes g SYS.FLT_CTRL_PEND_CLR) State.pendClearAll
  else if a = SYS.TOD_CFG then s.todCfgWritten o
  else if a = SYS.TOD_CFG2 then s.when (hits m SYS.TOD_CFG2_UTC_SRC) State.todUtcSrc
  else if a = SYS.LOCKA_SEL then s.lockaWritten (o.fld SYS.LOCKA_SEL_SEL)
  else if a = SYS.BRZ_CTRL then s.when (goes g SYS.BRZ_CTRL_STOP) State.brzStop
  else if a = SYS.LC_CTRL then
    let s := s.when (goes g SYS.LC_CTRL_KEY_COMMIT) State.unsealCommit
    let s := s.when (goes g SYS.LC_CTRL_GO) State.lcGo
    let s := s.when (goes g SYS.LC_CTRL_CLOSE) State.sealClose
    let s := s.when (goes g SYS.LC_CTRL_UNSEAL_REQ) State.unsealReq
    s.when (goes g SYS.LC_CTRL_UNSEAL_GO) State.unsealGo
  else s

/-! ### PWR, THM, REG -/

def hookPwr (s : State) (a m g : Nat) : State :=
  if a = PWR.PS_CTRL then s.when (goes g PWR.PS_CTRL_GO) State.goMove
  else if a = PWR.RTC_ALARM + 1 then (if m = 0 then s else s.applyEff PWR.RTC_ALARM 2)
  else if a = PWR.PWR_CTRL then
    let s := s.when (goes g PWR.PWR_CTRL_CNT_CLR) fun s => s.zeroRegs PWR.UVW_CNT 4
    s.when (goes g PWR.PWR_CTRL_PEAK_CLR) fun s => s.pwrUp fun p => { p with pinPeak := 0, vinMin := 65535 }
  else if a = THM.THM_CTRL then
    let s := s.when (goes g THM.THM_CTRL_CNT_CLR) fun s => s.zeroRegs THM.WARN_CNT 2
    s.when (goes g THM.THM_CTRL_PEAK_CLR) fun s => s.thmUp fun x => { x with peak := s.loa.tCase }
  else s

def hookReg (s : State) (a m g : Nat) : State :=
  if a = REG.REG_CTRL then
    let s := s.when (goes g REG.REG_CTRL_CNT_CLR) fun s =>
      s.clearRegs [(REG.VIOL_CNT, 7), (REG.HILDO_DUP_CNT, 1), (REG.SPLIT_CNT, 1)]
    s.when (goes g REG.REG_CTRL_LOG_CLR) fun s => s.accUp fun x => { x with log := [] }
  else if a = REG.REG_LOCK then
    s.when (hits m REG.REG_LOCK_HILDO_LK) fun s => s.accUp fun x => { x with lkWritten := true }
  else s

/-! ### CFG, NVS -/

def hookCfg (s : State) (a g : Nat) : State :=
  if a = CFG.CFG_CTRL then
    let s := s.when (goes g CFG.CFG_CTRL_CNT_CLR) fun s =>
      s.clearRegs [(CFG.REC_REFUSED_CNT, 2), (CFG.STORE_FAIL_CNT, 1)]
    s.when (goes g CFG.CFG_CTRL_STORE) State.storeReq
  else s

def hookNvs (s : State) (a m g : Nat) : State :=
  if a = NVS.NVS_CTRL then
    let s := s.when (goes g NVS.NVS_CTRL_CNT_CLR) fun s => s.zeroRegs NVS.MARGIN_FIX_CNT 4
    let s := s.when (goes g NVS.NVS_CTRL_PAGE_READ) fun s => s.pageReq false
    let s := s.when (goes g NVS.NVS_CTRL_PAGE_WRITE) fun s => s.pageReq true
    let s := s.when (goes g NVS.NVS_CTRL_SCRUB_NOW) State.scrubAsk
    s.when (goes g NVS.NVS_CTRL_CNT_INC) State.userInc
  else if a = NVS.PROTECT then s.when (hits m NVS.PROTECT_BP) State.protWritten
  else if a = NVS.FLOG_SEL then s.flogCopy
  else s

/-! ### MEM, BIST -/

/-- A two-bit bank request that is refused (R470): RETENTION or OFF for a sequencer bank, or for a ring bank while a ring
has a size. -/
def reqRefused (s : State) (b v : Nat) : Bool := (v == 1 || v == 2) && (decide (b < 4) || !ringsOff s)

/-- PM_REQ written: a refused request keeps its field, and COMPAT_IGN is set. -/
def State.pmReqWritten (s o : State) (i : Nat) : State :=
  let a := MEM.PM_REQ + i
  (List.range 8).foldl (fun t j =>
    let v := bitsOf (s.reg a) (2 * j + 1) (2 * j)
    let w := bitsOf (o.reg a) (2 * j + 1) (2 * j)
    if v ≠ w ∧ reqRefused o (8 * i + j) v then
      (t.setReg a (setBits (t.reg a) (2 * j + 1) (2 * j) w)).flag MEM.PM_STAT1_COMPAT_IGN
    else t) s

def hookMem (o s : State) (a g : Nat) : State :=
  if a = MEM.MEM_CTRL then
    s.when (goes g MEM.MEM_CTRL_CNT_CLR) fun s =>
      (s.zeroRegs MEM.ECC_CORR_CNT 5).memUp fun x => { x with stallMax := 0, share := Vector.replicate 8 0 }
  else if a = MEM.WIPE_CTRL then s.when (goes g MEM.WIPE_CTRL_WIPE) fun s => s.wipe 3
  else if a = MEM.PM_REQ then s.pmReqWritten o 0
  else if a = MEM.PM_REQ + 1 then s.pmReqWritten o 1
  else s

/-- RES_SEL written: the result of the unit is copied (R503). -/
def State.resCopy (s : State) : State :=
  (resWords s (s.fld BIST.RES_SEL_UNIT)).foldl (fun t x => t.setReg x.1 x.2) s

def hookBist (s : State) (a g : Nat) : State :=
  if a = BIST.BIST_CTRL then
    let s := s.when (goes g BIST.BIST_CTRL_CNT_CLR) fun s => s.zeroRegs BIST.PASS_CNT 6
    let s := s.when (goes g BIST.BIST_CTRL_ABORT) State.bistAbort
    s.when (goes g BIST.BIST_CTRL_RUN) fun s => s.bistRun (s.fld BIST.BIST_CTRL_UNIT)
  else if a = BIST.RES_SEL then s.resCopy
  else if a = BIST.BG_CTRL then s.bistUp fun b => { b with hoursLeft := min b.hoursLeft (bgPeriod s) }
  else s

/-! ### LOA -/

def hookLoa (o s : State) (a g : Nat) : State :=
  if a = LOA.OVEN_CTRL then s.ovenUpdate
  else if a = LOA.COMP_CTRL then
    let s := s.when (goes g LOA.COMP_CTRL_CNT_CLR) fun s => s.zeroRegs LOA.MODEL_UPD_CNT 3
    let s := s.when (goes g LOA.COMP_CTRL_LOAD_FACTORY) fun s => s.copyBank 1
    let s := s.when (goes g LOA.COMP_CTRL_APPLY_STAGED && !goes g LOA.COMP_CTRL_LOAD_FACTORY) fun s => s.copyBank 2
    s.when (s.fld LOA.COMP_CTRL_LEARN_DOM != o.fld LOA.COMP_CTRL_LEARN_DOM ||
      s.bit LOA.COMP_CTRL_LEARN_EN != o.bit LOA.COMP_CTRL_LEARN_EN) State.learnTake
  else if 0x0760 ≤ a then s.stagedWritten a
  else s

/-- Pages 0x00 to 0x07. -/
def hookLow (o s : State) (a m g : Nat) : State :=
  if a < 0x0100 then hookSys o s a m g
  else if a < 0x0200 then hookPwr s a m g
  else if a < 0x0300 then hookReg s a m g
  else if a < 0x0400 then hookCfg s a g
  else if a < 0x0500 then hookNvs s a m g
  else if a < 0x0600 then hookMem o s a g
  else if a < 0x0700 then hookBist s a g
  else hookLoa o s a g

end Sys2Proof.Machine
end

