-- ==== Sys2Proof/Machine/HookB.lean ====
section
/-! DEFINITION. What a write does beyond its stored word, on the pages of INM, TRK, CAS, DOM and SYN.  A multi-register
setting is applied when its highest register is written (R53, R185). -/
namespace Sys2Proof.Machine

/-! ### INM and TRK (R53, R65, R80, R81, R90, R231) -/

/-- A change of IN_CFG of reference k (R81, R231). -/
def State.inCfgWritten (s o : State) (k : Nat) : State :=
  let s := s.monReconfig k
  if 16 ≤ k then s
  else if s.fld (INM.IN_CFG_ROLE k) ≠ 2 then
    if o.fld (INM.IN_CFG_ROLE k) = 2 ∧ (s.outAt k).st ≠ .off then
      (s.outStop k).outUp k fun x => { x with cfgErr := true }
    else s
  else if o.fld (INM.IN_CFG_ROLE k) ≠ 2 then s.outTryStart k false
  else s

/-- The nominal of reference k comes into force (R53). -/
def State.nominalWritten (s : State) (k n : Nat) : State :=
  let t := s.applyEff (INM.NOM_NUM k) n
  if nomNum t k = nomNum s k ∧ nomDen t k = nomDen s k then t else t.nominalChanged k

def hookInm (o s : State) (k f m g : Nat) : State :=
  if f = 0 then s.inCfgWritten o k
  else if f = 0x03 then s.nominalWritten k 3
  else if f = 0x04 then s.nominalWritten k 4
  else if f = 0x06 then s.monUp k fun x => x.fitDrift s k
  else if f = 0x07 then s.when (wsInt s k != wsInt o k) fun s => s.monUp k Monitor.clearWs
  else if f = 0x0B then s.applyEff (INM.WARN k) 2
  else if f = 0x0D then s.applyEff (INM.LIMIT k) 2
  else if f = 0x0F then s.applyEff (INM.HYST k) 2
  else if f = 0x16 then s.applyEff (INM.PEER_LIMIT k) 2
  else if f = 0x17 then
    let s := s.when (goes g (INM.QUAL_CTRL_CNT_CLR k)) fun s => s.zeroRegs (INM.LOS_CNT k) 4
    let s := s.when (forceFail s k != forceFail o k) fun s => s.forceFailWritten k
    s.when (goes g (INM.QUAL_CTRL_REQUAL k)) fun s => s.requal k
  else if f = 0x23 then
    s.when (hits m (INM.WS_SEL_INDEX k)) fun s => s.monUp k fun m => { m with wsData := m.ws.getD (s.fld (INM.WS_SEL_INDEX k)) 0 }
  else s

def hookTrk (s : State) (a g : Nat) : State :=
  if a = TRK.CTRL then
    let s := s.when (goes g TRK.CTRL_PEAK_CLR) fun s => { s with coll := { s.coll with peak := 0 } }
    let s := s.when (goes g TRK.CTRL_CNT_CLR) fun s => s.zeroRegs TRK.CNT 1
    s.when (goes g TRK.CTRL_ARM) fun s => { s with coll := { s.coll with armed := true } }
  else s

/-! ### CAS -/

def hookCas (s : State) (a g : Nat) : State :=
  if a = CAS.CAS_CTRL then
    let s := s.when (goes g CAS.CAS_CTRL_CNT_CLR) fun s => s.zeroRegs CAS.UP_DOWN_CNT 10
    let s := s.when (goes g CAS.CAS_CTRL_YIELD) State.casYield
    s.when (goes g CAS.CAS_CTRL_RECAL) State.calClear
  else s

/-! ### DOM (R127 to R130, R144, R185) -/

/-- SEL_CTRL written. -/
def State.selWritten (s o : State) (d g : Nat) : State :=
  let s := s.when (goes g (DOM.SEL_CTRL_CNT_CLR d)) fun s => s.zeroRegs (DOM.SWITCH_CNT d) 5
  let s := s.when (domMode s d != domMode o d) fun s => s.modeWritten d
  let s := s.when (s.fld (DOM.SEL_CTRL_PREF_SLOT d) != o.fld (DOM.SEL_CTRL_PREF_SLOT d)) fun s => s.prefWritten d
  s.when (goes g (DOM.SEL_CTRL_BO_RESET d)) fun s => s.boResetWritten d

/-- HHIST_CTRL.FREEZE holds the history as the window shows it. -/
def State.freezeWritten (s : State) (d : Nat) : State :=
  if s.bit (DOM.HHIST_CTRL_FREEZE d) then s.domUp d fun x => { x with frozenHist := some (hhShown x) }
  else s.domUp d fun x => { x with frozenHist := none }

/-- HO_STAT.EXPIRED cleared: bit d of HO_SUM clears with it, and the budget may expire anew (R181). -/
def State.expiredWritten (s : State) (d : Nat) : State :=
  if s.bit (DOM.HO_STAT_EXPIRED d) then s
  else
    ({ s with loa := { s.loa with expired := without s.loa.expired (2 ^ d) } }).domUp d fun x => { x with hoExp := false }

def hookDom (o s : State) (d f g : Nat) : State :=
  if f = 0 then s.selWritten o d g
  else if f ≤ 8 then s.slotWritten d (f - 1)
  else if f = 0x0A then s.applyEff (DOM.WV_LIM d) 2
  else if f = 0x1B then s.when (goes g (DOM.LOOP_CTRL_CNT_CLR d)) fun s => s.zeroRegs (DOM.CLAMP_CNT d) 5
  else if f = 0x1D then s.applyEff (DOM.BW d) 2
  else if f = 0x22 then s.applyEff (DOM.PULLIN d) 2
  else if f = 0x25 then s.applyEff (DOM.OFFSET d) 3
  else if f = 0x29 then s.applyEff (DOM.HO_LIMIT d) 2
  else if f = 0x37 then s.when (goes g (DOM.HO_STAT_EXPIRED d)) fun s => s.expiredWritten d
  else if f = 0x4B then s.freezeWritten d
  else s

/-! ### SYN (R193, R205, R211, R214) -/

/-- CTRL written: EN, then UPDATE, RECAL and CNT_CLR. -/
def State.synCtrlWritten (s o : State) (k g : Nat) : State :=
  let s := s.when (goes g (SYN.CTRL_CNT_CLR k)) fun s =>
    (s.zeroRegs (SYN.UNLOCK_CNT k) 4).synUp k fun y => { y with voteRepair := 0 }
  let s :=
    if s.bit (SYN.CTRL_EN k) then s.when (!o.bit (SYN.CTRL_EN k) || (s.synAt k).st == .off) fun s => s.synEnable k
    else s.when ((s.synAt k).st != .off) fun s => s.synOff k
  let s := s.when (goes g (SYN.CTRL_UPDATE k)) fun s => s.synUpdate k
  s.when (goes g (SYN.CTRL_RECAL k)) fun s => s.synRecal k

def hookSyn (o s : State) (k f m g : Nat) : State :=
  if f = 0 then
    if hits m (SYN.CTRL_EN k) then s.synCtrlWritten o k g
    else
      let s := s.when (goes g (SYN.CTRL_CNT_CLR k)) fun s =>
        (s.zeroRegs (SYN.UNLOCK_CNT k) 4).synUp k fun y => { y with voteRepair := 0 }
      let s := s.when (goes g (SYN.CTRL_UPDATE k)) fun s => s.synUpdate k
      s.when (goes g (SYN.CTRL_RECAL k)) fun s => s.synRecal k
  else if f = 0x11 then s.when (hits m (SYN.BT_CTRL_INDEX k)) fun s => s.bandIndex k
  else if f = 0x14 then s.bandStore k
  else s

/-- Pages 0x08 to 0x1E. -/
def hookMid (o s : State) (a m g : Nat) : State :=
  if a < 0x0E00 then hookInm o s ((a - 0x0800) / 64) (a % 64) m g
  else if a < 0x0F00 then hookTrk s a g
  else if a < 0x1000 then hookCas s a g
  else if a < 0x1800 then hookDom o s ((a - 0x1000) / 256) (a % 256) g
  else hookSyn o s ((a - 0x1800) / 256) (a % 256) m g

end Sys2Proof.Machine
end

