-- ==== Sys2Proof/Machine/HookC.lean ====
section
/-! DEFINITION. What a write does beyond its stored word, on the pages of OUT, PG, TK, PTP, ETH, CAP and RING. -/
namespace Sys2Proof.Machine

/-! ### OUT and PG -/

/-- EVT.DRV_FAULT written 1: the driver is enabled again for a 1 µs probe (R264). -/
def State.probeBegin (s : State) (n : Nat) : State :=
  s.outUp n fun o => if o.drvFault then { o with probing := true } else o

/-- CTRL of output n: EN (R238), CNT_CLR (R245). -/
def State.outCtrlWritten (s : State) (n m g : Nat) : State :=
  let s := s.when (goes g (OUT.CTRL_CNT_CLR n)) fun s => s.outUp n Output.clear
  if ¬ hits m (OUT.CTRL_EN n) then s
  else if outEn s n then s.outTryStart n true
  else (s.outStop n).outUp n fun o => { o with cfgErr := false }

/-- `w` is the word merged from what the register showed and what was written. -/
def hookOut (o s : State) (n f m g w : Nat) : State :=
  if f = 0 then s.outCfgWritten n (outSyn o n)
  else if f = 1 then s.outCtrlWritten n m g
  else if f = 3 then s.divWritten n
  else if f = 5 then s.bypDivWritten n
  else if f = 6 then (s.setReg (OUT.STEP n) 0).stepWritten n w
  else if f = 7 then s.dlyWritten n
  else if f = 9 then s.when (goes g (OUT.EVT_DRV_FAULT n)) fun s => s.probeBegin n
  else s

def hookOutc (s : State) (a g : Nat) : State :=
  if a = OUTC.OUT_CTRL then
    s.when (goes g OUTC.OUT_CTRL_CNT_CLR_ALL) fun s => { s with outs := s.outs.map Output.clear }
  else s

/-- ALIGN written 1 (R257): armed if the source captures with the generator's time keeper, else refused. -/
def State.pgAlign (s : State) (p : Nat) : State :=
  let i := s.fld (PG.PG_CTRL_ALIGN_SRC p)
  if srcEn s i ∧ srcTk s i = pgTk s p ∧ (s.pgAt p).st ≠ .idle then
    (s.goNote (PG.PG_CTRL_ALIGN p) ((s.pgAt p).st == .armed)).pgUp p fun x => { x with st := .armed }
  else s.flag (PG.PG_EVT_ALIGN_ERR p)

def hookPg (s : State) (p f m g : Nat) : State :=
  if f = 0 then
    let s := s.when (hits m (PG.PG_CTRL_EN p)) fun s =>
      if s.bit (PG.PG_CTRL_EN p) then s.pgEnable p else s.pgDisable p
    s.when (goes g (PG.PG_CTRL_ALIGN p)) fun s => s.pgAlign p
  else if f = 3 then (s.applyEff (PG.PER_NUM p) 3).pgPeriod p
  else if f = 5 then s.applyEff (PG.WIDTH p) 2
  else if f = 8 then s.pgOffset p
  else s

/-! ### TK -/

def hookTk (o s : State) (t f m g : Nat) : State :=
  if f = 0 then
    let s := s.when (goes g (TK.TK_CTRL_CNT_CLR t)) fun s => s.zeroRegs (TK.STEP_CNT t) 3
    let s := s.when (tkSrc s t != tkSrc o t) fun s => s.tkSrcWritten t
    let s := s.when (hits m (TK.TK_CTRL_EN t)) fun s =>
      if s.bit (TK.TK_CTRL_EN t) then s.tkEnable t else s.tkDisable t
    let s := s.when (goes g (TK.TK_CTRL_REARM t)) fun s => s.tkRearm t
    let s := s.when (goes g (TK.TK_CTRL_LOAD t)) fun s => s.tkLoad t
    s.when (goes g (TK.TK_CTRL_CAPTURE t)) fun s => s.capTk t 1
  else if f = 0x0F then s.applyEff (TK.LD_SEC t) 5
  else if f = 0x13 then s.tkIncWritten t
  else if f = 0x18 then s.applyEff (TK.STEP_THR t) 2
  else if f = 0x26 then s.leapCheck t
  else s

/-! ### PTP and ETH -/

/-- A Hildo EtherType that a write may not set (PTP.HILDO_ETYPE). -/
def etypeBad (v : Nat) : Bool :=
  decide (v < 0x0600) || [0x0800, 0x0806, 0x8100, 0x86DD, 0x88F7].contains v

def State.etypeWritten (s o : State) : State :=
  if etypeBad (s.reg PTP.HILDO_ETYPE) then
    let t := s.setReg PTP.HILDO_ETYPE (o.reg PTP.HILDO_ETYPE)
    { t with ptpc := { t.ptpc with etypeErr := true } }
  else { s with ptpc := { s.ptpc with etypeErr := false } }

/-- KEY_CTRL written (R322, R522): COMMIT and ERASE act on the slot the write leaves selected, then a write of SLOT resets
PTR; the shadow follows the bank. -/
def State.keyCtrlWritten (s : State) (m g : Nat) : State :=
  let s := s.when (goes g PTP.KEY_CTRL_COMMIT && decide (s.ptpc.keyBuf.length = 16)) fun s => s.keyCommit.shadowPut
  let s := s.when (goes g PTP.KEY_CTRL_ERASE) fun s => s.keyErase.shadowPut
  s.when (hits m PTP.KEY_CTRL_SLOT) State.keySelect

/-- `w` is the data word under its mask. -/
def hookPtp (o s : State) (a m g w : Nat) : State :=
  if a = PTP.PTP_CTRL then
    s.when (goes g PTP.PTP_CTRL_CNT_CLR) fun s =>
      let t := s.clearRegs [(PTP.MGMT_DROP_CNT, 6), (PTP.TX_SKIP_CNT, 1)]
      { t with ptpc := { t.ptpc with latMax := 0 } }
  else if a = PTP.HILDO_ETYPE then s.etypeWritten o
  else if a = PTP.CLOCK_ID + 3 then s.applyEff PTP.CLOCK_ID 4
  else if a = PTP.DS_SEL then s.dsCopy
  else if a = PTP.KEY_CTRL then s.keyCtrlWritten m g
  else if a = PTP.KEY_DATA then (s.setReg a 0).keyData w
  else s

def hookPti (o s : State) (i f g : Nat) : State :=
  if f = 0 then
    let s := s.when (goes g (PTI.INST_CTRL_CNT_CLR i)) fun s => s.zeroRegs (PTI.GM_CHANGE_CNT i) 1
    let s := s.instReconf i
    s.when (bmcaOn s i != bmcaOn o i) fun s => s.rolesWritten i
  else if f = 1 ∨ f = 2 ∨ f = 10 then s.instReconf i
  else s

/-- NOM_NUM and NOM_DEN of reference 16 + n for the configured speed (R48). -/
def speedNom (speed : Nat) : Nat × Nat :=
  if speed = 0 then (50000000, 3) else if speed = 1 then (25000000, 1) else (31250000, 1)

/-- Hardware fills the nominal of reference 16 + n from the configured speed; a change of it is one under R53 (R48). -/
def State.nomFill (s : State) (n : Nat) : State :=
  let x := speedNom (s.fld (ETH.ETH_CFG_SPEED n))
  let k := 16 + n
  let t := ((s.setWide (INM.NOM_NUM k) 3 x.1).setReg (INM.NOM_DEN k) x.2).applyEff (INM.NOM_NUM k) 4
  if nomNum t k = nomNum s k ∧ nomDen t k = nomDen s k then t else t.nominalChanged k

/-- ETH_CFG written (R48, R81, R290): the port, then its recovered clock's nominal and monitor. -/
def State.ethCfgHook (s o : State) (n : Nat) : State :=
  ((s.ethCfgWritten n (o.reg (ETH.ETH_CFG n))).nomFill n).monReconfig (16 + n)

/-- The instance of port n takes a write that can change it. -/
def State.portReconf (s : State) (n : Nat) : State :=
  let i := (s.ethAt n).inst
  if i < 4 then s.instReconf i else s

def hookEth (o s : State) (n f g : Nat) : State :=
  if f = 0 then s.ethCfgHook o n
  else if f = 3 then
    let s := s.when (goes g (ETH.PORT_CTRL_CNT_CLR n)) fun s => s.zeroRegs (ETH.RX_PTP_CNT n) 22
    let s := s.when (goes g (ETH.PORT_CTRL_PD_RESTART n)) fun s => s.pdRestart n
    let s := s.when (goes g (ETH.PORT_CTRL_SLEEP_REQ n)) fun s => s.sleepReq n
    s.when (goes g (ETH.PORT_CTRL_WAKE_REQ n)) fun s => s.wakeReq n
  else if f = 7 then s.applyEff (ETH.MAC_ADDR n) 3
  else if f = 9 then (s.applyEff (ETH.IP4_ADDR n) 2).portReconf n
  else if f = 0x0B then
    let s := s.portReconf n
    s.when (s.fld (ETH.PORT_CFG_STATIC_ROLE n) != o.fld (ETH.PORT_CFG_STATIC_ROLE n)) fun s =>
      s.rolesWritten (s.ethAt n).inst
  else if f = 0x11 then s.applyEff (ETH.ASYM n) 2
  else s

/-! ### CAP and RING -/

/-- A PEAK record restarts from what is live (R336). -/
def State.capPeakClr (s : State) : State :=
  s.capUp fun c => { c with peak := 0, ring := c.ring.map fun r => { r with peak := 0 } }

def hookCap (s : State) (a g w : Nat) : State :=
  if a = CAP.CAP_CTRL then
    let s := s.when (goes g CAP.CAP_CTRL_CNT_CLR) State.capCntClr
    let s := s.when (goes g CAP.CAP_CTRL_SEQ_CLR) State.capSeqClr
    s.when (goes g CAP.CAP_CTRL_PEAK_CLR) State.capPeakClr
  else if a = CAP.SRC_CFG then (s.setReg a 0).srcCfgWritten w
  else if a = CAP.SRC_DEC then
    match selSrc s with
    | some i => (s.setReg a 1).srcUp i fun c => { c with dec := w }
    | none => s.setReg a 1
  else if a = CAP.SKIP_CNT then
    match selSrc s with
    | some i => (s.setReg a 0).srcUp i fun c => { c with skip := w }
    | none => s.setReg a 0
  else if a = CAP.EXP_DST 0 + 2 then s.applyEff (CAP.EXP_DST 0) 3
  else if a = CAP.EXP_DST 1 + 2 then s.applyEff (CAP.EXP_DST 1) 3
  else s

def hookRing (s : State) (c : Ctx) (k f m g : Nat) : State :=
  if f = 0 then
    let s := s.when (hits m (RING.RCFG_SIZE k) || hits m (RING.RCFG_BASE k)) fun s => s.ringConfig k
    let s := s.when (goes g (RING.RCFG_FLUSH k)) fun s => s.ringFlush k
    s.when (goes g (RING.RCFG_CNT_CLR k)) fun s => s.ringCntClr k
  else if f = 1 then s.wmCheck k
  else if f = 7 then s.when (goes g (RING.RD_CTRL_RD_RESTART k)) fun s => s.ringRestart c k
  else s

/-- Pages 0x20 to 0x3D. -/
def hookHigh (o s : State) (c : Ctx) (a m g w : Nat) : State :=
  if a < 0x2500 then hookOut o s ((a - 0x2000) / 32) (a % 32) m g w
  else if a < 0x2510 then hookOutc s a g
  else if a < 0x2800 then hookPg s ((a - 0x2510) / 16) (a % 16) m g
  else if a < 0x3000 then hookTk o s ((a - 0x2800) / 256) (a % 256) m g
  else if a < 0x3020 then hookPtp o s a m g w
  else if a < 0x3100 then hookPti o s ((a - 0x3020) / 16) (a % 16) g
  else if a < 0x3C00 then hookEth o s ((a - 0x3100) / 256) (a % 256) g
  else if a < 0x3D00 then hookCap s a g w
  else hookRing s c ((a - 0x3D00) / 16) (a % 16) m g

end Sys2Proof.Machine
end

