-- ==== Sys2Proof/Machine/RegWrite.lean ====
section
/-! DEFINITION. A masked write that reaches the register file (12: R389, R390, R405, R411 to R413). -/
namespace Sys2Proof.Machine

/-- IN_DELAY of a tracker applies at the first epoch close at least one cycle later (R112); tracker 24 adds it to D_UP at the
close (R371). -/
def State.inDelayWritten (s : State) (k : Nat) : State :=
  let v := toSigned 16 (s.reg (TRK.IN_DELAY k))
  s.trkUp k fun t => { t with delayNext := if k < 24 then v else t.delayNext, delayAt := s.now }

/-- The own-context window (R414): each accessor has its own; TXN_SEC and TXN_NS come into force when their highest
register is written (R425).  Go bits are not kept here. -/
def State.windowWrite (s : State) (c : Ctx) (a mask data : Nat) : State :=
  let w := Nat.land mask (typeMask FType.kept a)
  let old := ((txnAt s c).win.get a).toNat
  let new := Nat.lor (without old w) (Nat.land data w)
  let s := s.txnUp c fun x => { x with win := x.win.set a (BitVec.ofNat 16 new) }
  let apply := fun (lo n : Nat) (x : TxnCtx) =>
    { x with winEff := (List.range n).foldl (fun r i => r.set (lo + i) (x.win.get (lo + i))) x.winEff }
  if a = REG.TXN_SEC + 2 then s.txnUp c (apply REG.TXN_SEC 3)
  else if a = REG.TXN_NS + 1 then s.txnUp c (apply REG.TXN_NS 2)
  else s

/-- Address of the own-context window (R414). -/
def inOwn (a : Nat) : Bool := decide (0x0220 ≤ a) && decide (a ≤ 0x022B)

/-- Halfword i of the page buffer: what it shows takes the masked data (R444). -/
def State.bufWrite (s : State) (c : Ctx) (a mask data : Nat) : State :=
  s.bufPut (a - NVS.PAGE_BUF 0) (Nat.lor (without (readPlain s c a) mask) (Nat.land data mask))

/-- The BIST units whose test takes the block of a register out of service (R420, R497). -/
def unitsAt (s : State) (a : Nat) : List Nat :=
  if 0x0200 ≤ a ∧ a < 0x0300 then [45]
  else if 0x0800 ≤ a ∧ a < 0x0E00 then [13 + (a - 0x0800) / 256]
  else if 0x0E00 ≤ a ∧ a < 0x0F00 then [43]
  else if 0x0F00 ≤ a ∧ a < 0x1000 then [41, 42]
  else if 0x1000 ≤ a ∧ a < 0x1800 then [43]
  else if 0x1800 ≤ a ∧ a < 0x2000 then [19 + (a - 0x1800) / 256, 26 + (a - 0x1800) / 256]
  else if 0x2000 ≤ a ∧ a < 0x2500 then (let k := outSyn s ((a - 0x2000) / 32); if k < 6 then [19 + k] else [])
  else if 0x2500 ≤ a ∧ a < 0x3000 then [43]
  else if 0x3100 ≤ a ∧ a < 0x3C00 then [33 + (a - 0x3100) / 256]
  else if 0x3C00 ≤ a then [43]
  else []

/-- The block of a register is under self-test: a write reaches its datapath when it rejoins (R405).  The capture sources behind
SRC_SEL are themselves registers. -/
def outOfService (s : State) (a : Nat) : Bool :=
  decide (0x0800 ≤ a) && !(decide (CAP.SRC_CFG ≤ a) && decide (a ≤ CAP.SKIP_CNT)) && (unitsAt s a).any s.testing

/-- A stored word reaches its target: what the block does with it, from the state `o` before the write. -/
def State.reachBlock (t o : State) (c : Ctx) (a mask g w : Nat) : State :=
  if a < 0x0800 then hookLow o t a mask g
  else if 0x0E30 ≤ a ∧ a < 0x0E49 then t.inDelayWritten (a - 0x0E30)
  else if a < 0x2000 then hookMid o t a mask g
  else hookHigh o t c a mask g w

/-- A write to a block under self-test waits for its rejoin (R405). -/
def State.holdWrite (s : State) (x : LateWrite) : State := { s with acc := { s.acc with late := s.acc.late ++ [x] } }

/-- One write that waited: it reaches its block if the block is in service again. -/
def State.lateOne (s : State) (x : LateWrite) : State :=
  if outOfService s x.addr then s.holdWrite x else s.reachBlock (s.setReg x.addr x.old) x.ctx x.addr x.mask x.go x.word

/-- The writes that waited for a rejoin, in their order (R405). -/
def State.lateSweep (s : State) : State :=
  s.acc.late.foldl State.lateOne { s with acc := { s.acc with late := [] } }

/-- A write that no lock refuses, to a mapped register with a mask that is not zero: the word, then what the block does. -/
def State.writeThrough (s : State) (c : Ctx) (a mask data : Nat) : State :=
  if inOwn a then s.windowWrite c a mask data
  else if 0x0420 ≤ a ∧ a < 0x0460 then s.bufWrite c a mask data
  else
    let wm := Nat.land mask (writeMask s a)
    let w := Nat.lor (without (readPlain s c a) wm) (Nat.land data wm)
    let t := hookClass s (s.storeWord a mask data) a (Nat.land mask data)
    let g := Nat.land mask data
    if outOfService s a then t.holdWrite ⟨c, a, mask, g, w, s.reg a⟩ else t.reachBlock s c a mask g w

/-- The results of STATUS (R395) in their order of precedence: 0 OK, 4 UNMAPPED, 3 REFUSED_LOCK, 5 TXN_ERR. -/
def resRank (r : Nat) : Nat := if r = 5 then 3 else if r = 3 then 2 else if r = 4 then 1 else 0

def worse (a b : Nat) : Nat := if resRank a < resRank b then b else a

/-- STORE written 1 in END, where the write meets the lock: STORE_RES reports it (R440). -/
def State.storeRefused (s : State) (a go : Nat) : State :=
  if a = CFG.CFG_CTRL ∧ goes go CFG.CFG_CTRL_STORE ∧ lcState s = .ended then s.storeEnd 6 else s

/-- A masked write takes its place among the writes of its register-file cycle: bits that a writer later in the order of
R406 has written stay, and hardware-owned bits that hardware has changed are lost (R410). -/
def State.land (s : State) (rank : Nat) (c : Ctx) (a mask data : Nat) : State :=
  if inOwn a then s.writeThrough c a mask data
  else
    let m := without mask (priorMask s rank a)
    if m = 0 then s
    else
      let t := (s.noteLost a (lostMask s a m)).unfix a m
      (t.writeThrough c a m data).noteWrite rank a m (Nat.land m data)

/-- A write of a rank in the order of R406: its RESULT and the state. -/
def State.writeRanked (s : State) (rank : Nat) (c : Ctx) (a mask data : Nat) : Nat × State :=
  let mask := mask % 65536
  let data := data % 65536
  if mask = 0 then (0, s)
  else if ¬ mapped a then (4, s.accUnmapped c a false)
  else
    match lockOf s c a mask data with
    | some cause => (3, (s.storeRefused a (Nat.land mask data)).accRefuse c a cause)
    | none => (0, s.land rank c a mask data)

/-- A direct write: its RESULT and the state. -/
def State.writePlain (s : State) (c : Ctx) (a mask data : Nat) : Nat × State := s.writeRanked (rankOf c) c a mask data

end Sys2Proof.Machine
end

