-- ==== Sys2Proof/Machine/Txn.lean ====
section
/-! DEFINITION. Staging of writes, the checks and the application of a transaction, and direct writes with the transactions
that an update strobe applies (12: R405, R406, R416, R419, R420; 06: R207). -/
namespace Sys2Proof.Machine

/-- The CRC-8 kept with a staged entry: over address, mask and data, high bytes first (R416). -/
def entryCrc (a mask data : Nat) : Nat := crc8 (bytesBE 2 a ++ bytesBE 2 mask ++ bytesBE 2 data)

/-- A write while the context has a transaction open (R416): its RESULT, whether it was staged, and the state. -/
def State.stage (s : State) (c : Ctx) (a mask data : Nat) : Nat × Bool × State :=
  let mask := mask % 65536
  let data := data % 65536
  if mask = 0 then (0, false, s)
  else if ¬ mapped a then (4, false, s.accUnmapped c a false)
  else if (lockOf s c a mask data).isSome then
    (3, false, (s.accRefuse c a 4).txnUp c fun x => { x with doomLock := true })
  else if 256 ≤ (txnAt s c).entries.length then (5, false, s.txnUp c fun x => { x with doomOvf := true })
  else (0, true, s.txnUp c fun x => { x with entries := x.entries ++ [⟨a, mask, data, entryCrc a mask data⟩] })

/-! ### The checks at the point (R419, R420) -/

def underTest (s : State) (es : List Entry) : Bool := es.any fun e => (unitsAt s e.addr).any s.testing

def crcBad (es : List Entry) : Bool := es.any fun e => e.crc != entryCrc e.addr e.mask e.data

/-- The first staged entry whose field is locked now. -/
def lockedEntry (s : State) (c : Ctx) (es : List Entry) : Option Entry :=
  es.find? fun e => (lockOf s c e.addr e.mask e.data).isSome

/-- The checks in the order of R420: the result that aborts the transaction, or none. -/
def applyCheck (s : State) (c : Ctx) (es : List Entry) (at' arg : Nat) : Option Nat :=
  if (lockedEntry s c es).isSome then some 4
  else if crcBad es then some 5
  else if underTest s es then some 6
  else if (badSyn s es at' arg).isSome then some 7
  else none

/-- What an abort does beside its result: a lock found at application is captured (R420), a synthesiser's abort is counted
(R220). -/
def State.checkNote (s : State) (c : Ctx) (es : List Entry) (at' arg res : Nat) : State :=
  if res = 4 then
    match lockedEntry s c es with
    | some e => s.accRefuse c e.addr 5
    | none => s
  else if res = 7 then
    match badSyn s es at' arg with
    | some k => s.synAbort k
    | none => s
  else s

/-! ### Application and direct writes -/

/-- The synthesiser whose update strobe a write is (R205), if it is one. -/
def strobeOf (a mask data : Nat) : Option Nat :=
  if 0x1800 ≤ a ∧ a < 0x1F00 ∧ a % 256 = 0 ∧ goes (Nat.land mask data) (SYN.CTRL_UPDATE ((a - 0x1800) / 256)) then
    some ((a - 0x1800) / 256)
  else none

/-- The wait slots that a write's strobe is the point of (R417, AT 4). -/
def strobeSlots (s : State) (c : Ctx) (a mask data : Nat) : List Nat :=
  match strobeOf a mask data with
  | none => []
  | some k =>
    if (lockOf s c a mask data).isSome then []
    else (List.range 4).filter fun w => (slotOf s w).busy && (slotOf s w).at' == 4 && (slotOf s w).arg == k

/-- A transaction's point has come: the checks, then every entry in staging order, or none (R419, R420).  An entry that
is itself an update strobe first applies the transactions that wait for it (R207), at most `fuel` deep. -/
def State.applyEntries : Nat → State → Ctx → Nat → Nat → List Entry → Nat → Nat → State
  | 0, s, _, _, _, _, _, _ => s
  | fuel + 1, s, c, id, slot, es, at', arg =>
    match applyCheck s c es at' arg with
    | some res => (s.checkNote c es at' arg res).txnEnd c id res slot es.length
    | none =>
      let strobed := fun (t : State) (w : Nat) =>
        let x := slotOf t w
        State.applyEntries fuel (t.slotUp w fun _ => WaitSlot.reset) x.ctx x.id w x.entries x.at' x.arg
      let one := fun (t : State) (e : Entry) =>
        (((strobeSlots t c e.addr e.mask e.data).foldl strobed t).writeRanked 0 c e.addr e.mask e.data).2
      (es.foldl one s).txnEnd c id 1 slot es.length

/-- The waiting transaction of slot w is applied, or aborted by a check. -/
def State.slotApply (s : State) (w : Nat) : State :=
  let x := slotOf s w
  State.applyEntries 5 (s.slotUp w fun _ => WaitSlot.reset) x.ctx x.id w x.entries x.at' x.arg

/-- A direct write (R405): its RESULT and the state.  An update strobe carries the transactions that wait for it (R207,
R406). -/
def State.writeNow (s : State) (c : Ctx) (a mask data : Nat) : Nat × State :=
  ((strobeSlots s c a mask data).foldl State.slotApply s).writePlain c a mask data

end Sys2Proof.Machine
end

