-- ==== Sys2Proof/Machine/Bcast.lean ====
section
/-! DEFINITION. The broadcast transaction over the cascade (11: R378 to R383): the command channel, the acting master, the
slaves, the commit instant. -/
namespace Sys2Proof.Machine

/-! ### Chain instants (R364, R379) -/

/-- The signed number of frames from frame n to frame f (R365). -/
def frameDist (n f : Nat) : Int :=
  if frameAhead n f then ((f + frameMod - n % frameMod) % frameMod : Nat) else -((n + frameMod - f % frameMod) % frameMod : Nat)

/-- This module's chain instant of frame f in ps, from the last frame known here. -/
def chainAt (s : State) (f : Nat) : Option Int :=
  if s.cas.isMaster then
    s.cas.gone.head?.map fun x => (x.2 : Int) + frameDist x.1 f * 1000000
  else s.cas.rxFrame.map fun x => (x.2 : Int) - s.cas.dUp + frameDist x.1 f * 1000000

/-- F_a for a commit accepted in frame n (R379). -/
def applyFrame (s : State) (n : Nat) : Nat :=
  (n + 25 * max 1 (s.fld CAS.CAS_CFG2_LEAD) + 24) / 25 * 25 % frameMod

/-- A second of domain d's timebase in ps with the fraction of R156. -/
def secF : Int := 1000000000000 * 2 ^ 40

/-- Domain d's timebase at an MTB instant in ps. -/
def domTimeF (s : State) (d : Nat) (inst : Int) : Int := inst * 2 ^ 40 + (s.domAt d).phaseF

/-- The time keeper's time at an MTB instant in ps, possibly ahead. -/
def tkTimeAt (s : State) (t : Nat) (inst : Int) : Int :=
  let k := s.tkAt t
  k.time + ((inst - (s.now / 2 * 2000 : Nat)) * k.pace).fdiv 2000

/-- The TK time of a commit, in 2^-80 ns. -/
def commitTime (sec ns : Nat) : Int := ((sec * 1000000000 + ns) * 2 ^ 80 : Nat)

/-- Frame index of generator p nearest to a time-keeper time. -/
def nearFrame (g : Pg) (time : Int) : Int :=
  let k := { g with after := time }.nextK
  if time - g.edge (k - 1) ≤ g.edge k - time then k - 1 else k

/-- F_x: the frame that contains the master's first occurrence at or after its chain instant F_a (R379). -/
def occurFrame (s : State) (kind arg fa : Nat) : Nat :=
  match chainAt s fa with
  | none => fa
  | some a =>
    let off : Int :=
      if kind = 1 then
        let t := domTimeF s arg a
        (-((-t).fdiv secF) * secF - t).fdiv (1000000 * 2 ^ 40)
      else if kind = 2 then
        let g := s.pgAt arg
        let t := tkTimeAt s (pgTk s arg) a
        (g.edge { g with after := t - 1 }.nextK - t).fdiv (1000 * 2 ^ 80)
      else 0
    ((fa : Int) + off).toNat % frameMod

/-! ### Messages (R380) -/

def message (kind : Nat) (body : List Byte) : List Byte :=
  let m := BitVec.ofNat 8 kind :: bytesLE 2 body.length ++ body
  m ++ [BitVec.ofNat 8 (crc8 m)]

def entryBytes (e : Entry) : List Byte :=
  bytesLE 2 e.addr ++ bytesLE 2 e.mask ++ bytesLE 2 e.data ++ [BitVec.ofNat 8 e.crc, 0]

/-- BCAST. -/
def bcastBody (b : Bcast) (id : Nat) (es : List Entry) : List Byte :=
  let arg := if b.kind = 3 then BitVec.ofNat 8 b.arg :: bytesLE 6 b.sec ++ bytesLE 4 b.ns
    else BitVec.ofNat 8 b.arg :: bytesLE 4 b.fx ++ List.replicate 6 0
  [BitVec.ofNat 8 id] ++ bytesLE 4 b.fa ++ [BitVec.ofNat 8 b.kind] ++ arg ++ bytesLE 2 es.length ++ es.flatMap entryBytes

/-- The complete messages at the head of a byte stream: their kinds and bodies, how many failed their CRC, and the rest. -/
def parseCmds : Nat → List Byte → List (Nat × List Byte) × Nat × List Byte
  | 0, bs => ([], 0, bs)
  | n + 1, bs =>
    match bs with
    | [] => ([], 0, [])
    | k :: t =>
      if k = 0 then parseCmds n t
      else
        let len := natLE (t.take 2)
        if bs.length < len + 4 then ([], 0, bs)
        else
          let m := bs.take (3 + len)
          let r := parseCmds n (bs.drop (len + 4))
          if crc8 m = (bs.getD (3 + len) 0).toNat then ((k.toNat, m.drop 3) :: r.1, r.2.1, r.2.2)
          else (r.1, r.2.1 + 1, r.2.2)

/-- The entries of a BCAST body. -/
def entriesOf : Nat → List Byte → List Entry
  | 0, _ => []
  | n + 1, bs => ⟨natLE (bs.take 2), natLE ((bs.drop 2).take 2), natLE ((bs.drop 4).take 2), (bs.getD 6 0).toNat⟩ ::
      entriesOf n (bs.drop 8)

def State.sendDown (s : State) (kind : Nat) (body : List Byte) : State :=
  s.casUp fun c => { c with fwdOut := c.fwdOut ++ message kind body }

def State.sendUp (s : State) (kind : Nat) (body : List Byte) : State :=
  s.casUp fun c => { c with retOut := c.retOut ++ message kind body }

/-! ### The acting master (R378, R379, R381) -/

/-- PRESENT_SUM: positions that reported within the last 40 epochs. -/
def presentSum (s : State) : Nat := bitsOf (readPlain s .cas CAS.PRESENT_SUM) 7 1 * 2

/-- The master aborts its broadcast: the slaves are told, the transaction ends with `res`, LAST_RESULT is `result`. -/
def State.bcRefuse (s : State) (cause result res : Nat) : State :=
  (s.sendDown 4 (bytesLE 4 s.cas.bc.fa ++ [BitVec.ofNat 8 cause])).bcAbort result res

/-- GO, once every present position is ready before frame F_a − 20 (R381). -/
def State.bcGo (s : State) : State :=
  let b := s.cas.bc
  if b.st = 1 ∧ s.cas.isMaster ∧ Nat.land (presentSum s) b.ready = presentSum s ∧
      ¬ frameAhead ((b.fa + frameMod - 20) % frameMod) s.cas.frameNo then
    (s.casUp fun c => { c with bc := { c.bc with st := 3 } }).sendDown 3 (bytesLE 4 b.fa)
  else s

/-- A transaction committed through a host interface is broadcast (R378): on the acting master with BCAST at ALL, no CONFLICT
(R377) and a DN end that runs (DESIGN CHOICE, log entry 51). -/
def bcWanted (s : State) (c : Ctx) : Bool :=
  (c == .spi || c == .i2c || c == .hildo) && s.cas.isMaster && s.fld CAS.CAS_CFG_BCAST == 1 && dnOn s && !s.cas.conflict

/-- The broadcast begins: the transaction waits in slot w, BCAST goes down the chain.  A TK time before the master's chain
instant F_a aborts it as late (R379). -/
def State.bcStart (s : State) (w : Nat) : State :=
  let x := slotOf s w
  let fa := applyFrame s s.cas.frameNo
  let b : Bcast := ⟨1, fa, x.at', x.arg, occurFrame s x.at' x.arg fa, x.sec, x.ns, w, 0, s.cas.bc.result, false⟩
  let s := (s.slotUp w fun y => { y with bc := true, timeout := 0 }).casUp fun c => { c with bc := b }
  let late := x.at' == 3 && match chainAt s fa with
    | some a => decide (commitTime x.sec x.ns < tkTimeAt s x.arg a)
    | none => false
  if late then s.bcAbort 2 2 else (s.sendDown 1 (bcastBody b x.id x.entries)).bcGo

/-- BCAST_DEADLINE: frame F_a − 20 passes without GO. -/
def State.bcDeadline (s : State) : State :=
  let b := s.cas.bc
  if b.st = 1 ∧ frameAhead ((b.fa + frameMod - 20) % frameMod) s.cas.frameNo then s.bcRefuse 5 2 2 else s

/-- LAST_RESULT and the transaction's result for a READY status or an ABORT cause. -/
def bcCodes (cause : Nat) : Nat × Nat :=
  if cause = 1 then (3, 3) else if cause = 2 then (5, 5) else if cause = 3 then (4, 6) else if cause = 4 then (4, 4) else (2, 2)

/-- READY reaches the master. -/
def State.bcReady (s : State) (body : List Byte) : State :=
  let p := (body.getD 0 0).toNat
  let st := (body.getD 5 0).toNat
  if s.cas.bc.st ≠ 1 ∨ ¬ s.cas.isMaster ∨ natLE ((body.drop 1).take 4) ≠ s.cas.bc.fa then s
  else if st = 0 then
    (s.casUp fun c => { c with bc := { c.bc with ready := Nat.lor c.bc.ready (2 ^ (p % 8)) } }).bcGo
  else s.bcRefuse st (bcCodes st).1 (bcCodes st).2

/-! ### The slaves (R381) -/

/-- The status of READY: 0 ready, 1 staging overflow, 2 CRC mismatch, 3 target under test, 4 lock violation. -/
def readyStatus (s : State) (es : List Entry) : Nat :=
  if s.cas.bc.st ≠ 0 ∨ ((List.range 4).all fun w => (slotOf s w).busy) then 1
  else if crcBad es then 2
  else if underTest s es then 3
  else if (lockedEntry s .cas es).isSome then 4
  else 0

def freeSlot (s : State) : Option Nat := (List.range 4).find? fun w => !(slotOf s w).busy

/-- BCAST reaches a slave: it is staged and answered. -/
def State.bcTake (s : State) (body : List Byte) : State :=
  let g := fun (lo n : Nat) => natLE ((body.drop lo).take n)
  let es := entriesOf (g 17 2) (body.drop 19)
  let kind := g 5 1
  let st := readyStatus s es
  let w := if st = 0 then (freeSlot s).getD 4 else 4
  let b : Bcast := ⟨2, g 1 4, kind, g 6 1, g 7 4, if kind = 3 then g 7 6 else 0, if kind = 3 then g 13 4 else 0, w, 0,
    s.cas.bc.result, false⟩
  let s := if s.cas.bc.st = 0 then s.casUp fun c => { c with bc := b } else s
  let s := s.slotUp w fun _ => ⟨true, .cas, kind, b.arg, g 0 1, es, s.now, 0, b.sec, b.ns, false, true⟩
  s.sendUp 2 ([BitVec.ofNat 8 s.cas.pos] ++ bytesLE 4 (g 1 4) ++ [BitVec.ofNat 8 st])

/-- GO and ABORT reach a slave. -/
def State.bcForward (s : State) (m : Nat × List Byte) : State :=
  let fa := natLE (m.2.take 4)
  if m.1 = 1 then s.bcTake m.2
  else if s.cas.bc.st = 0 ∨ fa ≠ s.cas.bc.fa then s
  else if m.1 = 3 then
    if s.cas.bc.st = 2 ∧ s.cas.bc.slot < 4 then s.casUp fun c => { c with bc := { c.bc with st := 3 } } else s
  else if m.1 = 4 then
    let r := bcCodes (m.2.getD 4 0).toNat
    s.bcAbort r.1 r.2
  else s

/-! ### The two lanes: a frame's content acts two frames later (R366) -/

/-- Frames whose turn to act has come when frame n passes. -/
def turned (n : Nat) (l : List (Nat × List Byte)) : List (Nat × List Byte) × List (Nat × List Byte) :=
  (l.filter (fun x => frameAhead ((x.1 + 2) % frameMod) n), l.filter (fun x => !frameAhead ((x.1 + 2) % frameMod) n))

/-- The forward lane at frame n, on a slave. -/
def State.feedDown (s : State) (n : Nat) : State :=
  let t := turned n s.cas.fwdHold
  let bs := s.cas.fwdIn ++ t.1.flatMap (·.2)
  let p := parseCmds (bs.length + 1) bs
  let s := s.casUp fun c => { c with fwdHold := t.2, fwdIn := p.2.2 }
  let s := s.setReg CAS.CMD_ERR_CNT (satNat 16 (s.reg CAS.CMD_ERR_CNT + p.2.1))
  if s.cas.role = 2 then p.1.foldl State.bcForward s else s

/-- The return lane at frame n, on the acting master. -/
def State.feedUp (s : State) (n : Nat) : State :=
  let t := turned n s.cas.retHold
  let bs := if s.cas.isMaster then s.cas.retIn ++ t.1.flatMap (·.2) else []
  let p := parseCmds (bs.length + 1) bs
  let s := s.casUp fun c => { c with retHold := t.2, retIn := p.2.2 }
  let s := s.setReg CAS.CMD_ERR_CNT (satNat 16 (s.reg CAS.CMD_ERR_CNT + p.2.1))
  p.1.foldl (fun t m => if m.1 = 2 then t.bcReady m.2 else t) s

/-- CAS_CHAIN_INSTANT: what the slaves sent acts, then the marker and frame leave (R364, R366). -/
def State.chainInstant (s : State) (stamp : Nat) : State :=
  if dnOn s then
    let n := chainNo s stamp
    ((s.feedUp n).bcGo).forwardSend n stamp
  else s

/-- CAS_FORWARD_FRAME: the frame, the commands whose turn has come, and the return frame. -/
def State.takeFrame (s : State) (stamp : Nat) (bs : List Byte) : State :=
  let r := s.forwardFrame stamp bs
  match r.2 with
  | none => r.1
  | some n => (r.1.feedDown n).returnFrame n

/-! ### The commit instant (R379, R382) -/

/-- This module's commit instant has come. -/
def bcDue (s : State) : Bool :=
  let b := s.cas.bc
  if b.kind = 3 then (s.tkAt b.arg).st != .stopped && decide (commitTime b.sec b.ns ≤ (s.tkAt b.arg).time)
  else match chainAt s (if b.kind = 0 then b.fa else b.fx) with
    | none => false
    | some a =>
      if b.kind = 0 then decide (a ≤ (s.now * 1000 : Nat))
      else if b.kind = 1 then
        let k := (domTimeF s b.arg a + secF / 2).fdiv secF
        decide (k * secF ≤ domTimeF s b.arg (s.now * 1000 : Nat))
      else
        let g := s.pgAt b.arg
        decide (g.edge (nearFrame g (tkTimeAt s (pgTk s b.arg) a)) ≤ (s.tkAt (pgTk s b.arg)).time)

/-- BCAST_APPLY: holding GO, the transaction is applied; without it the broadcast is aborted as late (R381 to R383). -/
def State.bcApply (s : State) : State :=
  let b := s.cas.bc
  if b.st = 0 ∨ ¬ bcDue s then s
  else if b.st = 3 then
    let x := slotOf s b.slot
    let ok := applyCheck s x.ctx x.entries 0 0
    let s := s.slotApply b.slot
    match ok with
    | none => s.bcEnd 1
    | some r => (s.flag CAS.CAS_EVT_BCAST_SPLIT).bcEnd (if r = 5 then 5 else 4)
  else if b.st = 1 then s.bcRefuse 5 2 2
  else
    let split := s.cas.up != 2 || b.cut
    let s := s.bcAbort 2 2
    if split then s.flag CAS.CAS_EVT_BCAST_SPLIT else s

/-- A waiting transaction ends unapplied: the broadcast it belongs to ends with it. -/
def State.slotEnd (s : State) (w res : Nat) : State :=
  if (slotOf s w).bc ∧ s.cas.bc.st ≠ 0 then
    let armed := s.cas.bc.st == 3
    let s := if s.cas.bc.st = 1 then s.bcRefuse 5 2 res else s.bcAbort 2 res
    if armed then s.flag CAS.CAS_EVT_BCAST_SPLIT else s
  else s.slotAbort w res

/-- Waiting transactions that target an UNLOCKED synthesiser abort with SYNTH_UNLOCKED (R220, R420). -/
def State.txnSweep (s : State) : State :=
  (List.range 4).foldl (fun t w =>
    let x := slotOf t w
    if x.busy then
      match badSyn t x.entries x.at' x.arg with
      | some k => (t.slotEnd w 7).synAbort k
      | none => t
    else t) s

end Sys2Proof.Machine
end

