-- ==== Sys2Proof/Machine/TxnCtl.lean ====
section
/-! DEFINITION. Transaction control and the writes of one register-file cycle (12: R397, R405, R415 to R418, R421, R422). -/
namespace Sys2Proof.Machine

/-- A word of the context's own window (R414). -/
def winWord (s : State) (c : Ctx) (a : Nat) : Nat := ((txnAt s c).win.get a).toNat

/-- A multi-register value of the window in force (R425). -/
def winWide (s : State) (c : Ctx) (a n : Nat) : Nat :=
  (List.range n).foldl (fun v i => v + ((txnAt s c).winEff.get (a + i)).toNat * 65536 ^ i) 0

/-- AT or ARG out of range, or for AT 3 a TXN_NS of 10⁹ or more: TXN_ERR (R417). -/
def commitBad (at' arg ns : Nat) : Bool :=
  decide (5 ≤ at') || (at' == 1 && decide (6 ≤ arg)) || (at' == 3 && (decide (4 ≤ arg) || decide (1000000000 ≤ ns))) ||
    (at' == 4 && decide (7 ≤ arg))

/-- The commit point cannot come (R418): the generator is not RUNNING or ARMED, the time keeper is STOPPED or past. -/
def pointGone (s : State) (at' arg sec ns : Nat) : Bool :=
  if at' = 2 then (s.pgAt arg).st == .idle
  else if at' = 3 then (s.tkAt arg).st == .stopped || decide (commitTime sec ns < (s.tkAt arg).time)
  else false

/-- The whole second of domain d's timebase (R417, R237). -/
def domSec (s : State) (d : Nat) : Int := (domTimeF s d (s.now * 1000 : Nat)).fdiv secF

/-- COMMIT of the open transaction (R417, R418, R420): its RESULT of STATUS, and the state. -/
def State.commit (s : State) (c : Ctx) : Nat × State :=
  let x := txnAt s c
  let at' := bitsOf (winWord s c REG.TXN_CTRL) 12 10
  let arg := bitsOf (winWord s c REG.TXN_CTRL) 9 7
  let sec := winWide s c REG.TXN_SEC 3
  let ns := winWide s c REG.TXN_NS 2
  let cast := bcWanted s c && decide (at' < 4)
  let slotted := cast || decide (1 ≤ at')
  if commitBad at' arg ns then (5, s)
  else if x.doomOvf ∨ (slotted ∧ (freeSlot s).isNone) ∨ (cast ∧ s.cas.bc.st ≠ 0) then (0, s.openAbort c 3)
  else if x.doomLock then (0, s.openAbort c 4)
  else match badSyn s x.entries at' arg with
    | some k => (0, (s.openAbort c 7).synAbort k)
    | none =>
      if pointGone s at' arg sec ns then (0, s.openAbort c 2)
      else
        let s := if at' = 4 ∧ bcWanted s c then s.casUp fun k => { k with bc := { k.bc with result := 6 } } else s
        let t := s.txnUp c TxnCtx.close
        if slotted then
          let w := (freeSlot s).getD 0
          let base : Nat := if at' = 1 then (domSec s arg + 1).toNat else sec
          let t := t.slotUp w fun _ =>
            ⟨true, c, at', arg, x.id, x.entries, s.now, winWord s c REG.TXN_TIMEOUT, base, ns, false, false⟩
          (0, if cast then t.bcStart w else t)
        else (0, State.applyEntries 5 t c x.id 7 x.entries 0 0)

/-- TXN_CTRL written with these go bits, after the other writes of its cycle (R415, R417, R421). -/
def State.control (s : State) (c : Ctx) (g : Nat) : Nat × State :=
  let x := txnAt s c
  let isOpen := goes g REG.TXN_CTRL_OPEN
  let isCommit := goes g REG.TXN_CTRL_COMMIT
  if goes g REG.TXN_CTRL_ABORT then (if x.isOpen then (0, s.openAbort c 8) else (5, s))
  else
    let err := if isOpen && x.isOpen then 5 else 0
    let s := if isOpen && !x.isOpen then
        let id := winWord s c REG.TXN_ID
        s.txnUp c fun y => { y.close with isOpen := true, id := id, staged := 0 }
      else s
    if isCommit then
      if (txnAt s c).isOpen then
        let r := s.commit c
        (worse err r.1, r.2)
      else (5, s)
    else (err, s)

/-! ### The writes of one register-file cycle -/

/-- One write of a cycle: `acc` holds the worst RESULT, whether a write was staged, the go bits written to TXN_CTRL, and the
state. -/
def oneWrite (c : Ctx) (open' : Bool) (acc : Nat × Bool × Nat × State) (w : Nat × Nat × Nat) : Nat × Bool × Nat × State :=
  if inOwn w.1 then
    let r := acc.2.2.2.writePlain c w.1 w.2.1 w.2.2
    let g := if w.1 = REG.TXN_CTRL ∧ r.1 = 0 then Nat.land (w.2.1 % 65536) (w.2.2 % 65536) else 0
    (worse acc.1 r.1, acc.2.1, Nat.lor acc.2.2.1 g, r.2)
  else if open' then
    let r := acc.2.2.2.stage c w.1 w.2.1 w.2.2
    (worse acc.1 r.1, acc.2.1 || r.2.1, acc.2.2.1, r.2.2)
  else
    let r := acc.2.2.2.writeNow c w.1 w.2.1 w.2.2
    (worse acc.1 r.1, acc.2.1, acc.2.2.1, r.2)

/-- The writes that an interface presents in one cycle, each address with its mask and data (R397, R405): the RESULT, the
STAGED bit of STATUS, the state.  TXN_CTRL acts last (R415).  Context 4 is driven by the CAS block alone (R414). -/
def State.cycleWrites (s : State) (c : Ctx) (ws : List (Nat × Nat × Nat)) : Nat × Bool × State :=
  let r := ws.foldl (oneWrite c (txnAt s c).isOpen) (0, false, 0, s)
  if r.2.2.1 / 8192 = 0 then (r.1, r.2.1, r.2.2.2)
  else
    let k := r.2.2.2.control c r.2.2.1
    (worse r.1 k.1, r.2.1, k.2)

/-- One write command: a masked write from an interface or the sequencer. -/
def State.write (s : State) (c : Ctx) (a mask data : Nat) : State :=
  if c = .cas then s else (s.cycleWrites c [(a, mask, data)]).2.2

/-! ### The point of a waiting transaction (R417, R418) -/

/-- Its point has come: the second of the domain's timebase after the one of the commit (`sec` is its number), the next frame edge,
the TK time.  The strobe of AT 4 applies in the write of UPDATE itself, a broadcast at BCAST_APPLY. -/
def pointCome (s : State) (x : WaitSlot) : Bool :=
  !x.bc &&
    (if x.at' = 1 then decide ((x.sec : Int) ≤ domSec s x.arg)
     else if x.at' = 2 then x.hit
     else if x.at' = 3 then (s.tkAt x.arg).st != .stopped && decide (commitTime x.sec x.ns ≤ (s.tkAt x.arg).time)
     else false)

/-- TXN_APPLY. -/
def State.txnApply (s : State) (w : Nat) : State :=
  let x := slotOf s w
  if x.busy ∧ pointCome s x then s.slotApply w else s

/-- TXN_LATE (R418): the timeout of a transaction whose point has not come, or a generator that stopped. -/
def State.txnLate (s : State) (w : Nat) : State :=
  let x := slotOf s w
  let gone := x.at' == 2 && (s.pgAt x.arg).st == .idle
  let timedOut := !x.bc && decide (0 < x.timeout) && decide (x.came + x.timeout * 1000000 ≤ s.now)
  if x.busy ∧ ¬ pointCome s x ∧ (gone || timedOut) then s.slotEnd w 2 else s

/-- A frame edge of generator p is the point of the transactions that wait for it (R417). -/
def State.frameHit (s : State) (p : Nat) : State :=
  (List.range 4).foldl (fun t w =>
    t.slotUp w fun x => if x.busy && x.at' == 2 && x.arg == p && !x.bc then { x with hit := true } else x) s

end Sys2Proof.Machine
end

