-- ==== Sys2Proof/Machine/CfgLoad.lean ====
section
/-! DEFINITION. The configuration image: its header, records, persist map and patch, the two passes of a load, and the NVS
step that ends it (13: R426 to R434, R445). -/
namespace Sys2Proof.Machine

/-! ### Registers and blocks at their reset values (R14) -/

/-- The ACTIVE bank as a start loads it: in force at once, and no change in the sense of R174 (R173; log entry 22). -/
def State.activeLoad (s : State) (w : Nat → Nat) : State :=
  ((List.range 32).foldl (fun t i => t.setReg (0x0720 + i) (w i)) s).applyEff 0x0720 32

/-- Every register at its reset word; the FACTORY bank and the block-protect value are held outside the registers (R173,
R443), and ACTIVE is FACTORY until an NVS model replaces it. -/
def State.regsReset (s : State) : State :=
  let t := ({ s with regs := s.regs.filter (fun x => decide (0x0740 ≤ x.1) && decide (x.1 < 0x0760)), eff := [] }).setFld
    NVS.PROTECT_BP s.nvs.bp
  t.activeLoad fun i => t.reg (0x0740 + i)

/-- Every block that the registers configure is at its reset state. -/
def State.blocksReset (s : State) : State :=
  { s with
    mon := Vector.replicate 24 Monitor.reset, tod := Tod.reset, trk := Vector.replicate 25 Tracker.reset,
    coll := Collector.reset, dom := Vector.replicate 6 Domain.reset, good := Vector.replicate 33 none,
    syn := Vector.replicate 7 Synth.reset, outs := Vector.replicate 40 Output.reset, pg := Vector.replicate 8 Pg.reset,
    tk := Vector.replicate 4 TimeKeeper.reset, eth := Vector.replicate 8 EthPort.reset,
    ptp := Vector.replicate 4 PtpInst.reset, ptpc := PtpCommon.reset, cap := Capture.reset, cas := Cas.reset }

/-! ### The image (R428) -/

/-- Byte i of what a pass read; an address that the flash does not drive reads 0xFF. -/
def imgByte (bs : List Byte) (i : Nat) : Nat := (bs.getD i 0xFF).toNat

/-- n bytes from i, little-endian. -/
def imgLE (bs : List Byte) (i n : Nat) : Nat := (List.range n).foldl (fun v j => v + imgByte bs (i + j) * 256 ^ j) 0

/-- Bytes i to i + n − 1. -/
def imgPart (bs : List Byte) (i n : Nat) : List Byte :=
  let l := (bs.drop i).take n
  l ++ List.replicate (n - l.length) 0xFF

/-- A section lies within bytes 64 to L − 5; one of length 0 is absent. -/
def sectOk (len ofs n : Nat) : Bool := n == 0 || (decide (64 ≤ ofs) && decide (ofs + n + 4 ≤ len))

def apart (o1 n1 o2 n2 : Nat) : Bool := n1 == 0 || n2 == 0 || decide (o1 + n1 ≤ o2) || decide (o2 + n2 ≤ o1)

/-- Pass 1 (R432): error code and the offset at which it is found, or none. -/
def imageError (bs : List Byte) : Option (Nat × Nat) :=
  let g := fun i => imgLE bs i 4
  let len := g 8
  if imgPart bs 0 4 ≠ [0x4F, 0x54, 0x5A, 0x38] then some (1, 0)
  else if imgLE bs 4 2 ≠ 1 then some (3, 4)
  else if crc32c (imgPart bs 0 60) ≠ g 60 then some (2, 60)
  else if len < 128 ∨ 524288 < len then some (4, 8)
  else if ¬ (sectOk len (g 16) (g 20) && sectOk len (g 24) (g 28) && sectOk len (g 32) (g 36) &&
      apart (g 16) (g 20) (g 24) (g 28) && apart (g 16) (g 20) (g 32) (g 36) && apart (g 24) (g 28) (g 32) (g 36)) then
    some (4, 16)
  else if crc32c (imgPart bs 0 (len - 4)) ≠ g (len - 4) then some (5, len - 4)
  else none

def State.cfgUp (s : State) (f : Cfg → Cfg) : State := { s with cfg := f s.cfg }

/-- An event of sources 8 to 11: word 5 gives ERR_CODE [15:12] and STORE_RES [3:0]. -/
def State.cfgEvent (s : State) (src : Nat) (sev : Severity) : State :=
  s.raise src sev s.nvs.storeRes (s.cfg.err * 4096)

/-- A load error (R433): in pass 2 every register first returns to its reset value. -/
def State.loadFail (s : State) (code ofs : Nat) (pass2 : Bool) : State :=
  let s := if pass2 then s.regsReset.blocksReset else s
  let s := s.cfgUp fun c =>
    { c with lst := .error, err := code, errOfs := ofs, released := true, next := none, bootQual := false,
             loadTime := (s.now - c.began) / 100000 }
  let s := (s.countInc 7).flag CFG.CFG_EVT_LOAD_ERR
  let s := s.cfgEvent 9 .warn
  if code = 2 ∨ code = 5 ∨ code = 9 then (s.flag CFG.CFG_EVT_IMG_CRC).cfgEvent 10 .warn else s

/-! ### Records (R429, R432) -/

/-- One write of a record or of the NVS step: an ordinary direct write of the sequencer, refusals counted. -/
def State.recWrite (s : State) (a mask data : Nat) : State :=
  let r := s.writeNow .seq a mask data
  if r.1 = 3 then r.2.bump CFG.REC_REFUSED_CNT else if r.1 = 4 then r.2.bump CFG.REC_UNMAPPED_CNT else r.2

/-- What record r bytes into the section is: its length and what it does, END, or an error. -/
inductive Rec where
  | stop
  | bad
  | write (a mask data : Nat)
  | fill (a : Nat) (ws : List Nat)
  | wait (us : Nat)
  deriving DecidableEq, Repr, Inhabited

def recAt (sec : List Byte) (r : Nat) : Nat × Rec :=
  let g := fun i n => imgLE sec (r + i) n
  let n := g 3 2
  if sec.length ≤ r then (0, .bad)
  else match (sec.getD r 0).toNat with
    | 0 => (1, .stop)
    | 1 => (7, if r + 7 ≤ sec.length then .write (g 1 2) (g 3 2) (g 5 2) else .bad)
    | 2 =>
      (5 + 2 * n,
        if 1 ≤ n ∧ n ≤ 256 ∧ r + 5 + 2 * n ≤ sec.length ∧ g 1 2 + n ≤ 65536 then
          .fill (g 1 2) ((List.range n).map fun i => g (5 + 2 * i) 2)
        else .bad)
    | 3 => (3, if r + 3 ≤ sec.length ∧ 1 ≤ g 1 2 then .wait (g 1 2) else .bad)
    | _ => (0, .bad)

/-- The records from r on, up to a WAIT, the END or an error. -/
def State.records : Nat → State → List Byte → Nat → State
  | 0, s, _, _ => s
  | fuel + 1, s, sec, r =>
    let base := imgLE s.cfg.flash.pass2 16 4
    let x := recAt sec r
    let counted := fun (t : State) => t.cfgUp fun c => { c with recs := c.recs + 1 }
    match x.2 with
    | .stop => s.cfgUp fun c => { c with next := none }
    | .bad => s.loadFail 6 (base + r) true
    | .write a mask data => State.records fuel (counted (s.recWrite a mask data)) sec (r + x.1)
    | .fill a ws =>
      let t := (ws.zipIdx).foldl (fun t w => t.recWrite (a + w.2) 0xFFFF w.1) s
      State.records fuel (counted t) sec (r + x.1)
    | .wait us => (counted s).cfgUp fun c => { c with next := some (r + x.1), waitTo := s.now + us * 1000 }

/-- The register section as pass 2 reads it. -/
def regSection (s : State) : List Byte :=
  let bs := s.cfg.flash.pass2
  imgPart bs (imgLE bs 16 4) (imgLE bs 20 4)

/-- The records go on from r. -/
def State.recordsFrom (s : State) (r : Nat) : State :=
  let sec := regSection s
  if sec.isEmpty then s.cfgUp fun c => { c with next := none } else State.records (sec.length + 1) s sec r

/-- RECORD_WAIT_EXPIRE: a WAIT record has ended (R429). -/
def State.waitExpire (s : State) : State :=
  match s.cfg.next with
  | some r => if s.cfg.lst = .apply ∧ s.cfg.waitTo ≤ s.now then s.recordsFrom r else s
  | none => s

/-- The BOOT_QUAL option (R432): BOOT_WTR of references 0 to 23 before any record. -/
def State.bootQualApply (s : State) (wtr : Nat) : State :=
  (List.range 24).foldl (fun t k => (t.setFld (INM.BOOT_WTR_BOOT_EN k) 1).setFld (INM.BOOT_WTR_BOOT_WTR k) wtr) s

/-- The load begins: pass 1, then the records of pass 2 up to a WAIT. -/
def State.loadBegin (s : State) : State :=
  let bs := s.cfg.flash.pass1
  let magic := imgPart bs 0 4 == [0x4F, 0x54, 0x5A, 0x38]
  let s := s.cfgUp fun c =>
    { c with hdr := imgPart bs 0 64, released := false, began := s.now,
             imageId := if magic then imgLE bs 12 4 else 0 }
  match imageError bs with
  | some e => s.loadFail e.1 e.2 false
  | none =>
    let len := imgLE bs 8 4
    let qual := imgLE bs 6 2 / 2 % 2 == 1
    let s := s.cfgUp fun c =>
      { c with lst := .apply, len := len, crc := imgLE bs (len - 4) 4, bootQual := qual }
    let s := if qual then s.bootQualApply (imgLE bs 42 2) else s
    s.recordsFrom 0

/-! ### The end of a load (R430, R431, R434, R445) -/

/-- The ranges of the persist map. -/
def pmapOf (bs : List Byte) : List (Nat × Nat) :=
  (List.range (imgLE bs 28 4 / 4)).map fun i =>
    (imgLE bs (imgLE bs 24 4 + 4 * i) 2, imgLE bs (imgLE bs 24 4 + 4 * i + 2) 2)

/-- A register that the map may name: implemented, with a RW, LK or WO field. -/
def keeps (a : Nat) : Bool := mapped a && typeMask FType.kept a != 0

/-- The offset at which the persist map breaks a rule of R430, or none. -/
def pmapError (bs : List Byte) : Option Nat :=
  let ofs := imgLE bs 24 4
  let m := pmapOf bs
  if imgLE bs 28 4 % 4 ≠ 0 then some (ofs + imgLE bs 28 4 / 4 * 4)
  else match m.findIdx? fun r => r.2 == 0 || decide (65536 < r.1 + r.2) || !((List.range r.2).all fun i => keeps (r.1 + i)) with
    | some i => some (ofs + 4 * i)
    | none => if 4032 < sumNat (m.map (·.2)) then some ofs else none

/-- The stored persist entries, in ascending address order (R445). -/
def storedEntries (s : State) : List (Nat × Nat) :=
  (List.range 63).flatMap fun i =>
    let p := 193 + i
    if (pageFind s p).1.isSome then
      let d := pageData s p
      ((List.range 64).map fun j => (natLE ((d.drop (4 * j)).take 2), natLE ((d.drop (4 * j + 2)).take 2))).filter
        fun e => e.1 != 0xFFFF
    else []

/-- Step 4 of R445. -/
def State.persistApply (s : State) : State :=
  let es := storedEntries s
  let yes := es.filter fun e => eligible s e.1
  let s := yes.foldl (fun t e => t.recWrite e.1 (typeMask FType.kept e.1) e.2) s
  s.cfgUp fun c => { c with applied := yes.length, skipped := es.length - yes.length }

/-- Step 5: the LOA ACTIVE bank, when its VALID is 1. -/
def State.bankApply (s : State) : State :=
  let d := pageData s 1
  if hasModel s then s.activeLoad fun i => natLE ((d.drop (2 * i)).take 2) else s

/-- Step 6: the fault log; entries not yet stored stay in front of the stored ones (log entry 52). -/
def State.flogApply (s : State) : State :=
  let stored := (List.range 16).flatMap fun i =>
    if (pageFind s (3 + i)).1.isSome then
      (List.range 16).filterMap fun j => flogRead (((pageData s (3 + i)).drop (16 * j)).take 16)
    else []
  s.nvsUp fun x => { x with faultLog := (x.faultLog.take x.unstored ++ stored).take 256 }

/-- The load has applied its records: pass 2's checks, then the NVS step. -/
def State.loadFinish (s : State) : State :=
  let bs := s.cfg.flash.pass2
  let len := s.cfg.len
  let patched := imgLE bs 36 4 != 0
  match pmapError bs with
  | some o => s.loadFail 7 o true
  | none =>
    if patched && (imgLE bs 40 2 != s.reg SYS.ROM_VER || !s.cfg.flash.patchOk) then s.loadFail 8 (imgLE bs 32 4) true
    else if crc32c (imgPart bs 0 (len - 4)) ≠ crc32c (imgPart s.cfg.flash.pass1 0 (len - 4)) then
      s.loadFail 9 (len - 4) true
    else
      let s := s.cfgUp fun c =>
        { c with lst := .nvsApply, pmap := pmapOf bs, patch := patched, patchVer := if patched then imgLE bs 40 2 else 0 }
      let s := s.pagesRead ((List.range 63).map (193 + ·) ++ [1] ++ (List.range 16).map (3 + ·))
      let s := s.persistApply.bankApply.flogApply
      let s := s.cfgUp fun c =>
        { c with lst := .done, loaded := true, released := true, loadTime := (s.now - c.began) / 100000 }
      let s := if lcLocked s then s.bistUp fun b => { b with locked := true } else s
      (s.flag CFG.CFG_EVT_LOAD_DONE).cfgEvent 8 .info

/-- No sequencer bank is usable: the sequencer does not start, and no image is loaded (R504). -/
def seqDead (s : State) : Bool := (List.range 4).all fun b => (unitAt s b).unusable

/-- The load may begin: no STORE of before the start runs (R441). -/
def State.loadTry (s : State) : State :=
  if s.cfg.lst ≠ .idle ∨ storing s ∨ seqDead s then s else s.loadBegin

/-- IMAGE_LOAD_DONE (R434): the load that was held back runs, and ends once no WAIT is left. -/
def State.loadDone (s : State) : State :=
  let s := s.loadTry
  if s.cfg.lst = .apply ∧ s.cfg.next.isNone then s.loadFinish else s

end Sys2Proof.Machine
end

