-- ==== Sys2Proof/Machine/Start.lean ====
section
/-! DEFINITION. Starts (14: R453 to R455; 15: R475; 16: R499 to R503), the end of start-up, RESET_N (12: R424), going off at
the end of hold-up, and the wake from each state (R468; 17: R537 to R539). -/
namespace Sys2Proof.Machine

/-- What a start keeps of the oven and its sensors (R454, R561): its state where it was heating, and the readings. -/
def Loa.restart (x : Loa) (warm : Bool) : Loa :=
  { Loa.reset with
    oven := if warm then x.oven else .cold, okSince := if warm then x.okSince else none, tRes := x.tRes, tOven := x.tOven,
    tCase := x.tCase, power := x.power }

/-- What a start keeps of a unit (R505). -/
def Unit3.restart (x : Unit3) : Unit3 := { Unit3.reset with unusable := x.unusable }

/-- What a start keeps of the NVS island: everything held in cells, what it is doing unless power was lost (R441, R464), and the
on-module fault log unless it is (log entry 52). -/
def Nvs.restart (x : Nvs) (off lost : Bool) : Nvs :=
  { Nvs.reset with
    slots := x.slots, ctr := x.ctr, bp := x.bp, bpWritten := x.bpWritten, sealFlag := x.sealFlag,
    hoursLeft := x.hoursLeft, shadow := x.shadow,
    incs := if off then [] else x.incs, op := if off then .idle else x.op,
    storeNext := if off then none else x.storeNext,
    faultLog := if lost then [] else x.faultLog, unstored := if lost then 0 else x.unstored }

/-- What a start keeps of the supply's conditions: its readings, and what is live at a release of RESET_N.  Input UV is armed
again once VIN has reached 36.0 V (R539). -/
def Power.restart (x : Power) (cause : Nat) : Power :=
  { Power.reset with
    cause := cause, rtcFrac := if cause = 1 then 0 else x.rtcFrac, brzT := if cause = 1 then 0 else x.brzT, vin := x.vin, iin := x.iin, pin := x.pin,
    uvWarn := cause == 2 && x.uvWarn, ov := cause == 2 && x.ov, railBad := if cause = 2 then x.railBad else 0,
    clkFault := cause == 2 && x.clkFault, armed := cause != 1 && decide (3600 ≤ x.vin) }

/-- Everything a start resets (R14, R39, R424, R462, R475).  Cause: 1 power-up, 2 RESET_N, 3 exit from DORMANT.  An exit
from DORMANT and a module in END run no start-up test of the units (R455, R511). -/
def State.reinit (s : State) (cause : Nat) : State :=
  let warm := cause == 2 && (s.pwr.st == .run || s.pwr.st == .park || s.pwr.st == .boot)
  let t := s.regsReset.blocksReset
  let units := s.bist.units.map Unit3.restart
  let soft := if cause = 1 then Mem.reset.soft else s.mem.soft
  let keys := if cause = 3 then s.mem.keys else Mem.reset.keys
  let half := if cause = 3 then s.mem.half else Mem.reset.half
  let mem := { Mem.reset with factory := s.mem.factory, soft := soft, keys := keys, half := half }
  let t := { t with
    mtb := if cause = 1 then 0 else s.mtb, shadows := Vector.replicate 5 [], evq := [],
    flt := Vector.replicate 128 SrcState.reset, hist := Vector.replicate 64 [], loa := s.loa.restart warm,
    acc := Access.reset, cfg := { Cfg.reset with flash := s.cfg.flash }, nvs := s.nvs.restart (cause == 1) (cause == 1 || cause == 3),
    pwr := s.pwr.restart cause, thm := { Thm.reset with dies := s.thm.dies, peak := s.loa.tCase },
    lc := { s.lc with busy := none, sealing := none, nonce := 0, nonceOk := false, nonceAt := none, fuseErr := false },
    seq := ⟨false⟩, clockStop := false,
    mem := mem }
  let skip := cause == 3 || lcState s == .ended
  let bist := { Bist.reset with units := units, full := !skip, startAt := t.now, done := skip }
  let t := { t with bist := bist }
  let t := { t with mem := { t.mem with ringCap := ringCapOf t } }
  { t with found := t.toBlocks, cyc := Cycle.none }

/-- A start (R453, R454): steps 1 to 3, and the image load as far as it goes at once. -/
def State.start (s : State) (cause : Nat) : State :=
  let s := (s.reinit cause).countInc 0
  let s := s.pwrUp fun p => { p with pg := true }
  let s := (s.nvsScan.pagesRead [0, 192]).raise 0 .info cause
  (s.brzStart.ovenUpdate).loadTry

/-- Step 6 of R454: hardware fills the nominals of the recovered clocks (R48; log entry 26), and monitors leave ABSENT;
synthesisers, outputs, generators, time keepers, ports and the cascade start as configured. -/
def State.serviceBegin (s : State) : State :=
  let s := s.pwrUp fun p => { p with st := .run }
  let s := { s with trk := s.trk.map fun (t : Tracker) => { t with calOk := true } }
  let s := ((List.range 8).foldl State.nomFill s).monsFollow
  let s := (List.range 7).foldl State.synEnable s
  let s := (List.range 4).foldl (fun t k => if t.bit (TK.TK_CTRL_EN k) then t.tkEnable k else t) s
  let s := (List.range 8).foldl (fun t p => if t.bit (PG.PG_CTRL_EN p) then t.pgEnable p else t) s
  let s := (List.range 40).foldl (fun t n => t.outTryStart n true) s
  (s.portsFollow).casTrain

/-- Start-up ends when steps 4 and 5 have ended (R454); a test that waited for it begins (R507), and a GO acts (R464) unless a
thermal trip has moved the module to KEEP (R543; log entry 95). -/
def State.bootEnd (s : State) : State :=
  if s.pwr.st = .boot ∧ s.bist.done ∧ (s.cfg.lst = .done ∨ s.cfg.lst = .error ∨ seqDead s) then
    let s := s.serviceBegin.queueNext
    if s.thm.trip then downBy 2 s else s.goRetry
  else s

/-- STARTUP_BIST_DONE (R499 to R504, R522): the results, then the secure bank from its shadow. -/
def State.startupDone (s : State) (rs : List TestResult) : State :=
  if s.pwr.st ≠ .boot ∨ s.bist.done then s
  else
    let s := rs.foldl (fun t r => if r.unit < 43 then (t.startEnd r).classifyAll else t) s
    let s := if (unitAt s 12).unusable then s else s.shadowRestore.keysChanged
    let s := s.bistUp fun b => { b with done := true, startUs := (s.now - b.startAt) / 1000 }
    s.bootEnd

/-- POWER_UP (R453): VIN rises through turn-on. -/
def State.powerOn (s : State) (fl : Flash) (id role : Nat) : State :=
  if s.pwr.st ≠ .off then s
  else
    let s := { s with cfg := { s.cfg with flash := fl }, pads := { s.pads with id := id % 8, casRole := role % 4 } }
    s.start 1

/-- RESET_N_ASSERT (R424): transactions are discarded, every register is at its reset value; hold-up ignores it (R555). -/
def State.resetLow (s : State) : State :=
  if s.pwr.st = .off ∨ s.pwr.holdup ∨ s.pads.resetLow then s
  else
    let t := s.reinit 2
    { t with pads := { t.pads with resetLow := true } }

/-- RESET_N_RELEASE: the module starts and samples the strap pads (R360, R399, R453), but not during hold-up (R555). -/
def State.resetHigh (s : State) (fl : Flash) (id role : Nat) : State :=
  if ¬ s.pads.resetLow then s
  else if s.pwr.holdup then { s with pads := { s.pads with resetLow := false } }
  else
    let s := { s with
      cfg := { s.cfg with flash := fl },
      pads := { s.pads with resetLow := false, id := id % 8, casRole := role % 4 } }
    s.start 2

/-- A wake (R468): from DORMANT it is a start, from the other states a return to RUN; of causes that coincide the lowest code is
reported. -/
def State.wake (s : State) (cause port : Nat) : State :=
  if s.pwr.st = .dormant then
    let low := satNat 32 ((s.now - s.pwr.lowSince) / 1000000000)
    let s := s.start 3
    let s := s.pwrUp fun p => { p with wakeCause := cause, wakePort := port, lowTime := low }
    s.flag PWR.PS_EVT_WOKE
  else if asleep s then s.wakeUp cause port
  else if cause < s.pwr.wakeCause then s.pwrUp fun p => { p with wakeCause := cause, wakePort := port }
  else s

/-! ### The end of hold-up (R437, R442, R537, R538) -/

/-- The page whose write is in progress, with its data. -/
def opPage (s : State) : Option (Nat × List Byte) :=
  match s.nvs.op with
  | .page p d => some (p, d)
  | .store (x :: _) _ _ _ _ => some x
  | _ => none

/-- The module is off: what is not held in cells, fuses or wake-logic-free memory is lost. -/
def State.goOff (s : State) : State :=
  let t := s.reinit 1
  { t with pwr := { t.pwr with st := .off }, pads := { t.pads with irqLow := List.replicate 4 false, faultLow := false },
           mtb := s.mtb }

/-- HOLDUP_END: the last started operation has ended, or the input has collapsed under it; `torn` says that the commit word
in progress was cut. -/
def State.holdupEnd (s : State) (collapsed torn : Bool) : State :=
  if ¬ s.pwr.holdup then s
  else if collapsed then
    let s := match opPage s with
      | some x => if torn then s.pageTear x.1 x.2 else s
      | none => s
    s.goOff
  else if s.nvs.op = .idle ∧ s.nvs.incs = [] then s.goOff
  else s

/-! ### The host interfaces answer (R401, R454, R467, R501, R504) -/

/-- The register file is clocked: not off, not in reset, not below KEEP, and the MTB runs (R467, R481). -/
def clocked (s : State) : Bool :=
  (s.pwr.st == .boot || s.pwr.st == .run || s.pwr.st == .park || s.pwr.st == .keep) && !s.pads.resetLow && !s.clockStop

/-- The module has power and is not held in reset. -/
def alive (s : State) : Bool := s.pwr.st != .off && !s.pads.resetLow

/-- The module has power: the NVS island, the wake logic and the input's watch run, whatever RESET_N does (R435, R441, R518,
R534). -/
def powered (s : State) : Bool := s.pwr.st != .off

/-- After a STORE of before the start has ended, the load that waited for it begins (R441). -/
def State.loadAfter (s : State) : State := if clocked s && s.pwr.st == .boot then s.loadTry else s

/-- STORE_DONE (R440, R441). -/
def State.storeOver (s : State) : State := if storing s then s.storeDone.loadAfter else s

/-- A host interface answers: a test of the register file or the host interface leaves it without an answer (R501). -/
def answers (s : State) : Bool := clocked s && !s.testing 45 && !s.testing 46

end Sys2Proof.Machine
end

