-- ==== Sys2Proof/Machine/Settle.lean ====
section
/-! DEFINITION. What follows every command at once: transactions that a synthesiser's loss aborts, captures, background
tests, Breeze hand-over, the grade, the classification of the events raised, coverage, and the pads (15: R473 to R489). -/
namespace Sys2Proof.Machine

/-- The machine settles: what was written to a block under test reaches it once it has rejoined (R405), writes of the same
register-file cycle lose what hardware changed (R410), every event of the command reaches its classifier, and the pads
follow. -/
def State.settle (s : State) : State :=
  let s := s.lateSweep.lostSweep.txnSweep.capEvents
  let s := s.bgSweep.brzSweep.gradeSweep
  s.classifyAll.coverOutputs.drivePads

/-- A command's outcome: its effect, settled, where the module can take it; else nothing changes. -/
def took (ok : Bool) (s t : State) : Host.Outcome State Fault Refusal := .next (if ok then t.settle else s)

end Sys2Proof.Machine
end

