-- ==== Sys2Proof/Machine/Host.lean ====
section
/-! DEFINITION. The host interfaces: SPI and I2C frames, and Hildo register frames (12: R392 to R404). -/
namespace Sys2Proof.Machine

/-! ### STATUS (R395) -/

/-- RESULT codes in their order of precedence. -/
def resFirst (a b : Nat) : Nat :=
  let rank := fun r => if r = 1 then 5 else if r = 2 then 4 else resRank r
  if rank a < rank b then b else a

/-- IRQ in bit 2 and FAULT in bit 1, as the pads stand. -/
def padBits (s : State) : Nat := 4 * (s.pads.irqLow.any id).toNat + 2 * s.pads.faultLow.toNat

/-- A STATUS byte: ONE is always 1. -/
def statusByte (s : State) (c : Ctx) (res : Nat) (staged : Bool) (pads : Nat) : Nat :=
  res * 32 + 16 * staged.toNat + 8 * (txnAt s c).isOpen.toNat + pads + 1

/-- The STATUS that the next frame carries; the first frame after a start has none before it. -/
def prevStatus (s : State) (c : Ctx) : Nat :=
  match if c = .i2c then s.acc.i2c else s.acc.spi with
  | some b => b
  | none => padBits s + 1

/-- The frame's outcome is kept for the next one. -/
def State.statusPut (s : State) (c : Ctx) (b : Nat) : State :=
  s.accUp fun x => if c = .i2c then { x with i2c := some b } else { x with spi := some b }

/-- The bytes that a frame returned to the host. -/
def State.returned (s : State) (c : Ctx) (bs : List Byte) : State :=
  s.accUp fun x => if c = .i2c then { x with i2cOut := bs } else { x with miso := bs }

/-! ### Errors (R397, R398) -/

/-- A frame whose CRC fails (source 13, cause 2). -/
def State.frameCrc (s : State) (c : Ctx) : State :=
  ((s.bump REG.CRC_ERR_CNT).flag REG.ACC_EVT_FRAME_CRC).raise 13 .warn 2 (ctxIdx c * 8192)

/-- A frame error: counted and flagged, no event. -/
def State.frameErr (s : State) : State := (s.bump REG.FRAME_ERR_CNT).flag REG.ACC_EVT_FRAME_ERR

/-! ### Addresses and words (R396, R413) -/

/-- A port register: RINGk.RD_DATA and PTP.KEY_DATA. -/
def isPort (a : Nat) : Bool :=
  (decide (0x3D00 ≤ a) && decide (a < 0x3E00) && a % 16 == 6) || a == PTP.KEY_DATA

/-- Address of word i of a burst. -/
def burstAddr (a i : Nat) : Nat := if isPort a then a else a + i

/-- The burst's last address is beyond 0xFFFF. -/
def overflows (a n : Nat) : Bool := !isPort a && decide (65536 < a + n)

/-- A read of one register: RESULT, word and state. -/
def State.readWord (s : State) (c : Ctx) (a : Nat) : Nat × Nat × State :=
  if mapped a then
    let r := s.readReg c a
    (0, r.1, r.2)
  else (4, 0, s.accUnmapped c a true)

/-- n words in ascending order (R397): the worst RESULT, the words, the state. -/
def State.readBurst : Nat → State → Ctx → Nat → Nat → Nat × List Nat × State
  | 0, s, _, _, _ => (0, [], s)
  | n + 1, s, c, a, i =>
    let r := s.readWord c (burstAddr a i)
    let rest := State.readBurst n r.2.2 c a (i + 1)
    (resFirst r.1 rest.1, r.2.1 :: rest.2.1, rest.2.2)

/-- The words of a write frame reach the register file in one cycle; those of a port register one per cycle (R397). -/
def State.writeBurst (s : State) (c : Ctx) (a : Nat) (ws : List (Nat × Nat)) : Nat × Bool × State :=
  if isPort a then
    ws.foldl (fun acc w =>
      let r := acc.2.2.cycleWrites c [(a, w.1, w.2)]
      (resFirst acc.1 r.1, acc.2.1 || r.2.1, r.2.2)) (0, false, s)
  else s.cycleWrites c (ws.zipIdx.map fun w => (a + w.2, w.1.1, w.1.2))

/-- The access words of a write frame's body: mask and data (R389). -/
def accessWords : Nat → List Byte → List (Nat × Nat)
  | 0, _ => []
  | n + 1, bs => (natBE (bs.take 2), natBE ((bs.drop 2).take 2)) :: accessWords n (bs.drop 4)

/-! ### SPI and I2C frames (R392, R393, R399) -/

/-- The bytes that a read returns: 4 per word for READ, 2 for READ16, then their CRC-8. -/
def readBytes (wb : Nat) (ws : List Nat) : List Byte :=
  let d := ws.flatMap fun w => bytesBE wb w
  d ++ [BitVec.ofNat 8 (crc8 d)]

/-- What comes before the data of a read: STATUS of the previous frame, on SPI with the zeros of bytes 1 to 5. -/
def readLead (s : State) (c : Ctx) : List Byte :=
  BitVec.ofNat 8 (prevStatus s c) :: (if c = .i2c then [] else List.replicate 5 0)

/-- A frame on SPI or I2C, its bytes as the controller sent them: judged, applied or answered, its STATUS kept. -/
def State.frame (s : State) (c : Ctx) (bs : List Byte) : State :=
  let n := bs.length
  let cmd := (bs.getD 0 0).toNat
  let a := natBE ((bs.drop 1).take 2)
  let len := (bs.getD 3 0).toNat
  let wb := if cmd = 1 then 4 else 2
  let read := (cmd == 1 || cmd == 2) && len != 0
  let known := decide (5 ≤ n) && decide (1 ≤ cmd) && decide (cmd ≤ 3) && decide (len ≤ 32)
  let hdr := if read then 5 else 5 + 4 * len
  let full := if read && c != .i2c then 7 + wb * len else hdr
  let crcBad := known && decide (hdr ≤ n) && crc8 (bs.take (hdr - 1)) != (bs.getD (hdr - 1) 0).toNat
  let bad := !known || n != full || (len != 0 && overflows a len)
  let pads := padBits s
  let lead := readLead s c
  let zeros := lead ++ readBytes wb (List.replicate len 0)
  let t := s.when crcBad fun s => s.frameCrc c
  let t := t.when bad State.frameErr
  if crcBad || bad then
    (t.returned c (if read then zeros else lead.take 1)).statusPut c
      (statusByte t c (if crcBad then 1 else 2) false pads)
  else if len = 0 then (t.returned c (lead.take 1)).statusPut c (statusByte t c 0 false pads)
  else if read then
    let r := t.readBurst len c a 0
    (r.2.2.returned c (lead ++ readBytes wb r.2.1)).statusPut c (statusByte r.2.2 c r.1 false pads)
  else
    let r := t.writeBurst c a (accessWords len (bs.drop 4))
    (r.2.2.returned c (lead.take 1)).statusPut c (statusByte r.2.2 c r.1 r.2.1 pads)

/-- The module answers this I2C address (R399, R400). -/
def i2cMine (s : State) (addr : Nat) : Bool := s.bit REG.IF_CFG_I2C_EN && addr == 0x58 + s.pads.id % 8

/-- I2C_TIMEOUT (R400): the frame ends as incomplete. -/
def State.i2cTimeout (s : State) : State :=
  if s.bit REG.IF_CFG_I2C_EN ∧ s.fld REG.IF_CFG_I2C_TOUT ≠ 0 then
    let t := s.frameErr
    t.statusPut .i2c (statusByte t .i2c 2 false (padBits s))
  else s

/-! ### Hildo register frames (R401 to R404) -/

/-- The STATUS byte of one operation (R403). -/
def opStatus (s : State) (res : Nat) (staged : Bool) : Byte := BitVec.ofNat 8 (statusByte s .hildo res staged (padBits s))

/-- One operation: its result bytes and the state.  L of the result is the number of words returned (log entry 54). -/
def State.hildoOp (s : State) (op : List Byte) : List Byte × State :=
  let code := (op.getD 0 0).toNat
  let l := (op.getD 1 0).toNat
  let a := natLE ((op.drop 2).take 2)
  let head := fun (t : State) (res : Nat) (staged : Bool) (n : Nat) =>
    opStatus t res staged :: BitVec.ofNat 8 n :: bytesLE 2 a
  if code = 0 then (head s 0 false 0, s)
  else if code = 1 ∧ 1 ≤ l ∧ l ≤ 32 ∧ ¬ overflows a l then
    let r := s.readBurst l .hildo a 0
    let t := r.2.2.settle
    (head t r.1 false l ++ r.2.1.flatMap (bytesLE 2), t)
  else if code = 3 ∧ l = 1 then
    let r := s.cycleWrites .hildo [(a, natLE ((op.drop 4).take 2), natLE ((op.drop 6).take 2))]
    let t := r.2.2.settle
    (head t r.1 r.2.1 0, t)
  else (head s 2 false 0, s)

/-- The operations in order; a read sees the writes before it. -/
def State.hildoOps : Nat → State → List Byte → List Byte × State
  | 0, s, _ => ([], s)
  | m + 1, s, bs =>
    let r := s.hildoOp (bs.take 8)
    let rest := State.hildoOps m r.2 (bs.drop 8)
    (r.1 ++ rest.1, rest.2)

/-- The READ words that a request asks for. -/
def askedWords : Nat → List Byte → Nat
  | 0, _ => 0
  | m + 1, bs => (if (bs.getD 0 0).toNat = 1 then (bs.getD 1 0).toNat else 0) + askedWords m (bs.drop 8)

/-- A response leaves on port n. -/
def State.hildoSend (s : State) (n : Nat) (f : List Byte) : State :=
  (s.ethUp n fun e => { e with reply := f }).bump (ETH.TX_HILDO_CNT n)

/-- A register request whose checks hold is executed and answered. -/
def State.hildoRun (s : State) (n : Nat) (src : List Byte) (p : List Byte) (crc : Nat) : State :=
  let m := (p.getD 3 0).toNat
  let r := s.hildoOps m (p.drop 8)
  let t := r.2
  let tag := if t.bit (ETH.ETH_CFG_VLAN_EN n) then bytesBE 2 0x8100 ++ bytesBE 2 (t.reg (ETH.VLAN n)) else []
  let body := [1, 3, BitVec.ofNat 8 (t.pads.id % 8), BitVec.ofNat 8 m] ++ (p.drop 4).take 4 ++ r.1
  let f := src ++ macOf t n ++ tag ++ bytesBE 2 (t.reg PTP.HILDO_ETYPE) ++ body ++ bytesLE 4 (crc32c body)
  let f := f ++ bytesLE 4 (fcs32 f)
  (t.accUp fun x => { x with hSeq := some (natLE ((p.drop 4).take 4)), hCrc := crc, hPort := n, hResp := f }).hildoSend n f

/-- The payload of a frame that the MAC accepted for Hildo on port n (R401, R404). -/
def State.hildoPayload (s : State) (n : Nat) (src p : List Byte) : State :=
  let m := (p.getD 3 0).toNat
  let need := 12 + 8 * m
  let crc := natLE ((p.drop (8 + 8 * m)).take 4)
  let wrong := fun (t : State) => t.bump REG.FRAME_ERR_CNT
  if ¬ (s.bit REG.HILDO_CFG_EN && bitsOf (s.fld REG.HILDO_CFG_PORTS) n n == 1) then s
  else if (p.getD 1 0).toNat ≠ 1 then s
  else if m = 0 ∨ 64 < m ∨ ¬ (p.length = need ∨ (need < 46 ∧ p.length = 46)) then wrong s
  else if crc32c (p.take (8 + 8 * m)) ≠ crc then s.frameCrc .hildo
  else if (p.getD 0 0).toNat ≠ 1 ∨ (p.getD 2 0).toNat ≠ s.pads.id % 8 ∨ 256 < askedWords m (p.drop 8) then wrong s
  else if s.acc.hSeq = some (natLE ((p.drop 4).take 4)) then
    if crc = s.acc.hCrc then (s.bump REG.HILDO_DUP_CNT).hildoSend n s.acc.hResp else wrong s
  else s.hildoRun n src p crc

/-- HILDO_REQUEST: a frame for the Hildo EtherType at port n, from its destination address to its FCS (R294, R296, R402). -/
def State.hildoRequest (s : State) (n : Nat) (bs : List Byte) : State :=
  if 8 ≤ n ∨ ¬ macOn s ∨ ¬ (s.ethAt n).link then s
  else match sizeFate (fcsOk bs) bs.length with
    | some d => s.countDrop n d
    | none =>
      if ¬ hildoMine s n bs then s.frameDiscard n bs
      else (s.bump (ETH.RX_HILDO_CNT n)).hildoPayload n ((bs.drop 6).take 6) ((bs.take (bs.length - 4)).drop (innerAt bs))

end Sys2Proof.Machine
end

