-- ==== Sys2Proof/Machine/Scrub.lean ====
section
/-! DEFINITION. The scrubber's visit to a voted field: repair of one disagreeing copy, and a three-way split with the safe
values of the chapters (12: R407 to R409). -/
namespace Sys2Proof.Machine

/-- The voted field at an address whose lowest bit is lo. -/
def voteField (a lo : Nat) : Option FieldDef :=
  match regAt a with
  | some r => r.fields.find? fun f => f.vote && f.lo == lo
  | none => none

/-- The VOTE_REPAIR counter of the block that owns a register; SYS, PWR's neighbours without voted fields and the
synthesisers (whose counter is Synth.voteRepair, R229) have none here. -/
def voteCnt (a : Nat) : Option Nat :=
  if a < 0x0100 then none
  else if a < 0x0200 then some PWR.VOTE_REPAIR
  else if a < 0x0300 then some REG.VOTE_REPAIR
  else if a < 0x0500 then some NVS.VOTE_REPAIR
  else if a < 0x0600 then some MEM.VOTE_REPAIR
  else if a < 0x0700 then some BIST.VOTE_REPAIR
  else if a < 0x0800 then some LOA.VOTE_REPAIR
  else if a < 0x0E00 then some (INM.VOTE_REPAIR ((a - 0x0800) / 64))
  else if a < 0x1000 then some CAS.VOTE_REPAIR
  else if a < 0x1800 then some (DOM.VOTE_REPAIR ((a - 0x1000) / 256))
  else if a < 0x2000 then none
  else if a < 0x2800 then some OUTC.VOTE_REPAIR
  else if a < 0x3000 then some (TK.VOTE_REPAIR ((a - 0x2800) / 256))
  else if a < 0x3100 then some PTP.VOTE_REPAIR
  else if a < 0x3C00 then some (ETH.VOTE_REPAIR ((a - 0x3100) / 256))
  else some CAP.VOTE_REPAIR

/-- One disagreeing copy was rewritten (R408); the register-file cycle keeps the repair. -/
def State.voteRepaired (s : State) (a lo : Nat) : State :=
  match voteCnt a with
  | some c => { s.bump c with cyc := { (s.bump c).cyc with fixed := (a, lo, c) :: s.cyc.fixed } }
  | none =>
    if 0x1800 ≤ a then s.synUp ((a - 0x1800) / 256) fun y => { y with voteRepair := satNat 16 (y.voteRepair + 1) } else s

/-- The field takes a free value where no chapter states a safe one (log entry 4). -/
def State.fldFree (s : State) (f : Field) : State :=
  let v := s.takeFree
  v.2.setFld f (v.1 % 2 ^ (f.hi + 1 - f.lo))

/-- A multi-register value, staged and in force. -/
def State.putWide (s : State) (a n v : Nat) : State := (s.setWide a n v).applyEff a n

/-- The safe value of a voted field of domain d (04 and 05, error tables): the domain reselects after a selection field. -/
def State.splitDom (s : State) (d off lo : Nat) (f : Field) : State :=
  let again := fun (t : State) => t.domUp d fun x => { x with resel := true }
  if off = 0 ∧ lo = 14 then again ((s.setFld f 2).modeWritten d)
  else if off = 0 then again ((s.setFld f 0xF).prefWritten d)
  else if off ≤ 8 then again (if lo = 0 then (s.setFld f 0x3F).slotWritten d (off - 1) else s.fldFree f)
  else if off = 0x1B then s.setFld f 3
  else if off = 0x1C ∨ off = 0x1D then s.putWide (DOM.BW d) 2 1000
  else if off = 0x1E then s.setFld f 100
  else if off = 0x21 ∨ off = 0x22 then s.putWide (DOM.PULLIN d) 2 4600000
  else s.putWide (DOM.OFFSET d) 3 0

/-- The safe value of a voted field of synthesiser k (06, error table): what the datapath has in force. -/
def State.splitSyn (s : State) (k off lo : Nat) (f : Field) : State :=
  let y := s.synAt k
  if off = 0 then s.setFld f (if lo = 10 then 0 else if lo = 15 then (y.st != .off).toNat else y.pfd)
  else if off = 3 then s.setFld f (y.nCur / 2 ^ 48 % 1024)
  else if 4 ≤ off ∧ off ≤ 6 then s.setFld f (y.nCur % 2 ^ 48 / 65536 ^ (off - 4) % 65536)
  else if off = 0x0C then s.setFld f y.lbw
  else if off = 0x0D then s.setFld f 0
  else s

/-- The safe value of a voted field of output n (07, error table). -/
def State.splitOut (s : State) (n off lo : Nat) (f : Field) : State :=
  if off = 0 then (if lo = 14 then s.fldFree f else s)
  else if off = 1 then
    (if lo = 13 then s.setFld f 0
     else if lo = 15 then
       (let t := s.fldFree f
        if outEn t n then t.outTryStart n true else t.outStop n)
     else s.fldFree f)
  else if off = 2 ∨ off = 3 then s.putWide (OUT.DIV n) 2 (s.outAt n).div
  else (s.setWide (OUT.BYP_DIV n) 2 0).bypDivWritten n

/-- The safe value of a voted field of pulse generator p (07, error table). -/
def State.splitPg (s : State) (p off lo : Nat) (f : Field) : State :=
  let g := s.pgAt p
  if off = 0 then
    (let t := s.fldFree f
     if lo = 15 then (if t.bit f then t.pgEnable p else t.pgDisable p) else t)
  else if off ≤ 3 then ((s.setWide (PG.PER_NUM p) 2 g.num).setReg (PG.PER_DEN p) g.den).applyEff (PG.PER_NUM p) 3
  else s.setWide (PG.OFFSET p) 3 (ofSigned 40 g.ofs)

/-- The code of RCFG.SIZE for a number of records. -/
def sizeCode (n : Nat) : Nat := ((List.range 16).find? fun c => ringSize c == some n).getD 0

/-- The safe value of a three-way split, written to all three copies (R409; the chapters' error tables). -/
def State.splitValue (s : State) (a lo : Nat) (f : Field) : State :=
  if a = 0x0080 then s.fldFree f
  else if a < 0x0100 then s
  else if a < 0x0200 then s.setFld f 0
  else if a < 0x0300 then s.fldFree f
  else if a = NVS.PROTECT then s.setFld f s.nvs.bp
  else if a < 0x0800 then s
  else if a < 0x0E00 then
    (if a % 64 = 0x17 then (s.fldFree f).forceFailWritten ((a - 0x0800) / 64)
     else (s.fldFree f).inCfgWritten s ((a - 0x0800) / 64))
  else if a < 0x1000 then s
  else if a < 0x1800 then s.splitDom ((a - 0x1000) / 256) (a % 256) lo f
  else if a < 0x2000 then s.splitSyn ((a - 0x1800) / 256) (a % 256) lo f
  else if a < 0x2500 then s.splitOut ((a - 0x2000) / 32) (a % 32) lo f
  else if a < 0x2800 then s.splitPg ((a - 0x2510) / 16) ((a - 0x2510) % 16) lo f
  else if a < 0x3000 then (if a % 256 = 0x14 then s.setFld f 10 else s)
  else if PTP.CLOCK_ID ≤ a ∧ a < PTP.CLOCK_ID + 4 then
    s.setReg a (s.eff1 a)
  else if a < 0x3D00 then s
  else s.setFld f (sizeCode (ringAt s ((a - 0x3D00) / 16)).span)

/-- The source a split is raised on and its cause code (R476; the chapters' error tables and HIST_SEL rows). -/
def splitSrc (s : State) (a : Nat) : Nat × Nat :=
  if a = 0x0050 then (if s.fld SYS.LOCKA_SEL_SEL < 7 then (75 + 2 * s.fld SYS.LOCKA_SEL_SEL, 5) else (1, 0))
  else if a < 0x0100 then (1, 0)
  else if a < 0x0200 then (7, 6)
  else if a < 0x0300 then (12, 5)
  else if a < 0x0800 then (25, 8)
  else if a < 0x0E00 then (32 + (a - 0x0800) / 64, 0)
  else if a < 0x1000 then (29, 9)
  else if a < 0x1800 then (58 + 3 * ((a - 0x1000) / 256), 6)
  else if a < 0x2000 then (75 + 2 * ((a - 0x1800) / 256), 5)
  else if a < 0x2800 then (88, 5)
  else if a < 0x3000 then (93 + 2 * ((a - 0x2800) / 256), 6)
  else if a < 0x3020 then (108, 5)
  else if a < 0x3100 then (108 + (a - 0x3020) / 16, 5)
  else if a < 0x3C00 then (100 + (a - 0x3100) / 256, 10)
  else (112 + (a - 0x3D00) / 16, 3)

/-- The SEVERE event of a split, with its block's word 5 (R409). -/
def State.splitEvent (s : State) (a : Nat) : State :=
  let e := splitSrc s a
  if 0x1000 ≤ a ∧ a < 0x1800 then s.domAlarm ((a - 0x1000) / 256) .severe 6
  else if 0x1800 ≤ a ∧ a < 0x2000 then s.synEvent ((a - 0x1800) / 256) true .severe 5
  else if 0x2000 ≤ a ∧ a < 0x2500 then s.outEvent 88 .severe 5 ((a - 0x2000) / 32)
  else if 0x2510 ≤ a ∧ a < 0x2590 then s.raise 88 .severe 5 (16384 + (a - 0x2510) / 16 * 256)
  else if 0x2800 ≤ a ∧ a < 0x3000 then
    s.tkEvent ((a - 0x2800) / 256) (s.tkAt ((a - 0x2800) / 256)).st.code true .severe 6
  else if 0x3100 ≤ a ∧ a < 0x3C00 then s.portEvent ((a - 0x3100) / 256) .severe 10
  else s.raise e.1 .severe e.2 (restNow s e.1) (if e.1 = 12 then a else 0)

/-- All three copies of a field differ (R409). -/
def State.split (s : State) (a : Nat) (d : FieldDef) : State :=
  let s' := s.splitValue a d.lo ⟨a, d.hi, d.lo⟩
  let t := (s'.flag REG.ACC_EVT_VOTE_SPLIT).bump REG.SPLIT_CNT
  let t := t.setReg REG.SPLIT_ADDR a
  let t := ((t.setFld REG.SPLIT_INFO_LSB d.lo).setFld REG.SPLIT_INFO_WIDTH_M1 (d.hi - d.lo)).setFld
    REG.SPLIT_INFO_SOURCE (splitSrc s a).1
  t.splitEvent a

/-- The scrubber visits the voted field at address a, lowest bit lo, and finds these copies; `passUs` is the duration of the
pass that this visit ends (R408, R409).  A split is settled from what the field held before it: the value in force where the
block's table asks for that.  A software write of the field in the same cycle replaces the visit.  A field that its
block holds outside the register store has its copies there: what they vote for is what is read. -/
def State.scrubVisit (s : State) (a lo : Nat) (copies : Option (Nat × Nat × Nat)) (passUs : Option Nat) : State :=
  let s := match passUs with
    | some us => { s with acc := { s.acc with passUs := us } }
    | none => s
  match voteField a lo, copies with
  | some d, some (x, y, z) =>
    let m := 2 ^ (d.hi + 1 - d.lo)
    if s.softWrote ⟨a, d.hi, d.lo⟩ then s
    else
      let t := { s with regs := s.regs.upset a d.hi d.lo (x % m) (y % m) (z % m) }
      match majority (x % m) (y % m) (z % m) with
      | none => s.split a d
      | some v =>
        if x % m = y % m ∧ y % m = z % m then s
        else
          (if v = bitsOf (readPlain s .seq a) d.hi d.lo then s else t.setFld ⟨a, d.hi, d.lo⟩ v).voteRepaired a d.lo
  | _, _ => s

end Sys2Proof.Machine
end

