-- ==== Sys2Proof/Machine/Epoch.lean ====
section
/-! DEFINITION. The passing of MTB time, the epoch edge, and the domain snapshot 2 µs after it (01: R33 to R37; 03: R112 to
R118; 04: R125). -/
namespace Sys2Proof.Machine

/-- What has happened settles before time goes on, so that its events carry their own time (R474, R491). -/
def State.settled (s : State) : State := if s.evq.isEmpty then s else s.settle

/-- dt ns of MTB time pass: dividers, Breeze drivers and time keepers run, the counter advances (R33). -/
def State.passTime (s : State) (dt : Nat) : State :=
  let s := s.settled
  let t := ((s.cyclesAdvance dt).brzAdvance dt).tkAdvance dt
  { t with mtb := t.mtb + BitVec.ofNat 64 dt }.cycleFrom s

/-- The time left to the next epoch edge (R34). -/
def toEdge (s : State) : Nat := 25000 - s.now % 25000

/-- The estimators and the collector (R115 to R118, R557); no result is produced under a test of their islands. -/
def State.gather (s : State) : State := (if resultsOff s then s else s.estClose).collect.keepGood

/-- The tracked edges of an epoch reach their tracker: the first edge after a loss clears LOS (R56), the edge of a pulse reference
is its on-time edge, and a link that is down recovers no clock (R48).  Tracker 24 takes its edges from the cascade. -/
def State.takeEdges (s : State) (e : EdgeIn) : State :=
  if 24 ≤ e.trk ∨ e.n = 0 ∨ (16 ≤ e.trk ∧ ¬ (vat s.eth (e.trk - 16)).link) then s
  else if isPulse s e.trk then s.onTimeEdge e.trk e.first
  else (s.losClear e.trk e.first).trkEdges e.trk e.n e.first e.last

/-- What the other blocks do at the edge: the model term, the oven's watch, time keepers, band coverage, ports, cascade and
the supply's readings. -/
def State.edgeBlocks (s : State) (x : Sense) : State :=
  let s := ((s.sense x).loaEpoch).ovenTrack
  let s := (List.range 4).foldl State.tkEpoch s
  let s := (List.range 7).foldl State.synCover s
  let s := (s.ethEpoch.casEpoch).supplyRead x.supply
  if s.now % 1000000000 = 0 then s.pinSecond else s

/-- The epoch edge (R34) with the tracked edges of the epoch and the sensor readings of its end. -/
def State.epochWork (s : State) (es : List EdgeIn) (x : Sense) : State :=
  let s := es.foldl State.takeEdges s.domAdvance.collRelease
  let s := (s.closeAll.gather).edgeBlocks x
  { s with coll := { s.coll with stage := 0 } }

/-- A test of unit 43, 44 or 47 holds every domain on its steering word (R501). -/
def domsHeld (s : State) : Bool := s.testing 43 || s.testing 44 || s.testing 47

/-- Every domain processes the epoch, and the steering words reach the synthesisers (R36, R125). -/
def State.domEpochs (s : State) : State :=
  if domsHeld s then s else (List.range 7).foldl State.synSteer s.domSnapshot

/-- What the monitors decided by 1.5 µs after the edge and no command has done: the end of a wait and of a Windsock interval
(R61, R65, R81). -/
def State.monsDue (s : State) : State :=
  ((List.range 24).foldl (fun t k => (t.wtrExpire k).windsock k) s).casWtrExpire

/-- The stage of the epoch that has been reached. -/
def State.staged (s : State) (n : Nat) : State := { s with coll := { s.coll with stage := n } }

/-- Time runs on to an instant of the epoch in progress, given in ns after its edge, if that is still to come. -/
def State.runTo (s : State) (ofs : Nat) : State := s.passTime (ofs - s.now % 25000)

/-- The monitors have decided by 1.5 µs after the edge (R61). -/
def State.toDecided (s : State) : State :=
  if s.coll.stage = 0 then ((s.runTo 1500).monsDue).staged 1 else s

/-- DOMAIN_SNAPSHOT: 2 µs after the edge the domains process the epoch, once (R36, R125). -/
def State.toSnapshot (s : State) : State :=
  let s := s.toDecided
  if s.coll.stage = 1 then ((s.runTo 2000).domEpochs).staged 2 else s

/-- COLLECTOR_RELEASE: 4 µs after the edge the entries of the epoch are released (R117). -/
def State.toRelease (s : State) : State :=
  let s := s.toSnapshot
  if s.coll.stage = 2 then ((s.runTo 4000).collRelease).staged 3 else s

/-- EPOCH_EDGE: what remains of the epoch in progress is done, time runs up to the next edge, and its work is done. -/
def State.epochEdge (s : State) (es : List EdgeIn) (x : Sense) : State :=
  let s := s.toRelease
  (s.passTime (toEdge s)).epochWork es x

/-- Time runs on within the epoch in progress to an instant `ofs` ns after its edge, with what the epoch brings before it. -/
def State.runEpoch (s : State) (ofs : Nat) : State :=
  let s := if 1500 ≤ ofs then s.toDecided else s
  let s := if 2000 ≤ ofs then s.toSnapshot else s
  let s := if 4000 ≤ ofs then s.toRelease else s
  s.runTo ofs

/-- Whole ns to the start edge of output n, and the VCO units that have passed since it then. -/
def startNs (s : State) (n : Nat) : Nat := cdiv (toStart s n) (max 1 (s.synAt (outSyn s n)).rate)

/-- START_EDGE (R238, R245, R248): time runs on to the start edge of an output that waits for it alone and whose start edge lies
in the epoch in progress.  An aligning output above its format's limit is gated instead (R235). -/
def State.startEdge (s : State) (n : Nat) : State :=
  let k := outSyn s n
  if (s.outAt n).st == .aligning && synLocked s k && !isPulseOut s n && overLimit s n k (s.outAt n).div then s.outGate n
  else if ¬ mayStartEdge s n ∨ 25000 ≤ s.now % 25000 + startNs s n then s
  else
    -- the steering word of this epoch's snapshot moves the edge by less than a ns
    let t := s.runEpoch (s.now % 25000 + startNs s n - 1)
    let x := toStart t n
    let u := t.runEpoch (t.now % 25000 + startNs t n)
    if mayStartEdge t n ∧ mayStartEdge u n then u.outStart n (startNs t n * (t.synAt k).rate - x) else u

/-- What the module does while no command waits: one nanosecond passes, with what the epoch brings at the instant reached (log
entry 2). -/
def State.tick (s : State) : State :=
  let s := s.passTime 1
  match s.now % 25000 with
  | 0 => s.epochWork [] ⟨none, none, none⟩
  | 1500 => s.toDecided
  | 2000 => s.toSnapshot
  | 4000 => s.toRelease
  | _ => s

end Sys2Proof.Machine
end

