-- ==== Sys2Proof/Machine/Supervise.lean ====
section
/-! DEFINITION. The sequencer's watchdog and the supervision of the MTB (15: R480, R481), SAFE_N (R484), and what each output
driver does at its pad (07: R248, R260, R264, R265; 15: R481). -/
namespace Sys2Proof.Machine

/-- The watchdog expires: flag, WARN event, count, and a sequencer restart (R480). -/
def State.watchdog (s : State) : State :=
  let s := (s.flag SYS.SYS_EVT_WDOG).raise 2 .warn
  let s := ({ s with pwr := { s.pwr with wdog := true } }).countInc 8
  s.seqRestart

/-- The restart from ROM ends (R480). -/
def State.seqBack (s : State) : State := { s with seq := ⟨false⟩ }

/-- A clock fault is declared (R481).  While the register file is clocked source 3 raises its WARN event; a stopped MTB has
stopped the register file, and the wake logic takes the pads. -/
def State.clkDeclared (s : State) (stopped : Bool) : State :=
  let s := { s with pwr := { s.pwr with clkFault := true, clkSeen := true } }
  if stopped then { s with clockStop := true } else (s.flag SYS.SYS_EVT_CLK_FAULT).raise 3 .warn 1

/-- The MTB runs again (R481). -/
def State.clkRuns (s : State) : State :=
  if s.clockStop then ({ s with clockStop := false }.flag SYS.SYS_EVT_CLK_FAULT).raise 3 .warn 2 else s

/-- The MTB is within its limits while it runs: the fault is no longer declared (R481). -/
def State.clkGood (s : State) : State := { s with pwr := { s.pwr with clkFault := false } }

/-- SAFE_N as recognised (R484). -/
def State.safePad (s : State) (low : Bool) : State := { s with pads := { s.pads with safeLow := low } }

/-- What a driver does at its pad: the levels of its legs TPnn_P and TPnn_N, or both legs high-impedance. -/
inductive Drive where
  | highZ
  | legs (p n : Bool)
  deriving DecidableEq, Repr, Inhabited

/-- The legs that carry a signal level under the driver setting in force: INV inverts it, and TPnn_N is the complement of
TPnn_P but for LVCMOS_INPH (R232). -/
def Output.carry (o : Output) (level : Bool) : Drive :=
  let p := level != (bitsOf o.drv 0 0 == 1)
  .legs p (if bitsOf o.drv 7 5 = 4 then p else !p)

/-- Held low: TPnn_P low, whatever INV says (log entry 86). -/
def Output.heldLow (o : Output) : Drive := .legs false (decide (bitsOf o.drv 7 5 ≠ 4))

/-- A Breeze driver's legs: TPnn_N is the complement but for LVCMOS_INPH (R232, R456). -/
def Breeze.legs (b : Breeze) (level : Bool) : Drive := .legs level (if bitsOf b.ctrl 13 11 = 4 then level else !level)

/-- The receiver of a port in INPUT role is on, its output driver off (R231). -/
def inputRole (s : State) (n : Nat) : Bool :=
  decide (n < 16) && s.fld (INM.IN_CFG_ROLE n) != 2 && (s.outAt n).st == .off && !(s.outAt n).busy

/-- Hold-up ends the high phase in progress after 50 µs (R537). -/
def cutShort (s : State) : Bool := s.pwr.holdup && decide (s.pwr.holdAt + 50000 ≤ s.now)

/-- A pulse is active high, or with POL active low (R255). -/
def signalOf (s : State) (n : Nat) (level : Bool) : Bool :=
  level != (isPulseOut s n && s.bit (PG.PG_CTRL_POL (s.fld (OUT.CTRL_PG_SEL n))))

/-- The driver of output n at this instant (R231, R236, R248, R249, R255, R260, R264, R265, R465, R481, R537; 17: every pad is
high-impedance while unpowered).  Whatever the state, a high phase or pulse in progress completes before the output rests, and a
Breeze driver that holds the port drives it (R456). -/
def driveOf (s : State) (n : Nat) : Drive :=
  let o := s.outAt n
  let rest := if outSafe s n = 1 then Drive.highZ else o.heldLow
  if s.pwr.st = .off ∨ inputRole s n then .highZ
  else if s.clockStop ∨ cutShort s then rest
  else if o.drvFault then .highZ
  else if o.high then o.carry (signalOf s n true)
  else if s.pwr.holdup ∧ ¬ brzOn s n then rest
  else match brzAt s n with
  | some b => b.legs (b.level s.pwr.brzT)
  | none =>
    match o.st with
    | .off => o.heldLow
    | .aligning => o.heldLow
    | .gated => o.heldLow
    | .run => o.carry (signalOf s n false)
    | .bypass => o.carry (signalOf s n false)
    | .safe => if emitsNow s n then o.carry false else rest
    | .test => rest
    | .parked => rest

/-- The pulses of generator p that its outputs emitted and withheld, in all. -/
def pulsesOf (s : State) (p : Nat) : Int × Int :=
  (List.range 40).foldl (fun (a : Int × Int) n =>
    if isPulseOut s n ∧ s.fld (OUT.CTRL_PG_SEL n) = p then (a.1 + (s.outAt n).emit, a.2 + (s.outAt n).gated) else a) (0, 0)

/-- PG_FRAME_EDGE: the frame at the outputs, its capture (R333), and the transactions that wait for it (R417). -/
def State.frameEdge (s : State) (p : Nat) : State :=
  let t := s.pgFrame p
  let g := t.pgAt p
  if g.after = (s.pgAt p).after then s
  else
    let a := pulsesOf s p
    let b := pulsesOf t p
    (t.capFrame p g.after (g.last.getD 0) (b.1 - a.1).toNat (b.2 - a.2).toNat).frameHit p

end Sys2Proof.Machine
end

