-- ==== Sys2Proof/Machine/Command.lean ====
section
/-! DEFINITION. What the meanings of the commands share: who can reach the register file, a read as a command, a TC10 wake pulse, a powered hour. -/
namespace Sys2Proof.Machine

/-- A writer or reader reaches the register file: the sequencer while it is clocked, a host interface while it answers (R401,
R467, R501).  The cascade context has no port of its own (R414). -/
def reach (s : State) (c : Ctx) : Bool :=
  match c with
  | .seq => clocked s
  | .cas => false
  | _ => answers s

/-- A read of one register with its effects (R39, R347, R413). -/
def State.readAt (s : State) (c : Ctx) (a : Nat) : State :=
  if mapped a then (s.readReg c a).2 else s.accUnmapped c a true

/-- TC10_WAKE_RX (R292, R468): the port takes the pulse while the register file is clocked or wakes with it; in DORMANT the
wake is a start. -/
def State.wakePulse (s : State) (n : Nat) : State :=
  let wakes := tc10Wakes s n
  if s.pwr.st = .dormant then (if wakes then s.wake 2 n else s)
  else
    let s := if wakes || clocked s then s.wakeRx n else s
    if wakes then s.wake 2 n else s

/-- An hour with VIN above turn-off (R439, R447, R508). -/
def State.hourPassed (s : State) : State :=
  let s := s.ctrBump 9
  let s := { s with nvs := { s.nvs with hoursLeft := s.nvs.hoursLeft - 1 } }
  { s with bist := { s.bist with hoursLeft := s.bist.hoursLeft - 1 } }

end Sys2Proof.Machine
end

