-- ==== Sys2Proof/Machine/CmdAccess.lean ====
section
/-! DEFINITION. The meanings of the commands of the host interfaces, the register file and transactions (12).
Each says when the module can take the command, and its effect on everything but the queue. -/
namespace Sys2Proof.Machine

/-- SPI_WRITE (R397). -/
def execSpiWrite (bs : List Byte) (s : State) : Host.Outcome State Fault Refusal :=
  took (answers s) s (s.frame .spi bs)

/-- SPI_READ (R393). -/
def execSpiRead (bs : List Byte) (s : State) : Host.Outcome State Fault Refusal :=
  took (answers s) s (s.frame .spi bs)

/-- SPI_READ16 (R393). -/
def execSpiRead16 (bs : List Byte) (s : State) : Host.Outcome State Fault Refusal :=
  took (answers s) s (s.frame .spi bs)

/-- SPI_PING (R392). -/
def execSpiPing (bs : List Byte) (s : State) : Host.Outcome State Fault Refusal :=
  took (answers s) s (s.frame .spi bs)

/-- FRAME_ERROR (R398). -/
def execFrameError (i2c : Bool) (bs : List Byte) (s : State) : Host.Outcome State Fault Refusal :=
  took (answers s && (!i2c || s.bit REG.IF_CFG_I2C_EN)) s (s.frame (if i2c then .i2c else .spi) bs)

/-- FRAME_CRC_ERROR (R397). -/
def execFrameCrcError (i2c : Bool) (bs : List Byte) (s : State) : Host.Outcome State Fault Refusal :=
  took (answers s && (!i2c || s.bit REG.IF_CFG_I2C_EN)) s (s.frame (if i2c then .i2c else .spi) bs)

/-- I2C_WRITE (R399). -/
def execI2cWrite (addr : Nat) (bs : List Byte) (s : State) : Host.Outcome State Fault Refusal :=
  took (answers s && i2cMine s addr) s (s.frame .i2c bs)

/-- I2C_READ (R399). -/
def execI2cRead (addr : Nat) (bs : List Byte) (s : State) : Host.Outcome State Fault Refusal :=
  took (answers s && i2cMine s addr) s (s.frame .i2c bs)

/-- I2C_TIMEOUT (R400). -/
def execI2cTimeout (s : State) : Host.Outcome State Fault Refusal :=
  took (answers s) s s.i2cTimeout

/-- HILDO_REQUEST (R401). -/
def execHildoRequest (n : Nat) (bs : List Byte) (s : State) : Host.Outcome State Fault Refusal :=
  took (answers s && decide (n < 8)) s (s.hildoRequest n bs)

/-- REGISTER_WRITE (R405). -/
def execRegisterWrite (c : Ctx) (a : Nat) (mask data : Nat) (s : State) : Host.Outcome State Fault Refusal :=
  took (reach s c) s (s.write c a mask data)

/-- SCRUB_VISIT (R408). -/
def execScrubVisit (a lo : Nat) (copies : Option (Nat × Nat × Nat)) (passUs : Option Nat) (s : State) : Host.Outcome State Fault Refusal :=
  took (clocked s) s (s.scrubVisit a lo copies passUs)

/-- TXN_OPEN (R415). -/
def execTxnOpen (c : Ctx) (mask data : Nat) (s : State) : Host.Outcome State Fault Refusal :=
  took (reach s c) s (s.write c REG.TXN_CTRL mask data)

/-- TXN_COMMIT (R417). -/
def execTxnCommit (c : Ctx) (mask data : Nat) (s : State) : Host.Outcome State Fault Refusal :=
  took (reach s c) s (s.write c REG.TXN_CTRL mask data)

/-- TXN_ABORT (R421). -/
def execTxnAbort (c : Ctx) (mask data : Nat) (s : State) : Host.Outcome State Fault Refusal :=
  took (reach s c) s (s.write c REG.TXN_CTRL mask data)

/-- TXN_APPLY (R419). -/
def execTxnApply (w : Nat) (s : State) : Host.Outcome State Fault Refusal :=
  took (clocked s && decide (w < 4)) s (s.txnApply w)

/-- TXN_LATE (R418). -/
def execTxnLate (w : Nat) (s : State) : Host.Outcome State Fault Refusal :=
  took (clocked s && decide (w < 4)) s (s.txnLate w)

end Sys2Proof.Machine
end

