-- ==== Sys2Proof/Machine/CmdFaults.lean ====
section
/-! DEFINITION. The meanings of the commands of faults, self-test, life cycle and memory (15, 16), and the rows that end a condition.
Each says when the module can take the command, and its effect on everything but the queue. -/
namespace Sys2Proof.Machine

/-- SEVERE_LATCH_CLEAR (R487). -/
def execSevereLatchClear (c : Ctx) (mask data : Nat) (s : State) : Host.Outcome State Fault Refusal :=
  took (reach s c) s (s.write c SYS.FLT_SRC mask data)

/-- PEND_CLEAR (R482). -/
def execPendClear (c : Ctx) (mask data : Nat) (s : State) : Host.Outcome State Fault Refusal :=
  took (reach s c) s (s.write c SYS.FLT_SRC mask data)

/-- PEND_CLR (R482). -/
def execPendClr (c : Ctx) (mask data : Nat) (s : State) : Host.Outcome State Fault Refusal :=
  took (reach s c) s (s.write c SYS.FLT_CTRL mask data)

/-- FAULT_COUNT_CLEAR (R479). -/
def execFaultCountClear (c : Ctx) (mask data : Nat) (s : State) : Host.Outcome State Fault Refusal :=
  took (reach s c) s (s.write c SYS.FLT_CTRL mask data)

/-- EVT_CLASS_WRITE (R479). -/
def execEvtClassWrite (c : Ctx) (src : Nat) (i : Nat) (mask data : Nat) (s : State) : Host.Outcome State Fault Refusal :=
  took (reach s c && decide (src < 128 ∧ i < 2)) s (s.write c (clsAddr src + i) mask data)

/-- FORCE_INJECT (R492). -/
def execForceInject (c : Ctx) (src : Nat) (mask data : Nat) (s : State) : Host.Outcome State Fault Refusal :=
  took (reach s c && decide (src < 128)) s (s.write c (clsAddr src) mask data)

/-- SAFE_N_FALL (R484). -/
def execSafeNFall (s : State) : Host.Outcome State Fault Refusal :=
  took (powered s) s (s.safePad true)

/-- SAFE_N_RISE (R484). -/
def execSafeNRise (s : State) : Host.Outcome State Fault Refusal :=
  took (powered s) s (s.safePad false)

/-- WATCHDOG_EXPIRE (R480). -/
def execWatchdogExpire (s : State) : Host.Outcome State Fault Refusal :=
  took (clocked s) s (s.watchdog)

/-- SEQUENCER_RESTART_DONE (R480). -/
def execSequencerRestartDone (s : State) : Host.Outcome State Fault Refusal :=
  took (clocked s) s (s.seqBack)

/-- CLOCK_FAULT (R481). -/
def execClockFault (stopped : Bool) (s : State) : Host.Outcome State Fault Refusal :=
  took (clocked s) s (s.clkDeclared stopped)

/-- MTB_RESTART (R481). -/
def execMtbRestart (s : State) : Host.Outcome State Fault Refusal :=
  took (powered s) s (s.clkRuns)

/-- BIST_REQUEST (R507). -/
def execBistRequest (c : Ctx) (mask data : Nat) (s : State) : Host.Outcome State Fault Refusal :=
  took (reach s c) s (s.write c BIST.BIST_CTRL mask data)

/-- BIST_ABORT (R507). -/
def execBistAbort (c : Ctx) (mask data : Nat) (s : State) : Host.Outcome State Fault Refusal :=
  took (reach s c) s (s.write c BIST.BIST_CTRL mask data)

/-- BACKGROUND_PASS (R508). -/
def execBackgroundPass (s : State) : Host.Outcome State Fault Refusal :=
  took (clocked s) s (s.bgPass)

/-- BIST_TEST_END (R502). -/
def execBistTestEnd (r : TestResult) (s : State) : Host.Outcome State Fault Refusal :=
  took (clocked s) s (s.testEnd r)

/-- LC_GO (R514). -/
def execLcGo (c : Ctx) (mask data : Nat) (s : State) : Host.Outcome State Fault Refusal :=
  took (reach s c) s (s.write c SYS.LC_CTRL mask data)

/-- LC_TRANSITION_DONE (R514). -/
def execLcTransitionDone (ok : Bool) (s : State) : Host.Outcome State Fault Refusal :=
  took (powered s) s (s.lcFuse ok)

/-- UNSEAL_KEY_COMMIT (R515). -/
def execUnsealKeyCommit (c : Ctx) (mask data : Nat) (s : State) : Host.Outcome State Fault Refusal :=
  took (reach s c) s (s.write c SYS.LC_CTRL mask data)

/-- SEAL_CLOSE (R515). -/
def execSealClose (c : Ctx) (mask data : Nat) (s : State) : Host.Outcome State Fault Refusal :=
  took (reach s c) s (s.write c SYS.LC_CTRL mask data)

/-- SEALING_WINDOW_EXPIRE (R515). -/
def execSealingWindowExpire (s : State) : Host.Outcome State Fault Refusal :=
  took (clocked s) s (s.sealExpire)

/-- UNSEAL_REQ (R516). -/
def execUnsealReq (c : Ctx) (mask data : Nat) (s : State) : Host.Outcome State Fault Refusal :=
  took (reach s c) s (s.write c SYS.LC_CTRL mask data)

/-- UNSEAL_GO (R516). -/
def execUnsealGo (c : Ctx) (mask data : Nat) (s : State) : Host.Outcome State Fault Refusal :=
  took (reach s c) s (s.write c SYS.LC_CTRL mask data)

/-- TAMPER (R518). -/
def execTamper (s : State) : Host.Outcome State Fault Refusal :=
  took (powered s) s (s.tamper)

/-- WIPE (R517). -/
def execWipe (c : Ctx) (mask data : Nat) (s : State) : Host.Outcome State Fault Refusal :=
  took (reach s c) s (s.write c MEM.WIPE_CTRL mask data)

/-- SRAM_SCRUB_PASS (R519). -/
def execSramScrubPass (ms corrected : Nat) (bad : List (Nat × Nat)) (shares : List Nat) (s : State) : Host.Outcome State Fault Refusal :=
  took (clocked s) s (s.sramScrub ms corrected bad shares)

/-- PHY_FAULT (R324). -/
def execPhyFault (n : Nat) (on : Bool) (s : State) : Host.Outcome State Fault Refusal :=
  took (clocked s && decide (n < 8)) s (s.phyFault n on)

/-- POWERED_HOUR (R447). -/
def execPoweredHour (s : State) : Host.Outcome State Fault Refusal :=
  took (s.pwr.st != .off) s s.hourPassed

/-- UV_WARN_CLEAR (R534). -/
def execUvWarnClear (vin : Nat) (s : State) : Host.Outcome State Fault Refusal :=
  took (powered s) s (s.uvWarnClear vin)

/-- INPUT_UV_ARM (R539). -/
def execInputUvArm (vin : Nat) (s : State) : Host.Outcome State Fault Refusal :=
  took (powered s) s (s.uvArm vin)

/-- OV_CLEAR (R534). -/
def execOvClear (vin : Nat) (s : State) : Host.Outcome State Fault Refusal :=
  took (powered s) s (s.ovClear vin)

/-- RAIL_RECOVERY (R555). -/
def execRailRecovery (r : Nat) (s : State) : Host.Outcome State Fault Refusal :=
  took (powered s) s (s.railOk r)

/-- TEMP_RECOVERY (R543). -/
def execTempRecovery (x : Temps) (s : State) : Host.Outcome State Fault Refusal :=
  took (clocked s) s (s.tempRecover x)

/-- CLOCK_FAULT_END (R481). -/
def execClockFaultEnd (s : State) : Host.Outcome State Fault Refusal :=
  took (powered s) s (s.clkGood)

end Sys2Proof.Machine
end

