-- ==== Sys2Proof/Machine/CmdInputs.lean ====
section
/-! DEFINITION. The meanings of the commands of the reference inputs, time of day, trackers and shared register operations (02, 03).
Each says when the module can take the command, and its effect on everything but the queue. -/
namespace Sys2Proof.Machine

/-- EPOCH_EDGE (R34). -/
def execEpochEdge (edges : List EdgeIn) (x : Sense) (s : State) : Host.Outcome State Fault Refusal :=
  took (clocked s) s (s.epochEdge edges x)

/-- COLLECTOR_RELEASE (R117). -/
def execCollectorRelease (s : State) : Host.Outcome State Fault Refusal :=
  took (clocked s) s (s.toRelease)

/-- PULSE_ON_TIME_EDGE (R81). -/
def execPulseOnTimeEdge (k stamp : Nat) (s : State) : Host.Outcome State Fault Refusal :=
  took (clocked s && decide (k < 24)) s (s.onTimeEdge k stamp)

/-- WTR_EXPIRE (R81). -/
def execWtrExpire (k : Nat) (s : State) : Host.Outcome State Fault Refusal :=
  took (clocked s && decide (k < 24)) s (s.wtrExpire k)

/-- WINDSOCK_SAMPLE (R65). -/
def execWindsockSample (k : Nat) (s : State) : Host.Outcome State Fault Refusal :=
  took (clocked s && decide (k < 24)) s (s.windsock k)

/-- TDC_CALIBRATION_DONE (R105). -/
def execTdcCalibrationDone (k fs : Nat) (s : State) : Host.Outcome State Fault Refusal :=
  took (clocked s && decide (k < 25)) s (s.tdcCal k fs)

/-- LOS_DETECT (R54). -/
def execLosDetect (k : Nat) (s : State) : Host.Outcome State Fault Refusal :=
  took (clocked s && decide (k < 24)) s (s.losDetect k)

/-- LOS_CLEAR (R56). -/
def execLosClear (k stamp : Nat) (s : State) : Host.Outcome State Fault Refusal :=
  took (clocked s && decide (k < 24)) s (s.losClear k stamp)

/-- IN_CFG_WRITE (R81). -/
def execInCfgWrite (c : Ctx) (k : Nat) (i : Nat) (mask data : Nat) (s : State) : Host.Outcome State Fault Refusal :=
  took (reach s c && decide (k < 24 ∧ i < 64)) s (s.write c (INM.IN_CFG k + i) mask data)

/-- ROLE_WRITE (R231). -/
def execRoleWrite (c : Ctx) (k : Nat) (mask data : Nat) (s : State) : Host.Outcome State Fault Refusal :=
  took (reach s c && decide (k < 24)) s (s.write c (INM.IN_CFG k) mask data)

/-- NOMINAL_WRITE (R53). -/
def execNominalWrite (c : Ctx) (k : Nat) (mask data : Nat) (s : State) : Host.Outcome State Fault Refusal :=
  took (reach s c && decide (k < 24)) s (s.write c (INM.NOM_DEN k) mask data)

/-- STAGED_SETTING_APPLY (R53). -/
def execStagedSettingApply (c : Ctx) (a : Nat) (mask data : Nat) (s : State) : Host.Outcome State Fault Refusal :=
  took (reach s c) s (s.write c a mask data)

/-- REQUAL (R81). -/
def execRequal (c : Ctx) (k : Nat) (mask data : Nat) (s : State) : Host.Outcome State Fault Refusal :=
  took (reach s c && decide (k < 24)) s (s.write c (INM.QUAL_CTRL k) mask data)

/-- FORCE_FAIL_WRITE (R90). -/
def execForceFailWrite (c : Ctx) (k : Nat) (mask data : Nat) (s : State) : Host.Outcome State Fault Refusal :=
  took (reach s c && decide (k < 24)) s (s.write c (INM.QUAL_CTRL k) mask data)

/-- WTR_WRITE (R80). -/
def execWtrWrite (c : Ctx) (k : Nat) (mask data : Nat) (s : State) : Host.Outcome State Fault Refusal :=
  took (reach s c && decide (k < 24)) s (s.write c (INM.WTR k) mask data)

/-- W1C_CLEAR (R88). -/
def execW1cClear (c : Ctx) (a : Nat) (mask data : Nat) (s : State) : Host.Outcome State Fault Refusal :=
  took (reach s c) s (s.write c a mask data)

/-- SELECT_COPY (R100). -/
def execSelectCopy (c : Ctx) (a : Nat) (mask data : Nat) (s : State) : Host.Outcome State Fault Refusal :=
  took (reach s c) s (s.write c a mask data)

/-- LATCHING_READ (R39). -/
def execLatchingRead (c : Ctx) (a : Nat) (s : State) : Host.Outcome State Fault Refusal :=
  took (reach s c) s (s.readAt c a)

/-- TOD_MESSAGE (R93). -/
def execTodMessage (m : TodMsg) (stamp : Nat) (s : State) : Host.Outcome State Fault Refusal :=
  took (clocked s) s (s.todTake m stamp)

/-- TOD_LOSS (R94). -/
def execTodLoss (s : State) : Host.Outcome State Fault Refusal :=
  took (clocked s) s (s.todLoss)

/-- TOD_ENABLE_WRITE (R94). -/
def execTodEnableWrite (c : Ctx) (mask data : Nat) (s : State) : Host.Outcome State Fault Refusal :=
  took (reach s c) s (s.write c SYS.TOD_CFG mask data)

/-- IN_DELAY_WRITE (R112). -/
def execInDelayWrite (c : Ctx) (k : Nat) (mask data : Nat) (s : State) : Host.Outcome State Fault Refusal :=
  took (reach s c && decide (k < 25)) s (s.write c (TRK.IN_DELAY k) mask data)

/-- SNAPSHOT_ARM (R120). -/
def execSnapshotArm (c : Ctx) (mask data : Nat) (s : State) : Host.Outcome State Fault Refusal :=
  took (reach s c) s (s.write c TRK.CTRL mask data)

/-- PEAK_CLR (R120). -/
def execPeakClr (c : Ctx) (a : Nat) (mask data : Nat) (s : State) : Host.Outcome State Fault Refusal :=
  took (reach s c) s (s.write c a mask data)

/-- CNT_CLR (R245). -/
def execCntClr (c : Ctx) (a : Nat) (mask data : Nat) (s : State) : Host.Outcome State Fault Refusal :=
  took (reach s c) s (s.write c a mask data)

end Sys2Proof.Machine
end

