-- ==== Sys2Proof/Machine/CmdNetwork.lean ====
section
/-! DEFINITION. The meanings of the commands of Ethernet ports and PTP (09).
Each says when the module can take the command, and its effect on everything but the queue. -/
namespace Sys2Proof.Machine

/-- LINK_UP (R290). -/
def execLinkUp (n sqi : Nat) (s : State) : Host.Outcome State Fault Refusal :=
  took (clocked s && decide (n < 8)) s (s.linkUp n sqi)

/-- LINK_FAILURE (R290). -/
def execLinkFailure (n : Nat) (s : State) : Host.Outcome State Fault Refusal :=
  took (clocked s && decide (n < 8)) s (s.linkFail n)

/-- ETH_SPEED_ROLE_WRITE (R290). -/
def execEthSpeedRoleWrite (c : Ctx) (n : Nat) (mask data : Nat) (s : State) : Host.Outcome State Fault Refusal :=
  took (reach s c && decide (n < 8)) s (s.write c (ETH.ETH_CFG n) mask data)

/-- TC10_SLEEP_REQ (R292). -/
def execTc10SleepReq (c : Ctx) (n : Nat) (mask data : Nat) (s : State) : Host.Outcome State Fault Refusal :=
  took (reach s c && decide (n < 8)) s (s.write c (ETH.PORT_CTRL n) mask data)

/-- TC10_SLEEP_ACCEPT_RX (R292). -/
def execTc10SleepAcceptRx (n : Nat) (accepted : Bool) (s : State) : Host.Outcome State Fault Refusal :=
  took (clocked s && decide (n < 8)) s (s.sleepAnswer n accepted)

/-- TC10_SLEEP_RX (R292). -/
def execTc10SleepRx (n : Nat) (s : State) : Host.Outcome State Fault Refusal :=
  took (clocked s && decide (n < 8)) s (s.sleepRx n)

/-- TC10_WAKE_REQ (R292). -/
def execTc10WakeReq (c : Ctx) (n : Nat) (mask data : Nat) (s : State) : Host.Outcome State Fault Refusal :=
  took (reach s c && decide (n < 8)) s (s.write c (ETH.PORT_CTRL n) mask data)

/-- TC10_WAKE_RX (R292). -/
def execTc10WakeRx (n : Nat) (s : State) : Host.Outcome State Fault Refusal :=
  took (alive s && decide (n < 8)) s (s.wakePulse n)

/-- FRAME_DISCARD (R294). -/
def execFrameDiscard (n : Nat) (bs : List Byte) (s : State) : Host.Outcome State Fault Refusal :=
  took (clocked s && decide (n < 8)) s (s.frameDiscard n bs)

/-- PTP_SYNC_RECEIVE (R312). -/
def execPtpSyncReceive (n stamp : Nat) (h : PtpHdr) (origin : Int) (s : State) : Host.Outcome State Fault Refusal :=
  took (clocked s && decide (n < 8)) s (s.syncRx n stamp h origin)

/-- PTP_FOLLOW_UP_RECEIVE (R307). -/
def execPtpFollowUpReceive (n : Nat) (h : PtpHdr) (origin : Int) (timeBase : Nat) (s : State) : Host.Outcome State Fault Refusal :=
  took (clocked s && decide (n < 8)) s (s.followUpRx n h origin timeBase)

/-- PTP_DELAY_REQ_RECEIVE (R304). -/
def execPtpDelayReqReceive (n stamp : Nat) (h : PtpHdr) (s : State) : Host.Outcome State Fault Refusal :=
  took (clocked s && decide (n < 8)) s (s.delayReqRx n stamp h)

/-- PTP_DELAY_RESP_RECEIVE (R309). -/
def execPtpDelayRespReceive (n : Nat) (h : PtpHdr) (reqId reqPort : Nat) (recv : Int) (s : State) : Host.Outcome State Fault Refusal :=
  took (clocked s && decide (n < 8)) s (s.delayRespRx n h reqId reqPort recv)

/-- PTP_PDELAY_REQ_RECEIVE (R304). -/
def execPtpPdelayReqReceive (n stamp out : Nat) (h : PtpHdr) (s : State) : Host.Outcome State Fault Refusal :=
  took (clocked s && decide (n < 8)) s (s.pdelayReqRx n stamp out h)

/-- PTP_PDELAY_RESP_RECEIVE (R310). -/
def execPtpPdelayRespReceive (n stamp : Nat) (h : PtpHdr) (reqId reqPort : Nat) (recv : Int) (s : State) : Host.Outcome State Fault Refusal :=
  took (clocked s && decide (n < 8)) s (s.pdelayRespRx n stamp h reqId reqPort recv)

/-- PTP_PDELAY_RESP_FUP_RECEIVE (R310). -/
def execPtpPdelayRespFupReceive (n : Nat) (h : PtpHdr) (reqId reqPort : Nat) (origin : Int) (s : State) : Host.Outcome State Fault Refusal :=
  took (clocked s && decide (n < 8)) s (s.pdelayFupRx n h reqId reqPort origin)

/-- PTP_ANNOUNCE_RECEIVE (R314). -/
def execPtpAnnounceReceive (n : Nat) (h : PtpHdr) (d : Dataset) (s : State) : Host.Outcome State Fault Refusal :=
  took (clocked s && decide (n < 8)) s (s.announceRx n h d)

/-- PTP_SIGNALING_RECEIVE (R306). -/
def execPtpSignalingReceive (n : Nat) (h : PtpHdr) (ask : Option (Int × Int × Int)) (s : State) : Host.Outcome State Fault Refusal :=
  took (clocked s && decide (n < 8)) s (s.signalingRx n h ask)

/-- PTP_MANAGEMENT_RECEIVE (R319). -/
def execPtpManagementReceive (n : Nat) (h : PtpHdr) (get : Bool) (ask : MgmtAsk) (target : Option Nat) (s : State) : Host.Outcome State Fault Refusal :=
  took (clocked s && decide (n < 8)) s (s.managementRx n h get ask target)

/-- SYNC_TX (R304). -/
def execSyncTx (n stamp : Nat) (s : State) : Host.Outcome State Fault Refusal :=
  took (clocked s && decide (n < 8)) s (s.syncTx n stamp)

/-- ANNOUNCE_TX (R304). -/
def execAnnounceTx (n : Nat) (s : State) : Host.Outcome State Fault Refusal :=
  took (clocked s && decide (n < 8)) s (s.announceTx n)

/-- DELAY_REQ_TX (R306). -/
def execDelayReqTx (n stamp : Nat) (s : State) : Host.Outcome State Fault Refusal :=
  took (clocked s && decide (n < 8)) s (s.delayReqTx n stamp)

/-- PDELAY_REQ_TX (R304). -/
def execPdelayReqTx (n stamp : Nat) (s : State) : Host.Outcome State Fault Refusal :=
  took (clocked s && decide (n < 8)) s (s.pdelayReqTx n stamp)

/-- SYNC_RECEIPT_TIMEOUT (R308). -/
def execSyncReceiptTimeout (n : Nat) (s : State) : Host.Outcome State Fault Refusal :=
  took (clocked s && decide (n < 8)) s (s.syncTimeout n)

/-- ANNOUNCE_RECEIPT_TIMEOUT (R308). -/
def execAnnounceReceiptTimeout (n : Nat) (s : State) : Host.Outcome State Fault Refusal :=
  took (clocked s && decide (n < 8)) s (s.announceTimeout n)

/-- FOLLOW_UP_MISSING (R307). -/
def execFollowUpMissing (n : Nat) (s : State) : Host.Outcome State Fault Refusal :=
  took (clocked s && decide (n < 8)) s (s.followUpMissing n)

/-- DELAY_RESP_MISSING (R307). -/
def execDelayRespMissing (n : Nat) (s : State) : Host.Outcome State Fault Refusal :=
  took (clocked s && decide (n < 8)) s (s.respMissing n)

/-- BMCA_RUN (R314). -/
def execBmcaRun (i us : Nat) (s : State) : Host.Outcome State Fault Refusal :=
  took (clocked s && decide (i < 4 ∧ s.seq.restarting = false)) s (s.bmcaRun i us)

/-- PTP_INSTANCE_ENABLE (R302). -/
def execPtpInstanceEnable (c : Ctx) (i : Nat) (mask data : Nat) (s : State) : Host.Outcome State Fault Refusal :=
  took (reach s c && decide (i < 4)) s (s.write c (PTI.INST_CTRL i) mask data)

/-- PORT_INSTANCE_CHANGE (R325). -/
def execPortInstanceChange (c : Ctx) (n : Nat) (mask data : Nat) (s : State) : Host.Outcome State Fault Refusal :=
  took (reach s c && decide (n < 8)) s (s.write c (ETH.PORT_CFG n) mask data)

/-- PD_RESTART (R311). -/
def execPdRestart (c : Ctx) (n : Nat) (mask data : Nat) (s : State) : Host.Outcome State Fault Refusal :=
  took (reach s c && decide (n < 8)) s (s.write c (ETH.PORT_CTRL n) mask data)

/-- KEY_SLOT_SELECT (R322). -/
def execKeySlotSelect (c : Ctx) (mask data : Nat) (s : State) : Host.Outcome State Fault Refusal :=
  took (reach s c) s (s.write c PTP.KEY_CTRL mask data)

/-- KEY_DATA_WRITE (R322). -/
def execKeyDataWrite (c : Ctx) (mask data : Nat) (s : State) : Host.Outcome State Fault Refusal :=
  took (reach s c) s (s.write c PTP.KEY_DATA mask data)

/-- KEY_COMMIT (R322). -/
def execKeyCommit (c : Ctx) (mask data : Nat) (s : State) : Host.Outcome State Fault Refusal :=
  took (reach s c) s (s.write c PTP.KEY_CTRL mask data)

/-- KEY_ERASE (R322). -/
def execKeyErase (c : Ctx) (mask data : Nat) (s : State) : Host.Outcome State Fault Refusal :=
  took (reach s c) s (s.write c PTP.KEY_CTRL mask data)

end Sys2Proof.Machine
end

