-- ==== Sys2Proof/Machine/CmdOutputs.lean ====
section
/-! DEFINITION. The meanings of the commands of outputs, pulse generators and time keepers (07, 08).
Each says when the module can take the command, and its effect on everything but the queue. -/
namespace Sys2Proof.Machine

/-- OUTPUT_ENABLE (R238). -/
def execOutputEnable (c : Ctx) (n : Nat) (mask data : Nat) (s : State) : Host.Outcome State Fault Refusal :=
  took (reach s c && decide (n < 40)) s (s.write c (OUT.CTRL n) mask data)

/-- OUTPUT_DISABLE (R238). -/
def execOutputDisable (c : Ctx) (n : Nat) (mask data : Nat) (s : State) : Host.Outcome State Fault Refusal :=
  took (reach s c && decide (n < 40)) s (s.write c (OUT.CTRL n) mask data)

/-- START_EDGE (R248). -/
def execStartEdge (n : Nat) (s : State) : Host.Outcome State Fault Refusal :=
  took (clocked s && decide (n < 40)) s (s.startEdge n)

/-- STEP_WRITE (R240). -/
def execStepWrite (c : Ctx) (n : Nat) (mask data : Nat) (s : State) : Host.Outcome State Fault Refusal :=
  took (reach s c && decide (n < 40)) s (s.write c (OUT.STEP n) mask data)

/-- DLY_WRITE (R243). -/
def execDlyWrite (c : Ctx) (n : Nat) (mask data : Nat) (s : State) : Host.Outcome State Fault Refusal :=
  took (reach s c && decide (n < 40)) s (s.write c (OUT.DLY n) mask data)

/-- DIV_WRITE (R234). -/
def execDivWrite (c : Ctx) (n : Nat) (mask data : Nat) (s : State) : Host.Outcome State Fault Refusal :=
  took (reach s c && decide (n < 40)) s (s.write c (OUT.DIV n + 1) mask data)

/-- BYP_DIV_WRITE (R250). -/
def execBypDivWrite (c : Ctx) (n : Nat) (mask data : Nat) (s : State) : Host.Outcome State Fault Refusal :=
  took (reach s c && decide (n < 40)) s (s.write c (OUT.BYP_DIV n + 1) mask data)

/-- DRIVER_FAULT (R264). -/
def execDriverFault (n : Nat) (s : State) : Host.Outcome State Fault Refusal :=
  took (clocked s && decide (n < 40)) s (s.outFault n)

/-- DRIVER_PROBE (R264). -/
def execDriverProbe (c : Ctx) (n : Nat) (mask data : Nat) (s : State) : Host.Outcome State Fault Refusal :=
  took (reach s c && decide (n < 40)) s (s.write c (OUT.EVT n) mask data)

/-- DRIVER_PROBE_END (R264). -/
def execDriverProbeEnd (n : Nat) (persists : Bool) (s : State) : Host.Outcome State Fault Refusal :=
  took (clocked s && decide (n < 40)) s (s.outProbeEnd n persists)

/-- PG_ENABLE (R255). -/
def execPgEnable (c : Ctx) (p : Nat) (mask data : Nat) (s : State) : Host.Outcome State Fault Refusal :=
  took (reach s c && decide (p < 8)) s (s.write c (PG.PG_CTRL p) mask data)

/-- PG_PERIOD_WRITE (R254). -/
def execPgPeriodWrite (c : Ctx) (p : Nat) (mask data : Nat) (s : State) : Host.Outcome State Fault Refusal :=
  took (reach s c && decide (p < 8)) s (s.write c (PG.PER_DEN p) mask data)

/-- PG_OFFSET_WRITE (R258). -/
def execPgOffsetWrite (c : Ctx) (p : Nat) (mask data : Nat) (s : State) : Host.Outcome State Fault Refusal :=
  took (reach s c && decide (p < 8)) s (s.write c (PG.OFFSET p + 2) mask data)

/-- PG_ALIGN (R257). -/
def execPgAlign (c : Ctx) (p : Nat) (mask data : Nat) (s : State) : Host.Outcome State Fault Refusal :=
  took (reach s c && decide (p < 8)) s (s.write c (PG.PG_CTRL p) mask data)

/-- PG_FRAME_EDGE (R259). -/
def execPgFrameEdge (p : Nat) (s : State) : Host.Outcome State Fault Refusal :=
  took (clocked s && decide (p < 8)) s (s.frameEdge p)

/-- TK_ENABLE (R274). -/
def execTkEnable (c : Ctx) (t : Nat) (mask data : Nat) (s : State) : Host.Outcome State Fault Refusal :=
  took (reach s c && decide (t < 4)) s (s.write c (TK.TK_CTRL t) mask data)

/-- TK_DISABLE (R274). -/
def execTkDisable (c : Ctx) (t : Nat) (mask data : Nat) (s : State) : Host.Outcome State Fault Refusal :=
  took (reach s c && decide (t < 4)) s (s.write c (TK.TK_CTRL t) mask data)

/-- TK_INPUT_LOSS (R279). -/
def execTkInputLoss (t : Nat) (s : State) : Host.Outcome State Fault Refusal :=
  took (clocked s && decide (t < 4 ∧ s.seq.restarting = false)) s (s.tkLost t)

/-- TK_CLIP_ALARM (R280). -/
def execTkClipAlarm (t : Nat) (s : State) : Host.Outcome State Fault Refusal :=
  took (clocked s && decide (t < 4 ∧ s.seq.restarting = false)) s (s.tkClipAlarm t)

/-- TK_REARM (R275). -/
def execTkRearm (c : Ctx) (t : Nat) (mask data : Nat) (s : State) : Host.Outcome State Fault Refusal :=
  took (reach s c && decide (t < 4)) s (s.write c (TK.TK_CTRL t) mask data)

/-- TK_LOAD (R281). -/
def execTkLoad (c : Ctx) (t : Nat) (mask data : Nat) (s : State) : Host.Outcome State Fault Refusal :=
  took (reach s c && decide (t < 4)) s (s.write c (TK.TK_CTRL t) mask data)

/-- TK_CAPTURE (R282). -/
def execTkCapture (c : Ctx) (t : Nat) (mask data : Nat) (s : State) : Host.Outcome State Fault Refusal :=
  took (reach s c && decide (t < 4)) s (s.write c (TK.TK_CTRL t) mask data)

/-- TK_INCREMENT_WRITE (R272). -/
def execTkIncrementWrite (c : Ctx) (t : Nat) (mask data : Nat) (s : State) : Host.Outcome State Fault Refusal :=
  took (reach s c && decide (t < 4)) s (s.write c (TK.INC_FRAC t + 2) mask data)

/-- TK_SRC_WRITE (R274). -/
def execTkSrcWrite (c : Ctx) (t : Nat) (mask data : Nat) (s : State) : Host.Outcome State Fault Refusal :=
  took (reach s c && decide (t < 4)) s (s.write c (TK.TK_CTRL t) mask data)

/-- LEAP_SECOND (R284). -/
def execLeapSecond (t : Nat) (s : State) : Host.Outcome State Fault Refusal :=
  took (clocked s && decide (t < 4)) s (s.tkLeap t)

end Sys2Proof.Machine
end

