-- ==== Sys2Proof/Machine/CmdPower.lean ====
section
/-! DEFINITION. The meanings of the commands of starts, configuration, the non-volatile store, power states, supply and temperature (13, 14, 17).
Each says when the module can take the command, and its effect on everything but the queue. -/
namespace Sys2Proof.Machine

/-- POWER_UP (R453). -/
def execPowerUp (fl : Flash) (id role : Nat) (s : State) : Host.Outcome State Fault Refusal :=
  took (s.pwr.st == .off) s (s.powerOn fl id role)

/-- RESET_N_ASSERT (R424). -/
def execResetNAssert (s : State) : Host.Outcome State Fault Refusal :=
  took (alive s) s s.resetLow

/-- RESET_N_RELEASE (R453). -/
def execResetNRelease (fl : Flash) (id role : Nat) (s : State) : Host.Outcome State Fault Refusal :=
  took (s.pwr.st != .off && s.pads.resetLow) s (s.resetHigh fl id role)

/-- RECORD_WAIT_EXPIRE (R429). -/
def execRecordWaitExpire (s : State) : Host.Outcome State Fault Refusal :=
  took (clocked s) s (s.waitExpire)

/-- IMAGE_LOAD_DONE (R434). -/
def execImageLoadDone (s : State) : Host.Outcome State Fault Refusal :=
  took (clocked s) s (s.loadDone.bootEnd)

/-- STARTUP_BIST_DONE (R499). -/
def execStartupBistDone (rs : List TestResult) (s : State) : Host.Outcome State Fault Refusal :=
  took (clocked s) s (s.startupDone rs)

/-- BREEZE_STOP (R459). -/
def execBreezeStop (c : Ctx) (mask data : Nat) (s : State) : Host.Outcome State Fault Refusal :=
  took (reach s c) s (s.write c SYS.BRZ_CTRL mask data)

/-- STORE (R440). -/
def execStore (c : Ctx) (mask data : Nat) (s : State) : Host.Outcome State Fault Refusal :=
  took (reach s c) s (s.write c CFG.CFG_CTRL mask data)

/-- PAGE_WRITE_DONE (R437). -/
def execPageWriteDone (ok : Bool) (s : State) : Host.Outcome State Fault Refusal :=
  took (powered s) s (s.pageDone ok)

/-- STORE_DONE (R440). -/
def execStoreDone (s : State) : Host.Outcome State Fault Refusal :=
  took (powered s) s (s.storeOver)

/-- PAGE_READ (R444). -/
def execPageRead (c : Ctx) (mask data : Nat) (s : State) : Host.Outcome State Fault Refusal :=
  took (reach s c) s (s.write c NVS.NVS_CTRL mask data)

/-- PAGE_WRITE (R444). -/
def execPageWrite (c : Ctx) (mask data : Nat) (s : State) : Host.Outcome State Fault Refusal :=
  took (reach s c) s (s.write c NVS.NVS_CTRL mask data)

/-- PROTECT_WRITE (R443). -/
def execProtectWrite (c : Ctx) (mask data : Nat) (s : State) : Host.Outcome State Fault Refusal :=
  took (reach s c) s (s.write c NVS.PROTECT mask data)

/-- CNT_INC (R448). -/
def execCntInc (c : Ctx) (mask data : Nat) (s : State) : Host.Outcome State Fault Refusal :=
  took (reach s c) s (s.write c NVS.NVS_CTRL mask data)

/-- COUNTER_INCREMENT_ACK (R446). -/
def execCounterIncrementAck (ok : Bool) (s : State) : Host.Outcome State Fault Refusal :=
  took (powered s) s (s.incAck ok)

/-- MARGIN_SCRUB (R439). -/
def execMarginScrub (pages cells : List Nat) (s : State) : Host.Outcome State Fault Refusal :=
  took (powered s) s (s.marginScrub pages cells)

/-- POWER_GO (R464). -/
def execPowerGo (c : Ctx) (mask data : Nat) (s : State) : Host.Outcome State Fault Refusal :=
  took (reach s c) s (s.write c PWR.PS_CTRL mask data)

/-- WAKE_PAD (R468). -/
def execWakePad (high : Bool) (s : State) : Host.Outcome State Fault Refusal :=
  took (alive s && padWakes s high) s (s.wake 1 0)

/-- RTC_ALARM (R468). -/
def execRtcAlarm (s : State) : Host.Outcome State Fault Refusal :=
  took (alive s && rtcWakes s) s (s.wake 3 0)

/-- RTC_TICK (R33). -/
def execRtcTick (s : State) : Host.Outcome State Fault Refusal :=
  took (alive s) s (s.rtcTick)

/-- PM_REQ_WRITE (R470). -/
def execPmReqWrite (c : Ctx) (i : Nat) (mask data : Nat) (s : State) : Host.Outcome State Fault Refusal :=
  took (reach s c && decide (i < 2)) s (s.write c (MEM.PM_REQ + i) mask data)

/-- UV_WARNING (R534). -/
def execUvWarning (vin : Nat) (s : State) : Host.Outcome State Fault Refusal :=
  took (powered s) s (s.uvWarn vin)

/-- INPUT_UV (R537). -/
def execInputUv (vin : Nat) (s : State) : Host.Outcome State Fault Refusal :=
  took (powered s) s (s.inputUv vin)

/-- TURN_OFF (R534). -/
def execTurnOff (vin : Nat) (s : State) : Host.Outcome State Fault Refusal :=
  took (powered s) s (s.turnOff vin)

/-- OVERVOLTAGE (R534). -/
def execOvervoltage (vin : Nat) (s : State) : Host.Outcome State Fault Refusal :=
  took (powered s) s (s.overVolt vin)

/-- RAIL_FAULT (R555). -/
def execRailFault (r : Nat) (s : State) : Host.Outcome State Fault Refusal :=
  took (powered s) s (s.railFault r)

/-- HOLDUP_END (R537). -/
def execHoldupEnd (collapsed torn : Bool) (s : State) : Host.Outcome State Fault Refusal :=
  took (powered s) s (s.holdupEnd collapsed torn)

/-- HOLDUP_RESTART (R539). -/
def execHoldupRestart (fl : Flash) (id role : Nat) (s : State) : Host.Outcome State Fault Refusal :=
  took (s.pwr.st == .off) s (s.powerOn fl id role)

/-- TEMP_WARNING (R543). -/
def execTempWarning (x : Temps) (s : State) : Host.Outcome State Fault Refusal :=
  took (clocked s) s (s.tempWarn x)

/-- TEMP_LIMIT (R543). -/
def execTempLimit (x : Temps) (s : State) : Host.Outcome State Fault Refusal :=
  took (clocked s) s (s.tempLimit x)

/-- THERMAL_TRIP (R543). -/
def execThermalTrip (x : Temps) (s : State) : Host.Outcome State Fault Refusal :=
  took (clocked s) s (s.trip x)

/-- TRIP_CLEAR (R543). -/
def execTripClear (x : Temps) (s : State) : Host.Outcome State Fault Refusal :=
  took (clocked s) s (s.tripClear x)

end Sys2Proof.Machine
end

