-- ==== Sys2Proof/Machine/CmdRecords.lean ====
section
/-! DEFINITION. The meanings of the commands of capture, rings, export and the cascade (10, 11).
Each says when the module can take the command, and its effect on everything but the queue. -/
namespace Sys2Proof.Machine

/-- EDGE_CAPTURE (R329). -/
def execEdgeCapture (i : Nat) (rising : Bool) (stamp : Nat) (s : State) : Host.Outcome State Fault Refusal :=
  took (clocked s && decide (i < 16)) s (s.edgeCapture i rising stamp)

/-- RING_WRITE (R337). -/
def execRingWrite (k : Nat) (bad : Bool) (s : State) : Host.Outcome State Fault Refusal :=
  took (clocked s && decide (k < 16)) s (s.ringWrite k bad)

/-- RING_READ (R347). -/
def execRingRead (c : Ctx) (k : Nat) (s : State) : Host.Outcome State Fault Refusal :=
  took (reach s c && decide (k < 16)) s (s.readAt c (RING.RD_DATA k))

/-- RING_READ_RESTART (R347). -/
def execRingReadRestart (c : Ctx) (k : Nat) (mask data : Nat) (s : State) : Host.Outcome State Fault Refusal :=
  took (reach s c && decide (k < 16)) s (s.write c (RING.RD_CTRL k) mask data)

/-- RING_CONFIG_WRITE (R341). -/
def execRingConfigWrite (c : Ctx) (k : Nat) (mask data : Nat) (s : State) : Host.Outcome State Fault Refusal :=
  took (reach s c && decide (k < 16)) s (s.write c (RING.RCFG k) mask data)

/-- RING_FLUSH (R342). -/
def execRingFlush (c : Ctx) (k : Nat) (mask data : Nat) (s : State) : Host.Outcome State Fault Refusal :=
  took (reach s c && decide (k < 16)) s (s.write c (RING.RCFG k) mask data)

/-- RING_CNT_CLR (R344). -/
def execRingCntClr (c : Ctx) (k : Nat) (mask data : Nat) (s : State) : Host.Outcome State Fault Refusal :=
  took (reach s c && decide (k < 16)) s (s.write c (RING.RCFG k) mask data)

/-- CAPTURE_CNT_CLR (R338). -/
def execCaptureCntClr (c : Ctx) (mask data : Nat) (s : State) : Host.Outcome State Fault Refusal :=
  took (reach s c) s (s.write c CAP.CAP_CTRL mask data)

/-- SEQ_CLR (R332). -/
def execSeqClr (c : Ctx) (mask data : Nat) (s : State) : Host.Outcome State Fault Refusal :=
  took (reach s c) s (s.write c CAP.CAP_CTRL mask data)

/-- EXPORT_ENABLE (R349). -/
def execExportEnable (c : Ctx) (x : Nat) (mask data : Nat) (s : State) : Host.Outcome State Fault Refusal :=
  took (reach s c && decide (x < 2)) s (s.write c (CAP.EXP_CFG x) mask data)

/-- EXPORT_TAKE (R349). -/
def execExportTake (x : Nat) (s : State) : Host.Outcome State Fault Refusal :=
  took (clocked s && decide (x < 2 ∧ s.seq.restarting = false)) s (s.expTake x)

/-- EXPORT_FLUSH_TIMEOUT (R351). -/
def execExportFlushTimeout (x : Nat) (s : State) : Host.Outcome State Fault Refusal :=
  took (clocked s && decide (x < 2 ∧ s.seq.restarting = false)) s (s.expFlush x)

/-- CAS_CHAIN_INSTANT (R364). -/
def execCasChainInstant (stamp : Nat) (s : State) : Host.Outcome State Fault Refusal :=
  took (clocked s) s (s.chainInstant stamp)

/-- CAS_FORWARD_FRAME (R367). -/
def execCasForwardFrame (stamp : Nat) (bs : List Byte) (s : State) : Host.Outcome State Fault Refusal :=
  took (clocked s) s (s.takeFrame stamp bs)

/-- CAS_RETURN_FRAME (R370). -/
def execCasReturnFrame (stamp : Nat) (bs : List Byte) (s : State) : Host.Outcome State Fault Refusal :=
  took (clocked s) s (s.backFrame stamp bs)

/-- BCAST_DEADLINE (R381). -/
def execBcastDeadline (s : State) : Host.Outcome State Fault Refusal :=
  took (clocked s) s (s.bcDeadline)

/-- BCAST_APPLY (R382). -/
def execBcastApply (s : State) : Host.Outcome State Fault Refusal :=
  took (clocked s) s (s.bcApply)

/-- CAS_LINK_DOWN (R368). -/
def execCasLinkDown (up : Bool) (s : State) : Host.Outcome State Fault Refusal :=
  took (clocked s) s (s.casLinkDown up)

/-- CAS_ROLE_WRITE (R360). -/
def execCasRoleWrite (c : Ctx) (mask data : Nat) (s : State) : Host.Outcome State Fault Refusal :=
  took (reach s c) s (s.write c CAS.CAS_CFG mask data)

/-- CAS_RECAL (R371). -/
def execCasRecal (c : Ctx) (mask data : Nat) (s : State) : Host.Outcome State Fault Refusal :=
  took (reach s c) s (s.write c CAS.CAS_CTRL mask data)

/-- CAS_TAKEOVER (R376). -/
def execCasTakeover (s : State) : Host.Outcome State Fault Refusal :=
  took (clocked s) s (s.takeOver)

/-- CAS_YIELD (R377). -/
def execCasYield (c : Ctx) (mask data : Nat) (s : State) : Host.Outcome State Fault Refusal :=
  took (reach s c) s (s.write c CAS.CAS_CTRL mask data)

/-- CAS_REF_WTR_EXPIRE (R374). -/
def execCasRefWtrExpire (s : State) : Host.Outcome State Fault Refusal :=
  took (clocked s) s (s.casWtrExpire)

end Sys2Proof.Machine
end

