-- ==== Sys2Proof/Machine/CmdTiming.lean ====
section
/-! DEFINITION. The meanings of the commands of domains, the local oscillator and the synthesisers (04, 05, 06).
Each says when the module can take the command, and its effect on everything but the queue. -/
namespace Sys2Proof.Machine

/-- DOMAIN_SNAPSHOT (R125). -/
def execDomainSnapshot (s : State) : Host.Outcome State Fault Refusal :=
  took (clocked s) s (s.toSnapshot)

/-- MANUAL_SELECTION (R129). -/
def execManualSelection (c : Ctx) (d : Nat) (mask data : Nat) (s : State) : Host.Outcome State Fault Refusal :=
  took (reach s c && decide (d < 6)) s (s.write c (DOM.SEL_CTRL d) mask data)

/-- SLOT_WRITE (R130). -/
def execSlotWrite (c : Ctx) (d : Nat) (i : Nat) (mask data : Nat) (s : State) : Host.Outcome State Fault Refusal :=
  took (reach s c && decide (d < 6 ∧ i < 8)) s (s.write c (DOM.SLOT d i) mask data)

/-- MODE_WRITE (R127). -/
def execModeWrite (c : Ctx) (d : Nat) (mask data : Nat) (s : State) : Host.Outcome State Fault Refusal :=
  took (reach s c && decide (d < 6)) s (s.write c (DOM.SEL_CTRL d) mask data)

/-- BO_RESET (R144). -/
def execBoReset (c : Ctx) (d : Nat) (mask data : Nat) (s : State) : Host.Outcome State Fault Refusal :=
  took (reach s c && decide (d < 6)) s (s.write c (DOM.SEL_CTRL d) mask data)

/-- OFFSET_WRITE (R160). -/
def execOffsetWrite (c : Ctx) (d : Nat) (mask data : Nat) (s : State) : Host.Outcome State Fault Refusal :=
  took (reach s c && decide (d < 6)) s (s.write c (DOM.OFFSET d + 2) mask data)

/-- HOLDOVER_SECOND (R178). -/
def execHoldoverSecond (s : State) : Host.Outcome State Fault Refusal :=
  took (clocked s) s (s.holdoverSecond)

/-- HO_BUDGET_UPDATE (R180). -/
def execHoBudgetUpdate (d : Nat) (s : State) : Host.Outcome State Fault Refusal :=
  took (clocked s && decide (d < 6)) s (s.hoBudget d)

/-- OVEN_STATE_CHANGE (R169). -/
def execOvenStateChange (x : Sense) (s : State) : Host.Outcome State Fault Refusal :=
  took (clocked s) s ((s.sense x).ovenUpdate)

/-- OVEN_EN_WRITE (R169). -/
def execOvenEnWrite (c : Ctx) (mask data : Nat) (s : State) : Host.Outcome State Fault Refusal :=
  took (reach s c) s (s.write c LOA.OVEN_CTRL mask data)

/-- ACCELEROMETER_FAULT (R176). -/
def execAccelerometerFault (s : State) : Host.Outcome State Fault Refusal :=
  took (clocked s) s (s.accFault)

/-- ACC_RECOVERY (R176). -/
def execAccRecovery (s : State) : Host.Outcome State Fault Refusal :=
  took (clocked s) s (s.accRecover)

/-- LOAD_FACTORY (R173). -/
def execLoadFactory (c : Ctx) (mask data : Nat) (s : State) : Host.Outcome State Fault Refusal :=
  took (reach s c) s (s.write c LOA.COMP_CTRL mask data)

/-- APPLY_STAGED (R173). -/
def execApplyStaged (c : Ctx) (mask data : Nat) (s : State) : Host.Outcome State Fault Refusal :=
  took (reach s c) s (s.write c LOA.COMP_CTRL mask data)

/-- COMP_EN_WRITE (R559). -/
def execCompEnWrite (c : Ctx) (mask data : Nat) (s : State) : Host.Outcome State Fault Refusal :=
  took (reach s c) s (s.write c LOA.COMP_CTRL mask data)

/-- MODEL_LEARN_UPDATE (R175). -/
def execModelLearnUpdate (ps : List (Nat × Int)) (s : State) : Host.Outcome State Fault Refusal :=
  took (clocked s && decide (s.seq.restarting = false)) s (s.learnUpdate ps)

/-- SYN_ENABLE (R558). -/
def execSynEnable (c : Ctx) (k : Nat) (mask data : Nat) (s : State) : Host.Outcome State Fault Refusal :=
  took (reach s c && decide (k < 7)) s (s.write c (SYN.CTRL k) mask data)

/-- SYN_DISABLE (R214). -/
def execSynDisable (c : Ctx) (k : Nat) (mask data : Nat) (s : State) : Host.Outcome State Fault Refusal :=
  took (reach s c && decide (k < 7)) s (s.write c (SYN.CTRL k) mask data)

/-- UPDATE (R205). -/
def execUpdate (c : Ctx) (k : Nat) (mask data : Nat) (s : State) : Host.Outcome State Fault Refusal :=
  took (reach s c && decide (k < 7)) s (s.write c (SYN.CTRL k) mask data)

/-- APPLY_INSTANT (R206). -/
def execApplyInstant (k : Nat) (s : State) : Host.Outcome State Fault Refusal :=
  took (clocked s && decide (k < 7)) s (s.synApplyInstant k)

/-- GLIDE_COMPLETE (R209). -/
def execGlideComplete (k : Nat) (s : State) : Host.Outcome State Fault Refusal :=
  took (clocked s && decide (k < 7)) s (s.synGlideEnd k)

/-- RECAL (R211). -/
def execRecal (c : Ctx) (k : Nat) (mask data : Nat) (s : State) : Host.Outcome State Fault Refusal :=
  took (reach s c && decide (k < 7)) s (s.write c (SYN.CTRL k) mask data)

/-- LOCK_DECLARED (R214). -/
def execLockDeclared (k : Nat) (counts : List Nat) (ind : Comparator) (s : State) : Host.Outcome State Fault Refusal :=
  took (clocked s && decide (k < 7)) s (s.synLockInd k counts ind.low ind.held)

/-- LOSS_OF_LOCK (R215). -/
def execLossOfLock (k : Nat) (counts : List Nat) (ind : Comparator) (s : State) : Host.Outcome State Fault Refusal :=
  took (clocked s && decide (k < 7)) s (s.synLossInd k counts ind.low ind.held)

/-- RELOCK_OVERRUN (R213). -/
def execRelockOverrun (k : Nat) (s : State) : Host.Outcome State Fault Refusal :=
  took (clocked s && decide (k < 7)) s (s.synOverrun k)

/-- LOCK_TIMEOUT (R214). -/
def execLockTimeout (k : Nat) (s : State) : Host.Outcome State Fault Refusal :=
  took (clocked s && decide (k < 7)) s (s.synTimeout k)

/-- BYPASS_TRANSFER (R216). -/
def execBypassTransfer (n : Nat) (s : State) : Host.Outcome State Fault Refusal :=
  took (clocked s && decide (n < 40)) s (s.outBypass n)

/-- BAND_TABLE_STORE (R193). -/
def execBandTableStore (c : Ctx) (k : Nat) (mask data : Nat) (s : State) : Host.Outcome State Fault Refusal :=
  took (reach s c && decide (k < 7)) s (s.write c (SYN.BT_DATA2 k) mask data)

/-- BAND_TABLE_INDEX (R193). -/
def execBandTableIndex (c : Ctx) (k : Nat) (mask data : Nat) (s : State) : Host.Outcome State Fault Refusal :=
  took (reach s c && decide (k < 7)) s (s.write c (SYN.BT_CTRL k) mask data)

/-- LOCKA_SEL_WRITE (R203). -/
def execLockaSelWrite (c : Ctx) (mask data : Nat) (s : State) : Host.Outcome State Fault Refusal :=
  took (reach s c) s (s.write c SYS.LOCKA_SEL mask data)

end Sys2Proof.Machine
end

