-- ==== Sys2Proof/Machine/Dispatch.lean ====
section
/-! DEFINITION. The meaning of every command: one arm per row of the table of operations and events. -/
namespace Sys2Proof.Machine

/-- The command's effect on everything but the queue. -/
def exec (i : Instr) (s : State) : Host.Outcome State Fault Refusal :=
  match i with
  | .epochEdge edges x => Sys2Proof.Machine.execEpochEdge edges x s
  | .collectorRelease => Sys2Proof.Machine.execCollectorRelease s
  | .pulseOnTimeEdge k stamp => Sys2Proof.Machine.execPulseOnTimeEdge k stamp s
  | .wtrExpire k => Sys2Proof.Machine.execWtrExpire k s
  | .windsockSample k => Sys2Proof.Machine.execWindsockSample k s
  | .tdcCalibrationDone k fs => Sys2Proof.Machine.execTdcCalibrationDone k fs s
  | .losDetect k => Sys2Proof.Machine.execLosDetect k s
  | .losClear k stamp => Sys2Proof.Machine.execLosClear k stamp s
  | .inCfgWrite c k j mask data => Sys2Proof.Machine.execInCfgWrite c k j mask data s
  | .roleWrite c k mask data => Sys2Proof.Machine.execRoleWrite c k mask data s
  | .nominalWrite c k mask data => Sys2Proof.Machine.execNominalWrite c k mask data s
  | .stagedSettingApply c a mask data => Sys2Proof.Machine.execStagedSettingApply c a mask data s
  | .requal c k mask data => Sys2Proof.Machine.execRequal c k mask data s
  | .forceFailWrite c k mask data => Sys2Proof.Machine.execForceFailWrite c k mask data s
  | .wtrWrite c k mask data => Sys2Proof.Machine.execWtrWrite c k mask data s
  | .w1cClear c a mask data => Sys2Proof.Machine.execW1cClear c a mask data s
  | .selectCopy c a mask data => Sys2Proof.Machine.execSelectCopy c a mask data s
  | .latchingRead c a => Sys2Proof.Machine.execLatchingRead c a s
  | .todMessage m stamp => Sys2Proof.Machine.execTodMessage m stamp s
  | .todLoss => Sys2Proof.Machine.execTodLoss s
  | .todEnableWrite c mask data => Sys2Proof.Machine.execTodEnableWrite c mask data s
  | .inDelayWrite c k mask data => Sys2Proof.Machine.execInDelayWrite c k mask data s
  | .snapshotArm c mask data => Sys2Proof.Machine.execSnapshotArm c mask data s
  | .peakClr c a mask data => Sys2Proof.Machine.execPeakClr c a mask data s
  | .cntClr c a mask data => Sys2Proof.Machine.execCntClr c a mask data s
  | .domainSnapshot => Sys2Proof.Machine.execDomainSnapshot s
  | .manualSelection c d mask data => Sys2Proof.Machine.execManualSelection c d mask data s
  | .slotWrite c d j mask data => Sys2Proof.Machine.execSlotWrite c d j mask data s
  | .modeWrite c d mask data => Sys2Proof.Machine.execModeWrite c d mask data s
  | .boReset c d mask data => Sys2Proof.Machine.execBoReset c d mask data s
  | .offsetWrite c d mask data => Sys2Proof.Machine.execOffsetWrite c d mask data s
  | .holdoverSecond => Sys2Proof.Machine.execHoldoverSecond s
  | .hoBudgetUpdate d => Sys2Proof.Machine.execHoBudgetUpdate d s
  | .ovenStateChange x => Sys2Proof.Machine.execOvenStateChange x s
  | .ovenEnWrite c mask data => Sys2Proof.Machine.execOvenEnWrite c mask data s
  | .accelerometerFault => Sys2Proof.Machine.execAccelerometerFault s
  | .accRecovery => Sys2Proof.Machine.execAccRecovery s
  | .loadFactory c mask data => Sys2Proof.Machine.execLoadFactory c mask data s
  | .applyStaged c mask data => Sys2Proof.Machine.execApplyStaged c mask data s
  | .compEnWrite c mask data => Sys2Proof.Machine.execCompEnWrite c mask data s
  | .modelLearnUpdate ps => Sys2Proof.Machine.execModelLearnUpdate ps s
  | .synEnable c k mask data => Sys2Proof.Machine.execSynEnable c k mask data s
  | .synDisable c k mask data => Sys2Proof.Machine.execSynDisable c k mask data s
  | .update c k mask data => Sys2Proof.Machine.execUpdate c k mask data s
  | .applyInstant k => Sys2Proof.Machine.execApplyInstant k s
  | .glideComplete k => Sys2Proof.Machine.execGlideComplete k s
  | .recal c k mask data => Sys2Proof.Machine.execRecal c k mask data s
  | .lockDeclared k counts ind => Sys2Proof.Machine.execLockDeclared k counts ind s
  | .lossOfLock k counts ind => Sys2Proof.Machine.execLossOfLock k counts ind s
  | .relockOverrun k => Sys2Proof.Machine.execRelockOverrun k s
  | .lockTimeout k => Sys2Proof.Machine.execLockTimeout k s
  | .bypassTransfer n => Sys2Proof.Machine.execBypassTransfer n s
  | .bandTableStore c k mask data => Sys2Proof.Machine.execBandTableStore c k mask data s
  | .bandTableIndex c k mask data => Sys2Proof.Machine.execBandTableIndex c k mask data s
  | .lockaSelWrite c mask data => Sys2Proof.Machine.execLockaSelWrite c mask data s
  | .outputEnable c n mask data => Sys2Proof.Machine.execOutputEnable c n mask data s
  | .outputDisable c n mask data => Sys2Proof.Machine.execOutputDisable c n mask data s
  | .startEdge n => Sys2Proof.Machine.execStartEdge n s
  | .stepWrite c n mask data => Sys2Proof.Machine.execStepWrite c n mask data s
  | .dlyWrite c n mask data => Sys2Proof.Machine.execDlyWrite c n mask data s
  | .divWrite c n mask data => Sys2Proof.Machine.execDivWrite c n mask data s
  | .bypDivWrite c n mask data => Sys2Proof.Machine.execBypDivWrite c n mask data s
  | .driverFault n => Sys2Proof.Machine.execDriverFault n s
  | .driverProbe c n mask data => Sys2Proof.Machine.execDriverProbe c n mask data s
  | .driverProbeEnd n persists => Sys2Proof.Machine.execDriverProbeEnd n persists s
  | .pgEnable c p mask data => Sys2Proof.Machine.execPgEnable c p mask data s
  | .pgPeriodWrite c p mask data => Sys2Proof.Machine.execPgPeriodWrite c p mask data s
  | .pgOffsetWrite c p mask data => Sys2Proof.Machine.execPgOffsetWrite c p mask data s
  | .pgAlign c p mask data => Sys2Proof.Machine.execPgAlign c p mask data s
  | .pgFrameEdge p => Sys2Proof.Machine.execPgFrameEdge p s
  | .tkEnable c t mask data => Sys2Proof.Machine.execTkEnable c t mask data s
  | .tkDisable c t mask data => Sys2Proof.Machine.execTkDisable c t mask data s
  | .tkInputLoss t => Sys2Proof.Machine.execTkInputLoss t s
  | .tkClipAlarm t => Sys2Proof.Machine.execTkClipAlarm t s
  | .tkRearm c t mask data => Sys2Proof.Machine.execTkRearm c t mask data s
  | .tkLoad c t mask data => Sys2Proof.Machine.execTkLoad c t mask data s
  | .tkCapture c t mask data => Sys2Proof.Machine.execTkCapture c t mask data s
  | .tkIncrementWrite c t mask data => Sys2Proof.Machine.execTkIncrementWrite c t mask data s
  | .tkSrcWrite c t mask data => Sys2Proof.Machine.execTkSrcWrite c t mask data s
  | .leapSecond t => Sys2Proof.Machine.execLeapSecond t s
  | .linkUp n sqi => Sys2Proof.Machine.execLinkUp n sqi s
  | .linkFailure n => Sys2Proof.Machine.execLinkFailure n s
  | .ethSpeedRoleWrite c n mask data => Sys2Proof.Machine.execEthSpeedRoleWrite c n mask data s
  | .tc10SleepReq c n mask data => Sys2Proof.Machine.execTc10SleepReq c n mask data s
  | .tc10SleepAcceptRx n accepted => Sys2Proof.Machine.execTc10SleepAcceptRx n accepted s
  | .tc10SleepRx n => Sys2Proof.Machine.execTc10SleepRx n s
  | .tc10WakeReq c n mask data => Sys2Proof.Machine.execTc10WakeReq c n mask data s
  | .tc10WakeRx n => Sys2Proof.Machine.execTc10WakeRx n s
  | .frameDiscard n bs => Sys2Proof.Machine.execFrameDiscard n bs s
  | .ptpSyncReceive n stamp h origin => Sys2Proof.Machine.execPtpSyncReceive n stamp h origin s
  | .ptpFollowUpReceive n h origin timeBase => Sys2Proof.Machine.execPtpFollowUpReceive n h origin timeBase s
  | .ptpDelayReqReceive n stamp h => Sys2Proof.Machine.execPtpDelayReqReceive n stamp h s
  | .ptpDelayRespReceive n h reqId reqPort recv => Sys2Proof.Machine.execPtpDelayRespReceive n h reqId reqPort recv s
  | .ptpPdelayReqReceive n stamp out h => Sys2Proof.Machine.execPtpPdelayReqReceive n stamp out h s
  | .ptpPdelayRespReceive n stamp h reqId reqPort recv => Sys2Proof.Machine.execPtpPdelayRespReceive n stamp h reqId reqPort recv s
  | .ptpPdelayRespFupReceive n h reqId reqPort origin => Sys2Proof.Machine.execPtpPdelayRespFupReceive n h reqId reqPort origin s
  | .ptpAnnounceReceive n h d => Sys2Proof.Machine.execPtpAnnounceReceive n h d s
  | .ptpSignalingReceive n h ask => Sys2Proof.Machine.execPtpSignalingReceive n h ask s
  | .ptpManagementReceive n h get ask target => Sys2Proof.Machine.execPtpManagementReceive n h get ask target s
  | .syncTx n stamp => Sys2Proof.Machine.execSyncTx n stamp s
  | .announceTx n => Sys2Proof.Machine.execAnnounceTx n s
  | .delayReqTx n stamp => Sys2Proof.Machine.execDelayReqTx n stamp s
  | .pdelayReqTx n stamp => Sys2Proof.Machine.execPdelayReqTx n stamp s
  | .syncReceiptTimeout n => Sys2Proof.Machine.execSyncReceiptTimeout n s
  | .announceReceiptTimeout n => Sys2Proof.Machine.execAnnounceReceiptTimeout n s
  | .followUpMissing n => Sys2Proof.Machine.execFollowUpMissing n s
  | .delayRespMissing n => Sys2Proof.Machine.execDelayRespMissing n s
  | .bmcaRun j us => Sys2Proof.Machine.execBmcaRun j us s
  | .ptpInstanceEnable c j mask data => Sys2Proof.Machine.execPtpInstanceEnable c j mask data s
  | .portInstanceChange c n mask data => Sys2Proof.Machine.execPortInstanceChange c n mask data s
  | .pdRestart c n mask data => Sys2Proof.Machine.execPdRestart c n mask data s
  | .keySlotSelect c mask data => Sys2Proof.Machine.execKeySlotSelect c mask data s
  | .keyDataWrite c mask data => Sys2Proof.Machine.execKeyDataWrite c mask data s
  | .keyCommit c mask data => Sys2Proof.Machine.execKeyCommit c mask data s
  | .keyErase c mask data => Sys2Proof.Machine.execKeyErase c mask data s
  | .edgeCapture j rising stamp => Sys2Proof.Machine.execEdgeCapture j rising stamp s
  | .ringWrite k bad => Sys2Proof.Machine.execRingWrite k bad s
  | .ringRead c k => Sys2Proof.Machine.execRingRead c k s
  | .ringReadRestart c k mask data => Sys2Proof.Machine.execRingReadRestart c k mask data s
  | .ringConfigWrite c k mask data => Sys2Proof.Machine.execRingConfigWrite c k mask data s
  | .ringFlush c k mask data => Sys2Proof.Machine.execRingFlush c k mask data s
  | .ringCntClr c k mask data => Sys2Proof.Machine.execRingCntClr c k mask data s
  | .captureCntClr c mask data => Sys2Proof.Machine.execCaptureCntClr c mask data s
  | .seqClr c mask data => Sys2Proof.Machine.execSeqClr c mask data s
  | .exportEnable c x mask data => Sys2Proof.Machine.execExportEnable c x mask data s
  | .exportTake x => Sys2Proof.Machine.execExportTake x s
  | .exportFlushTimeout x => Sys2Proof.Machine.execExportFlushTimeout x s
  | .casChainInstant stamp => Sys2Proof.Machine.execCasChainInstant stamp s
  | .casForwardFrame stamp bs => Sys2Proof.Machine.execCasForwardFrame stamp bs s
  | .casReturnFrame stamp bs => Sys2Proof.Machine.execCasReturnFrame stamp bs s
  | .bcastDeadline => Sys2Proof.Machine.execBcastDeadline s
  | .bcastApply => Sys2Proof.Machine.execBcastApply s
  | .casLinkDown up => Sys2Proof.Machine.execCasLinkDown up s
  | .casRoleWrite c mask data => Sys2Proof.Machine.execCasRoleWrite c mask data s
  | .casRecal c mask data => Sys2Proof.Machine.execCasRecal c mask data s
  | .casTakeover => Sys2Proof.Machine.execCasTakeover s
  | .casYield c mask data => Sys2Proof.Machine.execCasYield c mask data s
  | .casRefWtrExpire => Sys2Proof.Machine.execCasRefWtrExpire s
  | .spiWrite bs => Sys2Proof.Machine.execSpiWrite bs s
  | .spiRead bs => Sys2Proof.Machine.execSpiRead bs s
  | .spiRead16 bs => Sys2Proof.Machine.execSpiRead16 bs s
  | .spiPing bs => Sys2Proof.Machine.execSpiPing bs s
  | .frameError i2c bs => Sys2Proof.Machine.execFrameError i2c bs s
  | .frameCrcError i2c bs => Sys2Proof.Machine.execFrameCrcError i2c bs s
  | .i2cWrite addr bs => Sys2Proof.Machine.execI2cWrite addr bs s
  | .i2cRead addr bs => Sys2Proof.Machine.execI2cRead addr bs s
  | .i2cTimeout => Sys2Proof.Machine.execI2cTimeout s
  | .hildoRequest n bs => Sys2Proof.Machine.execHildoRequest n bs s
  | .registerWrite c a mask data => Sys2Proof.Machine.execRegisterWrite c a mask data s
  | .scrubVisit a lo copies passUs => Sys2Proof.Machine.execScrubVisit a lo copies passUs s
  | .txnOpen c mask data => Sys2Proof.Machine.execTxnOpen c mask data s
  | .txnCommit c mask data => Sys2Proof.Machine.execTxnCommit c mask data s
  | .txnAbort c mask data => Sys2Proof.Machine.execTxnAbort c mask data s
  | .txnApply w => Sys2Proof.Machine.execTxnApply w s
  | .txnLate w => Sys2Proof.Machine.execTxnLate w s
  | .powerUp fl id role => Sys2Proof.Machine.execPowerUp fl id role s
  | .resetNAssert => Sys2Proof.Machine.execResetNAssert s
  | .resetNRelease fl id role => Sys2Proof.Machine.execResetNRelease fl id role s
  | .recordWaitExpire => Sys2Proof.Machine.execRecordWaitExpire s
  | .imageLoadDone => Sys2Proof.Machine.execImageLoadDone s
  | .startupBistDone rs => Sys2Proof.Machine.execStartupBistDone rs s
  | .breezeStop c mask data => Sys2Proof.Machine.execBreezeStop c mask data s
  | .store c mask data => Sys2Proof.Machine.execStore c mask data s
  | .pageWriteDone ok => Sys2Proof.Machine.execPageWriteDone ok s
  | .storeDone => Sys2Proof.Machine.execStoreDone s
  | .pageRead c mask data => Sys2Proof.Machine.execPageRead c mask data s
  | .pageWrite c mask data => Sys2Proof.Machine.execPageWrite c mask data s
  | .protectWrite c mask data => Sys2Proof.Machine.execProtectWrite c mask data s
  | .cntInc c mask data => Sys2Proof.Machine.execCntInc c mask data s
  | .counterIncrementAck ok => Sys2Proof.Machine.execCounterIncrementAck ok s
  | .marginScrub pages cells => Sys2Proof.Machine.execMarginScrub pages cells s
  | .powerGo c mask data => Sys2Proof.Machine.execPowerGo c mask data s
  | .wakePad high => Sys2Proof.Machine.execWakePad high s
  | .rtcAlarm => Sys2Proof.Machine.execRtcAlarm s
  | .rtcTick => Sys2Proof.Machine.execRtcTick s
  | .pmReqWrite c j mask data => Sys2Proof.Machine.execPmReqWrite c j mask data s
  | .uvWarning vin => Sys2Proof.Machine.execUvWarning vin s
  | .inputUv vin => Sys2Proof.Machine.execInputUv vin s
  | .turnOff vin => Sys2Proof.Machine.execTurnOff vin s
  | .overvoltage vin => Sys2Proof.Machine.execOvervoltage vin s
  | .railFault r => Sys2Proof.Machine.execRailFault r s
  | .holdupEnd collapsed torn => Sys2Proof.Machine.execHoldupEnd collapsed torn s
  | .holdupRestart fl id role => Sys2Proof.Machine.execHoldupRestart fl id role s
  | .tempWarning x => Sys2Proof.Machine.execTempWarning x s
  | .tempLimit x => Sys2Proof.Machine.execTempLimit x s
  | .thermalTrip x => Sys2Proof.Machine.execThermalTrip x s
  | .tripClear x => Sys2Proof.Machine.execTripClear x s
  | .severeLatchClear c mask data => Sys2Proof.Machine.execSevereLatchClear c mask data s
  | .pendClear c mask data => Sys2Proof.Machine.execPendClear c mask data s
  | .pendClr c mask data => Sys2Proof.Machine.execPendClr c mask data s
  | .faultCountClear c mask data => Sys2Proof.Machine.execFaultCountClear c mask data s
  | .evtClassWrite c src j mask data => Sys2Proof.Machine.execEvtClassWrite c src j mask data s
  | .forceInject c src mask data => Sys2Proof.Machine.execForceInject c src mask data s
  | .safeNFall => Sys2Proof.Machine.execSafeNFall s
  | .safeNRise => Sys2Proof.Machine.execSafeNRise s
  | .watchdogExpire => Sys2Proof.Machine.execWatchdogExpire s
  | .sequencerRestartDone => Sys2Proof.Machine.execSequencerRestartDone s
  | .clockFault stopped => Sys2Proof.Machine.execClockFault stopped s
  | .mtbRestart => Sys2Proof.Machine.execMtbRestart s
  | .bistRequest c mask data => Sys2Proof.Machine.execBistRequest c mask data s
  | .bistAbort c mask data => Sys2Proof.Machine.execBistAbort c mask data s
  | .backgroundPass => Sys2Proof.Machine.execBackgroundPass s
  | .bistTestEnd r => Sys2Proof.Machine.execBistTestEnd r s
  | .lcGo c mask data => Sys2Proof.Machine.execLcGo c mask data s
  | .lcTransitionDone ok => Sys2Proof.Machine.execLcTransitionDone ok s
  | .unsealKeyCommit c mask data => Sys2Proof.Machine.execUnsealKeyCommit c mask data s
  | .sealClose c mask data => Sys2Proof.Machine.execSealClose c mask data s
  | .sealingWindowExpire => Sys2Proof.Machine.execSealingWindowExpire s
  | .unsealReq c mask data => Sys2Proof.Machine.execUnsealReq c mask data s
  | .unsealGo c mask data => Sys2Proof.Machine.execUnsealGo c mask data s
  | .tamper => Sys2Proof.Machine.execTamper s
  | .wipe c mask data => Sys2Proof.Machine.execWipe c mask data s
  | .sramScrubPass ms corrected bad shares => Sys2Proof.Machine.execSramScrubPass ms corrected bad shares s
  | .phyFault n on => Sys2Proof.Machine.execPhyFault n on s
  | .poweredHour => Sys2Proof.Machine.execPoweredHour s
  | .uvWarnClear vin => Sys2Proof.Machine.execUvWarnClear vin s
  | .inputUvArm vin => Sys2Proof.Machine.execInputUvArm vin s
  | .ovClear vin => Sys2Proof.Machine.execOvClear vin s
  | .railRecovery r => Sys2Proof.Machine.execRailRecovery r s
  | .tempRecovery x => Sys2Proof.Machine.execTempRecovery x s
  | .clockFaultEnd => Sys2Proof.Machine.execClockFaultEnd s

end Sys2Proof.Machine
end

