-- ==== Sys2Proof/Machine/Step.lean ====
section
/-! DEFINITION. One step: the command at the front of the queue, or a nanosecond of MTB time while none waits. -/
namespace Sys2Proof.Machine

/-- RESET_N holds the module, whose MTB runs on (R32, R33, R454). -/
def heldRunning (s : State) : Bool := s.pads.resetLow && s.pwr.st != .off && !s.clockStop

/-- With no command waiting the module's time goes on by 1 ns while its MTB runs, which is all that happens while RESET_N is low
(R33; log entry 2). -/
def idle (s : State) : Host.Outcome State Fault Refusal :=
  took (clocked s || heldRunning s) s (if heldRunning s then s.passTime 1 else s.tick)

/-- One step of the module. -/
def step (s : State) : Host.Outcome State Fault Refusal :=
  match s.pending with
  | [] => idle s
  | c :: rest => exec c { s with pending := rest }

/-- The state with the command that a word spells put at the front of its queue.  The table gives no command a word, so
no word spells one. -/
def State.withFetchWord (s : State) (nbits w : Nat) : State :=
  match decodeTableWord nbits w with
  | some c => { s with pending := c :: s.pending }
  | none => s

end Sys2Proof.Machine
end

