-- ==== Sys2Proof/Laws/State.lean ====
section
/-! SUPPORT. What each update of a part of State leaves in the other parts: one lemma per field per update. -/
namespace Sys2Proof.Machine

@[simp] theorem setReg_pending (s : State) (a n : Nat) : (s.setReg a n).pending = s.pending := rfl
@[simp] theorem setReg_eff (s : State) (a n : Nat) : (s.setReg a n).eff = s.eff := rfl
@[simp] theorem setReg_mtb (s : State) (a n : Nat) : (s.setReg a n).mtb = s.mtb := rfl
@[simp] theorem setReg_shadows (s : State) (a n : Nat) : (s.setReg a n).shadows = s.shadows := rfl
@[simp] theorem setReg_evq (s : State) (a n : Nat) : (s.setReg a n).evq = s.evq := rfl
@[simp] theorem setReg_flt (s : State) (a n : Nat) : (s.setReg a n).flt = s.flt := rfl
@[simp] theorem setReg_hist (s : State) (a n : Nat) : (s.setReg a n).hist = s.hist := rfl
@[simp] theorem setReg_pads (s : State) (a n : Nat) : (s.setReg a n).pads = s.pads := rfl
@[simp] theorem setReg_mon (s : State) (a n : Nat) : (s.setReg a n).mon = s.mon := rfl
@[simp] theorem setReg_tod (s : State) (a n : Nat) : (s.setReg a n).tod = s.tod := rfl
@[simp] theorem setReg_trk (s : State) (a n : Nat) : (s.setReg a n).trk = s.trk := rfl
@[simp] theorem setReg_coll (s : State) (a n : Nat) : (s.setReg a n).coll = s.coll := rfl
@[simp] theorem setReg_loa (s : State) (a n : Nat) : (s.setReg a n).loa = s.loa := rfl
@[simp] theorem setReg_dom (s : State) (a n : Nat) : (s.setReg a n).dom = s.dom := rfl
@[simp] theorem setReg_good (s : State) (a n : Nat) : (s.setReg a n).good = s.good := rfl
@[simp] theorem setReg_syn (s : State) (a n : Nat) : (s.setReg a n).syn = s.syn := rfl
@[simp] theorem setReg_outs (s : State) (a n : Nat) : (s.setReg a n).outs = s.outs := rfl
@[simp] theorem setReg_pg (s : State) (a n : Nat) : (s.setReg a n).pg = s.pg := rfl
@[simp] theorem setReg_tk (s : State) (a n : Nat) : (s.setReg a n).tk = s.tk := rfl
@[simp] theorem setReg_eth (s : State) (a n : Nat) : (s.setReg a n).eth = s.eth := rfl
@[simp] theorem setReg_ptp (s : State) (a n : Nat) : (s.setReg a n).ptp = s.ptp := rfl
@[simp] theorem setReg_ptpc (s : State) (a n : Nat) : (s.setReg a n).ptpc = s.ptpc := rfl
@[simp] theorem setReg_cap (s : State) (a n : Nat) : (s.setReg a n).cap = s.cap := rfl
@[simp] theorem setReg_cas (s : State) (a n : Nat) : (s.setReg a n).cas = s.cas := rfl
@[simp] theorem setReg_acc (s : State) (a n : Nat) : (s.setReg a n).acc = s.acc := rfl
@[simp] theorem setReg_cfg (s : State) (a n : Nat) : (s.setReg a n).cfg = s.cfg := rfl
@[simp] theorem setReg_nvs (s : State) (a n : Nat) : (s.setReg a n).nvs = s.nvs := rfl
@[simp] theorem setReg_pwr (s : State) (a n : Nat) : (s.setReg a n).pwr = s.pwr := rfl
@[simp] theorem setReg_thm (s : State) (a n : Nat) : (s.setReg a n).thm = s.thm := rfl
@[simp] theorem setReg_bist (s : State) (a n : Nat) : (s.setReg a n).bist = s.bist := rfl
@[simp] theorem setReg_lc (s : State) (a n : Nat) : (s.setReg a n).lc = s.lc := rfl
@[simp] theorem setReg_mem (s : State) (a n : Nat) : (s.setReg a n).mem = s.mem := rfl
@[simp] theorem setReg_seq (s : State) (a n : Nat) : (s.setReg a n).seq = s.seq := rfl
@[simp] theorem setReg_clockStop (s : State) (a n : Nat) : (s.setReg a n).clockStop = s.clockStop := rfl
@[simp] theorem setReg_free (s : State) (a n : Nat) : (s.setReg a n).free = s.free := rfl
@[simp] theorem setReg_found (s : State) (a n : Nat) : (s.setReg a n).found = s.found := rfl
@[simp] theorem setReg_cyc (s : State) (a n : Nat) : (s.setReg a n).cyc = s.cyc := rfl

@[simp] theorem setFld_pending (s : State) (x : Field) (v : Nat) : (s.setFld x v).pending = s.pending := rfl
@[simp] theorem setFld_eff (s : State) (x : Field) (v : Nat) : (s.setFld x v).eff = s.eff := rfl
@[simp] theorem setFld_mtb (s : State) (x : Field) (v : Nat) : (s.setFld x v).mtb = s.mtb := rfl
@[simp] theorem setFld_shadows (s : State) (x : Field) (v : Nat) : (s.setFld x v).shadows = s.shadows := rfl
@[simp] theorem setFld_evq (s : State) (x : Field) (v : Nat) : (s.setFld x v).evq = s.evq := rfl
@[simp] theorem setFld_flt (s : State) (x : Field) (v : Nat) : (s.setFld x v).flt = s.flt := rfl
@[simp] theorem setFld_hist (s : State) (x : Field) (v : Nat) : (s.setFld x v).hist = s.hist := rfl
@[simp] theorem setFld_pads (s : State) (x : Field) (v : Nat) : (s.setFld x v).pads = s.pads := rfl
@[simp] theorem setFld_mon (s : State) (x : Field) (v : Nat) : (s.setFld x v).mon = s.mon := rfl
@[simp] theorem setFld_tod (s : State) (x : Field) (v : Nat) : (s.setFld x v).tod = s.tod := rfl
@[simp] theorem setFld_trk (s : State) (x : Field) (v : Nat) : (s.setFld x v).trk = s.trk := rfl
@[simp] theorem setFld_coll (s : State) (x : Field) (v : Nat) : (s.setFld x v).coll = s.coll := rfl
@[simp] theorem setFld_loa (s : State) (x : Field) (v : Nat) : (s.setFld x v).loa = s.loa := rfl
@[simp] theorem setFld_dom (s : State) (x : Field) (v : Nat) : (s.setFld x v).dom = s.dom := rfl
@[simp] theorem setFld_good (s : State) (x : Field) (v : Nat) : (s.setFld x v).good = s.good := rfl
@[simp] theorem setFld_syn (s : State) (x : Field) (v : Nat) : (s.setFld x v).syn = s.syn := rfl
@[simp] theorem setFld_outs (s : State) (x : Field) (v : Nat) : (s.setFld x v).outs = s.outs := rfl
@[simp] theorem setFld_pg (s : State) (x : Field) (v : Nat) : (s.setFld x v).pg = s.pg := rfl
@[simp] theorem setFld_tk (s : State) (x : Field) (v : Nat) : (s.setFld x v).tk = s.tk := rfl
@[simp] theorem setFld_eth (s : State) (x : Field) (v : Nat) : (s.setFld x v).eth = s.eth := rfl
@[simp] theorem setFld_ptp (s : State) (x : Field) (v : Nat) : (s.setFld x v).ptp = s.ptp := rfl
@[simp] theorem setFld_ptpc (s : State) (x : Field) (v : Nat) : (s.setFld x v).ptpc = s.ptpc := rfl
@[simp] theorem setFld_cap (s : State) (x : Field) (v : Nat) : (s.setFld x v).cap = s.cap := rfl
@[simp] theorem setFld_cas (s : State) (x : Field) (v : Nat) : (s.setFld x v).cas = s.cas := rfl
@[simp] theorem setFld_acc (s : State) (x : Field) (v : Nat) : (s.setFld x v).acc = s.acc := rfl
@[simp] theorem setFld_cfg (s : State) (x : Field) (v : Nat) : (s.setFld x v).cfg = s.cfg := rfl
@[simp] theorem setFld_nvs (s : State) (x : Field) (v : Nat) : (s.setFld x v).nvs = s.nvs := rfl
@[simp] theorem setFld_pwr (s : State) (x : Field) (v : Nat) : (s.setFld x v).pwr = s.pwr := rfl
@[simp] theorem setFld_thm (s : State) (x : Field) (v : Nat) : (s.setFld x v).thm = s.thm := rfl
@[simp] theorem setFld_bist (s : State) (x : Field) (v : Nat) : (s.setFld x v).bist = s.bist := rfl
@[simp] theorem setFld_lc (s : State) (x : Field) (v : Nat) : (s.setFld x v).lc = s.lc := rfl
@[simp] theorem setFld_mem (s : State) (x : Field) (v : Nat) : (s.setFld x v).mem = s.mem := rfl
@[simp] theorem setFld_seq (s : State) (x : Field) (v : Nat) : (s.setFld x v).seq = s.seq := rfl
@[simp] theorem setFld_clockStop (s : State) (x : Field) (v : Nat) : (s.setFld x v).clockStop = s.clockStop := rfl
@[simp] theorem setFld_free (s : State) (x : Field) (v : Nat) : (s.setFld x v).free = s.free := rfl
@[simp] theorem setFld_found (s : State) (x : Field) (v : Nat) : (s.setFld x v).found = s.found := rfl
@[simp] theorem setFld_cyc (s : State) (x : Field) (v : Nat) : (s.setFld x v).cyc = s.cyc := rfl

@[simp] theorem flag_pending (s : State) (x : Field) : (s.flag x).pending = s.pending := rfl
@[simp] theorem flag_eff (s : State) (x : Field) : (s.flag x).eff = s.eff := rfl
@[simp] theorem flag_mtb (s : State) (x : Field) : (s.flag x).mtb = s.mtb := rfl
@[simp] theorem flag_shadows (s : State) (x : Field) : (s.flag x).shadows = s.shadows := rfl
@[simp] theorem flag_evq (s : State) (x : Field) : (s.flag x).evq = s.evq := rfl
@[simp] theorem flag_flt (s : State) (x : Field) : (s.flag x).flt = s.flt := rfl
@[simp] theorem flag_hist (s : State) (x : Field) : (s.flag x).hist = s.hist := rfl
@[simp] theorem flag_pads (s : State) (x : Field) : (s.flag x).pads = s.pads := rfl
@[simp] theorem flag_mon (s : State) (x : Field) : (s.flag x).mon = s.mon := rfl
@[simp] theorem flag_tod (s : State) (x : Field) : (s.flag x).tod = s.tod := rfl
@[simp] theorem flag_trk (s : State) (x : Field) : (s.flag x).trk = s.trk := rfl
@[simp] theorem flag_coll (s : State) (x : Field) : (s.flag x).coll = s.coll := rfl
@[simp] theorem flag_loa (s : State) (x : Field) : (s.flag x).loa = s.loa := rfl
@[simp] theorem flag_dom (s : State) (x : Field) : (s.flag x).dom = s.dom := rfl
@[simp] theorem flag_good (s : State) (x : Field) : (s.flag x).good = s.good := rfl
@[simp] theorem flag_syn (s : State) (x : Field) : (s.flag x).syn = s.syn := rfl
@[simp] theorem flag_outs (s : State) (x : Field) : (s.flag x).outs = s.outs := rfl
@[simp] theorem flag_pg (s : State) (x : Field) : (s.flag x).pg = s.pg := rfl
@[simp] theorem flag_tk (s : State) (x : Field) : (s.flag x).tk = s.tk := rfl
@[simp] theorem flag_eth (s : State) (x : Field) : (s.flag x).eth = s.eth := rfl
@[simp] theorem flag_ptp (s : State) (x : Field) : (s.flag x).ptp = s.ptp := rfl
@[simp] theorem flag_ptpc (s : State) (x : Field) : (s.flag x).ptpc = s.ptpc := rfl
@[simp] theorem flag_cap (s : State) (x : Field) : (s.flag x).cap = s.cap := rfl
@[simp] theorem flag_cas (s : State) (x : Field) : (s.flag x).cas = s.cas := rfl
@[simp] theorem flag_acc (s : State) (x : Field) : (s.flag x).acc = s.acc := rfl
@[simp] theorem flag_cfg (s : State) (x : Field) : (s.flag x).cfg = s.cfg := rfl
@[simp] theorem flag_nvs (s : State) (x : Field) : (s.flag x).nvs = s.nvs := rfl
@[simp] theorem flag_pwr (s : State) (x : Field) : (s.flag x).pwr = s.pwr := rfl
@[simp] theorem flag_thm (s : State) (x : Field) : (s.flag x).thm = s.thm := rfl
@[simp] theorem flag_bist (s : State) (x : Field) : (s.flag x).bist = s.bist := rfl
@[simp] theorem flag_lc (s : State) (x : Field) : (s.flag x).lc = s.lc := rfl
@[simp] theorem flag_mem (s : State) (x : Field) : (s.flag x).mem = s.mem := rfl
@[simp] theorem flag_seq (s : State) (x : Field) : (s.flag x).seq = s.seq := rfl
@[simp] theorem flag_clockStop (s : State) (x : Field) : (s.flag x).clockStop = s.clockStop := rfl
@[simp] theorem flag_free (s : State) (x : Field) : (s.flag x).free = s.free := rfl
@[simp] theorem flag_found (s : State) (x : Field) : (s.flag x).found = s.found := rfl

@[simp] theorem bump_pending (s : State) (a k : Nat) : (s.bump a k).pending = s.pending := rfl
@[simp] theorem bump_eff (s : State) (a k : Nat) : (s.bump a k).eff = s.eff := rfl
@[simp] theorem bump_mtb (s : State) (a k : Nat) : (s.bump a k).mtb = s.mtb := rfl
@[simp] theorem bump_shadows (s : State) (a k : Nat) : (s.bump a k).shadows = s.shadows := rfl
@[simp] theorem bump_evq (s : State) (a k : Nat) : (s.bump a k).evq = s.evq := rfl
@[simp] theorem bump_flt (s : State) (a k : Nat) : (s.bump a k).flt = s.flt := rfl
@[simp] theorem bump_hist (s : State) (a k : Nat) : (s.bump a k).hist = s.hist := rfl
@[simp] theorem bump_pads (s : State) (a k : Nat) : (s.bump a k).pads = s.pads := rfl
@[simp] theorem bump_mon (s : State) (a k : Nat) : (s.bump a k).mon = s.mon := rfl
@[simp] theorem bump_tod (s : State) (a k : Nat) : (s.bump a k).tod = s.tod := rfl
@[simp] theorem bump_trk (s : State) (a k : Nat) : (s.bump a k).trk = s.trk := rfl
@[simp] theorem bump_coll (s : State) (a k : Nat) : (s.bump a k).coll = s.coll := rfl
@[simp] theorem bump_loa (s : State) (a k : Nat) : (s.bump a k).loa = s.loa := rfl
@[simp] theorem bump_dom (s : State) (a k : Nat) : (s.bump a k).dom = s.dom := rfl
@[simp] theorem bump_good (s : State) (a k : Nat) : (s.bump a k).good = s.good := rfl
@[simp] theorem bump_syn (s : State) (a k : Nat) : (s.bump a k).syn = s.syn := rfl
@[simp] theorem bump_outs (s : State) (a k : Nat) : (s.bump a k).outs = s.outs := rfl
@[simp] theorem bump_pg (s : State) (a k : Nat) : (s.bump a k).pg = s.pg := rfl
@[simp] theorem bump_tk (s : State) (a k : Nat) : (s.bump a k).tk = s.tk := rfl
@[simp] theorem bump_eth (s : State) (a k : Nat) : (s.bump a k).eth = s.eth := rfl
@[simp] theorem bump_ptp (s : State) (a k : Nat) : (s.bump a k).ptp = s.ptp := rfl
@[simp] theorem bump_ptpc (s : State) (a k : Nat) : (s.bump a k).ptpc = s.ptpc := rfl
@[simp] theorem bump_cap (s : State) (a k : Nat) : (s.bump a k).cap = s.cap := rfl
@[simp] theorem bump_cas (s : State) (a k : Nat) : (s.bump a k).cas = s.cas := rfl
@[simp] theorem bump_acc (s : State) (a k : Nat) : (s.bump a k).acc = s.acc := rfl
@[simp] theorem bump_cfg (s : State) (a k : Nat) : (s.bump a k).cfg = s.cfg := rfl
@[simp] theorem bump_nvs (s : State) (a k : Nat) : (s.bump a k).nvs = s.nvs := rfl
@[simp] theorem bump_pwr (s : State) (a k : Nat) : (s.bump a k).pwr = s.pwr := rfl
@[simp] theorem bump_thm (s : State) (a k : Nat) : (s.bump a k).thm = s.thm := rfl
@[simp] theorem bump_bist (s : State) (a k : Nat) : (s.bump a k).bist = s.bist := rfl
@[simp] theorem bump_lc (s : State) (a k : Nat) : (s.bump a k).lc = s.lc := rfl
@[simp] theorem bump_mem (s : State) (a k : Nat) : (s.bump a k).mem = s.mem := rfl
@[simp] theorem bump_seq (s : State) (a k : Nat) : (s.bump a k).seq = s.seq := rfl
@[simp] theorem bump_clockStop (s : State) (a k : Nat) : (s.bump a k).clockStop = s.clockStop := rfl
@[simp] theorem bump_free (s : State) (a k : Nat) : (s.bump a k).free = s.free := rfl
@[simp] theorem bump_found (s : State) (a k : Nat) : (s.bump a k).found = s.found := rfl

@[simp] theorem bumpFld_pending (s : State) (x : Field) : (s.bumpFld x).pending = s.pending := rfl
@[simp] theorem bumpFld_eff (s : State) (x : Field) : (s.bumpFld x).eff = s.eff := rfl
@[simp] theorem bumpFld_mtb (s : State) (x : Field) : (s.bumpFld x).mtb = s.mtb := rfl
@[simp] theorem bumpFld_shadows (s : State) (x : Field) : (s.bumpFld x).shadows = s.shadows := rfl
@[simp] theorem bumpFld_evq (s : State) (x : Field) : (s.bumpFld x).evq = s.evq := rfl
@[simp] theorem bumpFld_flt (s : State) (x : Field) : (s.bumpFld x).flt = s.flt := rfl
@[simp] theorem bumpFld_hist (s : State) (x : Field) : (s.bumpFld x).hist = s.hist := rfl
@[simp] theorem bumpFld_pads (s : State) (x : Field) : (s.bumpFld x).pads = s.pads := rfl
@[simp] theorem bumpFld_mon (s : State) (x : Field) : (s.bumpFld x).mon = s.mon := rfl
@[simp] theorem bumpFld_tod (s : State) (x : Field) : (s.bumpFld x).tod = s.tod := rfl
@[simp] theorem bumpFld_trk (s : State) (x : Field) : (s.bumpFld x).trk = s.trk := rfl
@[simp] theorem bumpFld_coll (s : State) (x : Field) : (s.bumpFld x).coll = s.coll := rfl
@[simp] theorem bumpFld_loa (s : State) (x : Field) : (s.bumpFld x).loa = s.loa := rfl
@[simp] theorem bumpFld_dom (s : State) (x : Field) : (s.bumpFld x).dom = s.dom := rfl
@[simp] theorem bumpFld_good (s : State) (x : Field) : (s.bumpFld x).good = s.good := rfl
@[simp] theorem bumpFld_syn (s : State) (x : Field) : (s.bumpFld x).syn = s.syn := rfl
@[simp] theorem bumpFld_outs (s : State) (x : Field) : (s.bumpFld x).outs = s.outs := rfl
@[simp] theorem bumpFld_pg (s : State) (x : Field) : (s.bumpFld x).pg = s.pg := rfl
@[simp] theorem bumpFld_tk (s : State) (x : Field) : (s.bumpFld x).tk = s.tk := rfl
@[simp] theorem bumpFld_eth (s : State) (x : Field) : (s.bumpFld x).eth = s.eth := rfl
@[simp] theorem bumpFld_ptp (s : State) (x : Field) : (s.bumpFld x).ptp = s.ptp := rfl
@[simp] theorem bumpFld_ptpc (s : State) (x : Field) : (s.bumpFld x).ptpc = s.ptpc := rfl
@[simp] theorem bumpFld_cap (s : State) (x : Field) : (s.bumpFld x).cap = s.cap := rfl
@[simp] theorem bumpFld_cas (s : State) (x : Field) : (s.bumpFld x).cas = s.cas := rfl
@[simp] theorem bumpFld_acc (s : State) (x : Field) : (s.bumpFld x).acc = s.acc := rfl
@[simp] theorem bumpFld_cfg (s : State) (x : Field) : (s.bumpFld x).cfg = s.cfg := rfl
@[simp] theorem bumpFld_nvs (s : State) (x : Field) : (s.bumpFld x).nvs = s.nvs := rfl
@[simp] theorem bumpFld_pwr (s : State) (x : Field) : (s.bumpFld x).pwr = s.pwr := rfl
@[simp] theorem bumpFld_thm (s : State) (x : Field) : (s.bumpFld x).thm = s.thm := rfl
@[simp] theorem bumpFld_bist (s : State) (x : Field) : (s.bumpFld x).bist = s.bist := rfl
@[simp] theorem bumpFld_lc (s : State) (x : Field) : (s.bumpFld x).lc = s.lc := rfl
@[simp] theorem bumpFld_mem (s : State) (x : Field) : (s.bumpFld x).mem = s.mem := rfl
@[simp] theorem bumpFld_seq (s : State) (x : Field) : (s.bumpFld x).seq = s.seq := rfl
@[simp] theorem bumpFld_clockStop (s : State) (x : Field) : (s.bumpFld x).clockStop = s.clockStop := rfl
@[simp] theorem bumpFld_free (s : State) (x : Field) : (s.bumpFld x).free = s.free := rfl
@[simp] theorem bumpFld_found (s : State) (x : Field) : (s.bumpFld x).found = s.found := rfl

@[simp] theorem post_pending (s : State) (e : Event) : (s.post e).pending = s.pending := rfl
@[simp] theorem post_regs (s : State) (e : Event) : (s.post e).regs = s.regs := rfl
@[simp] theorem post_eff (s : State) (e : Event) : (s.post e).eff = s.eff := rfl
@[simp] theorem post_mtb (s : State) (e : Event) : (s.post e).mtb = s.mtb := rfl
@[simp] theorem post_shadows (s : State) (e : Event) : (s.post e).shadows = s.shadows := rfl
@[simp] theorem post_flt (s : State) (e : Event) : (s.post e).flt = s.flt := rfl
@[simp] theorem post_hist (s : State) (e : Event) : (s.post e).hist = s.hist := rfl
@[simp] theorem post_pads (s : State) (e : Event) : (s.post e).pads = s.pads := rfl
@[simp] theorem post_mon (s : State) (e : Event) : (s.post e).mon = s.mon := rfl
@[simp] theorem post_tod (s : State) (e : Event) : (s.post e).tod = s.tod := rfl
@[simp] theorem post_trk (s : State) (e : Event) : (s.post e).trk = s.trk := rfl
@[simp] theorem post_coll (s : State) (e : Event) : (s.post e).coll = s.coll := rfl
@[simp] theorem post_loa (s : State) (e : Event) : (s.post e).loa = s.loa := rfl
@[simp] theorem post_dom (s : State) (e : Event) : (s.post e).dom = s.dom := rfl
@[simp] theorem post_good (s : State) (e : Event) : (s.post e).good = s.good := rfl
@[simp] theorem post_syn (s : State) (e : Event) : (s.post e).syn = s.syn := rfl
@[simp] theorem post_outs (s : State) (e : Event) : (s.post e).outs = s.outs := rfl
@[simp] theorem post_pg (s : State) (e : Event) : (s.post e).pg = s.pg := rfl
@[simp] theorem post_tk (s : State) (e : Event) : (s.post e).tk = s.tk := rfl
@[simp] theorem post_eth (s : State) (e : Event) : (s.post e).eth = s.eth := rfl
@[simp] theorem post_ptp (s : State) (e : Event) : (s.post e).ptp = s.ptp := rfl
@[simp] theorem post_ptpc (s : State) (e : Event) : (s.post e).ptpc = s.ptpc := rfl
@[simp] theorem post_cap (s : State) (e : Event) : (s.post e).cap = s.cap := rfl
@[simp] theorem post_cas (s : State) (e : Event) : (s.post e).cas = s.cas := rfl
@[simp] theorem post_acc (s : State) (e : Event) : (s.post e).acc = s.acc := rfl
@[simp] theorem post_cfg (s : State) (e : Event) : (s.post e).cfg = s.cfg := rfl
@[simp] theorem post_nvs (s : State) (e : Event) : (s.post e).nvs = s.nvs := rfl
@[simp] theorem post_pwr (s : State) (e : Event) : (s.post e).pwr = s.pwr := rfl
@[simp] theorem post_thm (s : State) (e : Event) : (s.post e).thm = s.thm := rfl
@[simp] theorem post_bist (s : State) (e : Event) : (s.post e).bist = s.bist := rfl
@[simp] theorem post_lc (s : State) (e : Event) : (s.post e).lc = s.lc := rfl
@[simp] theorem post_mem (s : State) (e : Event) : (s.post e).mem = s.mem := rfl
@[simp] theorem post_seq (s : State) (e : Event) : (s.post e).seq = s.seq := rfl
@[simp] theorem post_clockStop (s : State) (e : Event) : (s.post e).clockStop = s.clockStop := rfl
@[simp] theorem post_free (s : State) (e : Event) : (s.post e).free = s.free := rfl
@[simp] theorem post_found (s : State) (e : Event) : (s.post e).found = s.found := rfl
@[simp] theorem post_cyc (s : State) (e : Event) : (s.post e).cyc = s.cyc := rfl

@[simp] theorem raise_pending (s : State) (a : Nat) (v : Severity) (b c d : Nat) (o : List Nat) : (s.raise a v b c d o).pending = s.pending := rfl
@[simp] theorem raise_regs (s : State) (a : Nat) (v : Severity) (b c d : Nat) (o : List Nat) : (s.raise a v b c d o).regs = s.regs := rfl
@[simp] theorem raise_eff (s : State) (a : Nat) (v : Severity) (b c d : Nat) (o : List Nat) : (s.raise a v b c d o).eff = s.eff := rfl
@[simp] theorem raise_mtb (s : State) (a : Nat) (v : Severity) (b c d : Nat) (o : List Nat) : (s.raise a v b c d o).mtb = s.mtb := rfl
@[simp] theorem raise_shadows (s : State) (a : Nat) (v : Severity) (b c d : Nat) (o : List Nat) : (s.raise a v b c d o).shadows = s.shadows := rfl
@[simp] theorem raise_flt (s : State) (a : Nat) (v : Severity) (b c d : Nat) (o : List Nat) : (s.raise a v b c d o).flt = s.flt := rfl
@[simp] theorem raise_hist (s : State) (a : Nat) (v : Severity) (b c d : Nat) (o : List Nat) : (s.raise a v b c d o).hist = s.hist := rfl
@[simp] theorem raise_pads (s : State) (a : Nat) (v : Severity) (b c d : Nat) (o : List Nat) : (s.raise a v b c d o).pads = s.pads := rfl
@[simp] theorem raise_mon (s : State) (a : Nat) (v : Severity) (b c d : Nat) (o : List Nat) : (s.raise a v b c d o).mon = s.mon := rfl
@[simp] theorem raise_tod (s : State) (a : Nat) (v : Severity) (b c d : Nat) (o : List Nat) : (s.raise a v b c d o).tod = s.tod := rfl
@[simp] theorem raise_trk (s : State) (a : Nat) (v : Severity) (b c d : Nat) (o : List Nat) : (s.raise a v b c d o).trk = s.trk := rfl
@[simp] theorem raise_coll (s : State) (a : Nat) (v : Severity) (b c d : Nat) (o : List Nat) : (s.raise a v b c d o).coll = s.coll := rfl
@[simp] theorem raise_loa (s : State) (a : Nat) (v : Severity) (b c d : Nat) (o : List Nat) : (s.raise a v b c d o).loa = s.loa := rfl
@[simp] theorem raise_dom (s : State) (a : Nat) (v : Severity) (b c d : Nat) (o : List Nat) : (s.raise a v b c d o).dom = s.dom := rfl
@[simp] theorem raise_good (s : State) (a : Nat) (v : Severity) (b c d : Nat) (o : List Nat) : (s.raise a v b c d o).good = s.good := rfl
@[simp] theorem raise_syn (s : State) (a : Nat) (v : Severity) (b c d : Nat) (o : List Nat) : (s.raise a v b c d o).syn = s.syn := rfl
@[simp] theorem raise_outs (s : State) (a : Nat) (v : Severity) (b c d : Nat) (o : List Nat) : (s.raise a v b c d o).outs = s.outs := rfl
@[simp] theorem raise_pg (s : State) (a : Nat) (v : Severity) (b c d : Nat) (o : List Nat) : (s.raise a v b c d o).pg = s.pg := rfl
@[simp] theorem raise_tk (s : State) (a : Nat) (v : Severity) (b c d : Nat) (o : List Nat) : (s.raise a v b c d o).tk = s.tk := rfl
@[simp] theorem raise_eth (s : State) (a : Nat) (v : Severity) (b c d : Nat) (o : List Nat) : (s.raise a v b c d o).eth = s.eth := rfl
@[simp] theorem raise_ptp (s : State) (a : Nat) (v : Severity) (b c d : Nat) (o : List Nat) : (s.raise a v b c d o).ptp = s.ptp := rfl
@[simp] theorem raise_ptpc (s : State) (a : Nat) (v : Severity) (b c d : Nat) (o : List Nat) : (s.raise a v b c d o).ptpc = s.ptpc := rfl
@[simp] theorem raise_cap (s : State) (a : Nat) (v : Severity) (b c d : Nat) (o : List Nat) : (s.raise a v b c d o).cap = s.cap := rfl
@[simp] theorem raise_cas (s : State) (a : Nat) (v : Severity) (b c d : Nat) (o : List Nat) : (s.raise a v b c d o).cas = s.cas := rfl
@[simp] theorem raise_acc (s : State) (a : Nat) (v : Severity) (b c d : Nat) (o : List Nat) : (s.raise a v b c d o).acc = s.acc := rfl
@[simp] theorem raise_cfg (s : State) (a : Nat) (v : Severity) (b c d : Nat) (o : List Nat) : (s.raise a v b c d o).cfg = s.cfg := rfl
@[simp] theorem raise_nvs (s : State) (a : Nat) (v : Severity) (b c d : Nat) (o : List Nat) : (s.raise a v b c d o).nvs = s.nvs := rfl
@[simp] theorem raise_pwr (s : State) (a : Nat) (v : Severity) (b c d : Nat) (o : List Nat) : (s.raise a v b c d o).pwr = s.pwr := rfl
@[simp] theorem raise_thm (s : State) (a : Nat) (v : Severity) (b c d : Nat) (o : List Nat) : (s.raise a v b c d o).thm = s.thm := rfl
@[simp] theorem raise_bist (s : State) (a : Nat) (v : Severity) (b c d : Nat) (o : List Nat) : (s.raise a v b c d o).bist = s.bist := rfl
@[simp] theorem raise_lc (s : State) (a : Nat) (v : Severity) (b c d : Nat) (o : List Nat) : (s.raise a v b c d o).lc = s.lc := rfl
@[simp] theorem raise_mem (s : State) (a : Nat) (v : Severity) (b c d : Nat) (o : List Nat) : (s.raise a v b c d o).mem = s.mem := rfl
@[simp] theorem raise_seq (s : State) (a : Nat) (v : Severity) (b c d : Nat) (o : List Nat) : (s.raise a v b c d o).seq = s.seq := rfl
@[simp] theorem raise_clockStop (s : State) (a : Nat) (v : Severity) (b c d : Nat) (o : List Nat) : (s.raise a v b c d o).clockStop = s.clockStop := rfl
@[simp] theorem raise_free (s : State) (a : Nat) (v : Severity) (b c d : Nat) (o : List Nat) : (s.raise a v b c d o).free = s.free := rfl
@[simp] theorem raise_found (s : State) (a : Nat) (v : Severity) (b c d : Nat) (o : List Nat) : (s.raise a v b c d o).found = s.found := rfl
@[simp] theorem raise_cyc (s : State) (a : Nat) (v : Severity) (b c d : Nat) (o : List Nat) : (s.raise a v b c d o).cyc = s.cyc := rfl

@[simp] theorem monUp_pending (s : State) (k : Nat) (f : Monitor → Monitor) : (s.monUp k f).pending = s.pending := rfl
@[simp] theorem monUp_regs (s : State) (k : Nat) (f : Monitor → Monitor) : (s.monUp k f).regs = s.regs := rfl
@[simp] theorem monUp_eff (s : State) (k : Nat) (f : Monitor → Monitor) : (s.monUp k f).eff = s.eff := rfl
@[simp] theorem monUp_mtb (s : State) (k : Nat) (f : Monitor → Monitor) : (s.monUp k f).mtb = s.mtb := rfl
@[simp] theorem monUp_shadows (s : State) (k : Nat) (f : Monitor → Monitor) : (s.monUp k f).shadows = s.shadows := rfl
@[simp] theorem monUp_evq (s : State) (k : Nat) (f : Monitor → Monitor) : (s.monUp k f).evq = s.evq := rfl
@[simp] theorem monUp_flt (s : State) (k : Nat) (f : Monitor → Monitor) : (s.monUp k f).flt = s.flt := rfl
@[simp] theorem monUp_hist (s : State) (k : Nat) (f : Monitor → Monitor) : (s.monUp k f).hist = s.hist := rfl
@[simp] theorem monUp_pads (s : State) (k : Nat) (f : Monitor → Monitor) : (s.monUp k f).pads = s.pads := rfl
@[simp] theorem monUp_tod (s : State) (k : Nat) (f : Monitor → Monitor) : (s.monUp k f).tod = s.tod := rfl
@[simp] theorem monUp_trk (s : State) (k : Nat) (f : Monitor → Monitor) : (s.monUp k f).trk = s.trk := rfl
@[simp] theorem monUp_coll (s : State) (k : Nat) (f : Monitor → Monitor) : (s.monUp k f).coll = s.coll := rfl
@[simp] theorem monUp_loa (s : State) (k : Nat) (f : Monitor → Monitor) : (s.monUp k f).loa = s.loa := rfl
@[simp] theorem monUp_dom (s : State) (k : Nat) (f : Monitor → Monitor) : (s.monUp k f).dom = s.dom := rfl
@[simp] theorem monUp_good (s : State) (k : Nat) (f : Monitor → Monitor) : (s.monUp k f).good = s.good := rfl
@[simp] theorem monUp_syn (s : State) (k : Nat) (f : Monitor → Monitor) : (s.monUp k f).syn = s.syn := rfl
@[simp] theorem monUp_outs (s : State) (k : Nat) (f : Monitor → Monitor) : (s.monUp k f).outs = s.outs := rfl
@[simp] theorem monUp_pg (s : State) (k : Nat) (f : Monitor → Monitor) : (s.monUp k f).pg = s.pg := rfl
@[simp] theorem monUp_tk (s : State) (k : Nat) (f : Monitor → Monitor) : (s.monUp k f).tk = s.tk := rfl
@[simp] theorem monUp_eth (s : State) (k : Nat) (f : Monitor → Monitor) : (s.monUp k f).eth = s.eth := rfl
@[simp] theorem monUp_ptp (s : State) (k : Nat) (f : Monitor → Monitor) : (s.monUp k f).ptp = s.ptp := rfl
@[simp] theorem monUp_ptpc (s : State) (k : Nat) (f : Monitor → Monitor) : (s.monUp k f).ptpc = s.ptpc := rfl
@[simp] theorem monUp_cap (s : State) (k : Nat) (f : Monitor → Monitor) : (s.monUp k f).cap = s.cap := rfl
@[simp] theorem monUp_cas (s : State) (k : Nat) (f : Monitor → Monitor) : (s.monUp k f).cas = s.cas := rfl
@[simp] theorem monUp_acc (s : State) (k : Nat) (f : Monitor → Monitor) : (s.monUp k f).acc = s.acc := rfl
@[simp] theorem monUp_cfg (s : State) (k : Nat) (f : Monitor → Monitor) : (s.monUp k f).cfg = s.cfg := rfl
@[simp] theorem monUp_nvs (s : State) (k : Nat) (f : Monitor → Monitor) : (s.monUp k f).nvs = s.nvs := rfl
@[simp] theorem monUp_pwr (s : State) (k : Nat) (f : Monitor → Monitor) : (s.monUp k f).pwr = s.pwr := rfl
@[simp] theorem monUp_thm (s : State) (k : Nat) (f : Monitor → Monitor) : (s.monUp k f).thm = s.thm := rfl
@[simp] theorem monUp_bist (s : State) (k : Nat) (f : Monitor → Monitor) : (s.monUp k f).bist = s.bist := rfl
@[simp] theorem monUp_lc (s : State) (k : Nat) (f : Monitor → Monitor) : (s.monUp k f).lc = s.lc := rfl
@[simp] theorem monUp_mem (s : State) (k : Nat) (f : Monitor → Monitor) : (s.monUp k f).mem = s.mem := rfl
@[simp] theorem monUp_seq (s : State) (k : Nat) (f : Monitor → Monitor) : (s.monUp k f).seq = s.seq := rfl
@[simp] theorem monUp_clockStop (s : State) (k : Nat) (f : Monitor → Monitor) : (s.monUp k f).clockStop = s.clockStop := rfl
@[simp] theorem monUp_free (s : State) (k : Nat) (f : Monitor → Monitor) : (s.monUp k f).free = s.free := rfl
@[simp] theorem monUp_found (s : State) (k : Nat) (f : Monitor → Monitor) : (s.monUp k f).found = s.found := rfl
@[simp] theorem monUp_cyc (s : State) (k : Nat) (f : Monitor → Monitor) : (s.monUp k f).cyc = s.cyc := rfl

@[simp] theorem trkUp_pending (s : State) (k : Nat) (f : Tracker → Tracker) : (s.trkUp k f).pending = s.pending := rfl
@[simp] theorem trkUp_regs (s : State) (k : Nat) (f : Tracker → Tracker) : (s.trkUp k f).regs = s.regs := rfl
@[simp] theorem trkUp_eff (s : State) (k : Nat) (f : Tracker → Tracker) : (s.trkUp k f).eff = s.eff := rfl
@[simp] theorem trkUp_mtb (s : State) (k : Nat) (f : Tracker → Tracker) : (s.trkUp k f).mtb = s.mtb := rfl
@[simp] theorem trkUp_shadows (s : State) (k : Nat) (f : Tracker → Tracker) : (s.trkUp k f).shadows = s.shadows := rfl
@[simp] theorem trkUp_evq (s : State) (k : Nat) (f : Tracker → Tracker) : (s.trkUp k f).evq = s.evq := rfl
@[simp] theorem trkUp_flt (s : State) (k : Nat) (f : Tracker → Tracker) : (s.trkUp k f).flt = s.flt := rfl
@[simp] theorem trkUp_hist (s : State) (k : Nat) (f : Tracker → Tracker) : (s.trkUp k f).hist = s.hist := rfl
@[simp] theorem trkUp_pads (s : State) (k : Nat) (f : Tracker → Tracker) : (s.trkUp k f).pads = s.pads := rfl
@[simp] theorem trkUp_mon (s : State) (k : Nat) (f : Tracker → Tracker) : (s.trkUp k f).mon = s.mon := rfl
@[simp] theorem trkUp_tod (s : State) (k : Nat) (f : Tracker → Tracker) : (s.trkUp k f).tod = s.tod := rfl
@[simp] theorem trkUp_coll (s : State) (k : Nat) (f : Tracker → Tracker) : (s.trkUp k f).coll = s.coll := rfl
@[simp] theorem trkUp_loa (s : State) (k : Nat) (f : Tracker → Tracker) : (s.trkUp k f).loa = s.loa := rfl
@[simp] theorem trkUp_dom (s : State) (k : Nat) (f : Tracker → Tracker) : (s.trkUp k f).dom = s.dom := rfl
@[simp] theorem trkUp_good (s : State) (k : Nat) (f : Tracker → Tracker) : (s.trkUp k f).good = s.good := rfl
@[simp] theorem trkUp_syn (s : State) (k : Nat) (f : Tracker → Tracker) : (s.trkUp k f).syn = s.syn := rfl
@[simp] theorem trkUp_outs (s : State) (k : Nat) (f : Tracker → Tracker) : (s.trkUp k f).outs = s.outs := rfl
@[simp] theorem trkUp_pg (s : State) (k : Nat) (f : Tracker → Tracker) : (s.trkUp k f).pg = s.pg := rfl
@[simp] theorem trkUp_tk (s : State) (k : Nat) (f : Tracker → Tracker) : (s.trkUp k f).tk = s.tk := rfl
@[simp] theorem trkUp_eth (s : State) (k : Nat) (f : Tracker → Tracker) : (s.trkUp k f).eth = s.eth := rfl
@[simp] theorem trkUp_ptp (s : State) (k : Nat) (f : Tracker → Tracker) : (s.trkUp k f).ptp = s.ptp := rfl
@[simp] theorem trkUp_ptpc (s : State) (k : Nat) (f : Tracker → Tracker) : (s.trkUp k f).ptpc = s.ptpc := rfl
@[simp] theorem trkUp_cap (s : State) (k : Nat) (f : Tracker → Tracker) : (s.trkUp k f).cap = s.cap := rfl
@[simp] theorem trkUp_cas (s : State) (k : Nat) (f : Tracker → Tracker) : (s.trkUp k f).cas = s.cas := rfl
@[simp] theorem trkUp_acc (s : State) (k : Nat) (f : Tracker → Tracker) : (s.trkUp k f).acc = s.acc := rfl
@[simp] theorem trkUp_cfg (s : State) (k : Nat) (f : Tracker → Tracker) : (s.trkUp k f).cfg = s.cfg := rfl
@[simp] theorem trkUp_nvs (s : State) (k : Nat) (f : Tracker → Tracker) : (s.trkUp k f).nvs = s.nvs := rfl
@[simp] theorem trkUp_pwr (s : State) (k : Nat) (f : Tracker → Tracker) : (s.trkUp k f).pwr = s.pwr := rfl
@[simp] theorem trkUp_thm (s : State) (k : Nat) (f : Tracker → Tracker) : (s.trkUp k f).thm = s.thm := rfl
@[simp] theorem trkUp_bist (s : State) (k : Nat) (f : Tracker → Tracker) : (s.trkUp k f).bist = s.bist := rfl
@[simp] theorem trkUp_lc (s : State) (k : Nat) (f : Tracker → Tracker) : (s.trkUp k f).lc = s.lc := rfl
@[simp] theorem trkUp_mem (s : State) (k : Nat) (f : Tracker → Tracker) : (s.trkUp k f).mem = s.mem := rfl
@[simp] theorem trkUp_seq (s : State) (k : Nat) (f : Tracker → Tracker) : (s.trkUp k f).seq = s.seq := rfl
@[simp] theorem trkUp_clockStop (s : State) (k : Nat) (f : Tracker → Tracker) : (s.trkUp k f).clockStop = s.clockStop := rfl
@[simp] theorem trkUp_free (s : State) (k : Nat) (f : Tracker → Tracker) : (s.trkUp k f).free = s.free := rfl
@[simp] theorem trkUp_found (s : State) (k : Nat) (f : Tracker → Tracker) : (s.trkUp k f).found = s.found := rfl
@[simp] theorem trkUp_cyc (s : State) (k : Nat) (f : Tracker → Tracker) : (s.trkUp k f).cyc = s.cyc := rfl

@[simp] theorem fltUp_pending (s : State) (k : Nat) (f : SrcState → SrcState) : (s.fltUp k f).pending = s.pending := rfl
@[simp] theorem fltUp_regs (s : State) (k : Nat) (f : SrcState → SrcState) : (s.fltUp k f).regs = s.regs := rfl
@[simp] theorem fltUp_eff (s : State) (k : Nat) (f : SrcState → SrcState) : (s.fltUp k f).eff = s.eff := rfl
@[simp] theorem fltUp_mtb (s : State) (k : Nat) (f : SrcState → SrcState) : (s.fltUp k f).mtb = s.mtb := rfl
@[simp] theorem fltUp_shadows (s : State) (k : Nat) (f : SrcState → SrcState) : (s.fltUp k f).shadows = s.shadows := rfl
@[simp] theorem fltUp_evq (s : State) (k : Nat) (f : SrcState → SrcState) : (s.fltUp k f).evq = s.evq := rfl
@[simp] theorem fltUp_hist (s : State) (k : Nat) (f : SrcState → SrcState) : (s.fltUp k f).hist = s.hist := rfl
@[simp] theorem fltUp_pads (s : State) (k : Nat) (f : SrcState → SrcState) : (s.fltUp k f).pads = s.pads := rfl
@[simp] theorem fltUp_mon (s : State) (k : Nat) (f : SrcState → SrcState) : (s.fltUp k f).mon = s.mon := rfl
@[simp] theorem fltUp_tod (s : State) (k : Nat) (f : SrcState → SrcState) : (s.fltUp k f).tod = s.tod := rfl
@[simp] theorem fltUp_trk (s : State) (k : Nat) (f : SrcState → SrcState) : (s.fltUp k f).trk = s.trk := rfl
@[simp] theorem fltUp_coll (s : State) (k : Nat) (f : SrcState → SrcState) : (s.fltUp k f).coll = s.coll := rfl
@[simp] theorem fltUp_loa (s : State) (k : Nat) (f : SrcState → SrcState) : (s.fltUp k f).loa = s.loa := rfl
@[simp] theorem fltUp_dom (s : State) (k : Nat) (f : SrcState → SrcState) : (s.fltUp k f).dom = s.dom := rfl
@[simp] theorem fltUp_good (s : State) (k : Nat) (f : SrcState → SrcState) : (s.fltUp k f).good = s.good := rfl
@[simp] theorem fltUp_syn (s : State) (k : Nat) (f : SrcState → SrcState) : (s.fltUp k f).syn = s.syn := rfl
@[simp] theorem fltUp_outs (s : State) (k : Nat) (f : SrcState → SrcState) : (s.fltUp k f).outs = s.outs := rfl
@[simp] theorem fltUp_pg (s : State) (k : Nat) (f : SrcState → SrcState) : (s.fltUp k f).pg = s.pg := rfl
@[simp] theorem fltUp_tk (s : State) (k : Nat) (f : SrcState → SrcState) : (s.fltUp k f).tk = s.tk := rfl
@[simp] theorem fltUp_eth (s : State) (k : Nat) (f : SrcState → SrcState) : (s.fltUp k f).eth = s.eth := rfl
@[simp] theorem fltUp_ptp (s : State) (k : Nat) (f : SrcState → SrcState) : (s.fltUp k f).ptp = s.ptp := rfl
@[simp] theorem fltUp_ptpc (s : State) (k : Nat) (f : SrcState → SrcState) : (s.fltUp k f).ptpc = s.ptpc := rfl
@[simp] theorem fltUp_cap (s : State) (k : Nat) (f : SrcState → SrcState) : (s.fltUp k f).cap = s.cap := rfl
@[simp] theorem fltUp_cas (s : State) (k : Nat) (f : SrcState → SrcState) : (s.fltUp k f).cas = s.cas := rfl
@[simp] theorem fltUp_acc (s : State) (k : Nat) (f : SrcState → SrcState) : (s.fltUp k f).acc = s.acc := rfl
@[simp] theorem fltUp_cfg (s : State) (k : Nat) (f : SrcState → SrcState) : (s.fltUp k f).cfg = s.cfg := rfl
@[simp] theorem fltUp_nvs (s : State) (k : Nat) (f : SrcState → SrcState) : (s.fltUp k f).nvs = s.nvs := rfl
@[simp] theorem fltUp_pwr (s : State) (k : Nat) (f : SrcState → SrcState) : (s.fltUp k f).pwr = s.pwr := rfl
@[simp] theorem fltUp_thm (s : State) (k : Nat) (f : SrcState → SrcState) : (s.fltUp k f).thm = s.thm := rfl
@[simp] theorem fltUp_bist (s : State) (k : Nat) (f : SrcState → SrcState) : (s.fltUp k f).bist = s.bist := rfl
@[simp] theorem fltUp_lc (s : State) (k : Nat) (f : SrcState → SrcState) : (s.fltUp k f).lc = s.lc := rfl
@[simp] theorem fltUp_mem (s : State) (k : Nat) (f : SrcState → SrcState) : (s.fltUp k f).mem = s.mem := rfl
@[simp] theorem fltUp_seq (s : State) (k : Nat) (f : SrcState → SrcState) : (s.fltUp k f).seq = s.seq := rfl
@[simp] theorem fltUp_clockStop (s : State) (k : Nat) (f : SrcState → SrcState) : (s.fltUp k f).clockStop = s.clockStop := rfl
@[simp] theorem fltUp_free (s : State) (k : Nat) (f : SrcState → SrcState) : (s.fltUp k f).free = s.free := rfl
@[simp] theorem fltUp_found (s : State) (k : Nat) (f : SrcState → SrcState) : (s.fltUp k f).found = s.found := rfl
@[simp] theorem fltUp_cyc (s : State) (k : Nat) (f : SrcState → SrcState) : (s.fltUp k f).cyc = s.cyc := rfl

@[simp] theorem domUp_pending (s : State) (k : Nat) (f : Domain → Domain) : (s.domUp k f).pending = s.pending := rfl
@[simp] theorem domUp_regs (s : State) (k : Nat) (f : Domain → Domain) : (s.domUp k f).regs = s.regs := rfl
@[simp] theorem domUp_eff (s : State) (k : Nat) (f : Domain → Domain) : (s.domUp k f).eff = s.eff := rfl
@[simp] theorem domUp_mtb (s : State) (k : Nat) (f : Domain → Domain) : (s.domUp k f).mtb = s.mtb := rfl
@[simp] theorem domUp_shadows (s : State) (k : Nat) (f : Domain → Domain) : (s.domUp k f).shadows = s.shadows := rfl
@[simp] theorem domUp_evq (s : State) (k : Nat) (f : Domain → Domain) : (s.domUp k f).evq = s.evq := rfl
@[simp] theorem domUp_flt (s : State) (k : Nat) (f : Domain → Domain) : (s.domUp k f).flt = s.flt := rfl
@[simp] theorem domUp_hist (s : State) (k : Nat) (f : Domain → Domain) : (s.domUp k f).hist = s.hist := rfl
@[simp] theorem domUp_pads (s : State) (k : Nat) (f : Domain → Domain) : (s.domUp k f).pads = s.pads := rfl
@[simp] theorem domUp_mon (s : State) (k : Nat) (f : Domain → Domain) : (s.domUp k f).mon = s.mon := rfl
@[simp] theorem domUp_tod (s : State) (k : Nat) (f : Domain → Domain) : (s.domUp k f).tod = s.tod := rfl
@[simp] theorem domUp_trk (s : State) (k : Nat) (f : Domain → Domain) : (s.domUp k f).trk = s.trk := rfl
@[simp] theorem domUp_coll (s : State) (k : Nat) (f : Domain → Domain) : (s.domUp k f).coll = s.coll := rfl
@[simp] theorem domUp_loa (s : State) (k : Nat) (f : Domain → Domain) : (s.domUp k f).loa = s.loa := rfl
@[simp] theorem domUp_good (s : State) (k : Nat) (f : Domain → Domain) : (s.domUp k f).good = s.good := rfl
@[simp] theorem domUp_syn (s : State) (k : Nat) (f : Domain → Domain) : (s.domUp k f).syn = s.syn := rfl
@[simp] theorem domUp_outs (s : State) (k : Nat) (f : Domain → Domain) : (s.domUp k f).outs = s.outs := rfl
@[simp] theorem domUp_pg (s : State) (k : Nat) (f : Domain → Domain) : (s.domUp k f).pg = s.pg := rfl
@[simp] theorem domUp_tk (s : State) (k : Nat) (f : Domain → Domain) : (s.domUp k f).tk = s.tk := rfl
@[simp] theorem domUp_eth (s : State) (k : Nat) (f : Domain → Domain) : (s.domUp k f).eth = s.eth := rfl
@[simp] theorem domUp_ptp (s : State) (k : Nat) (f : Domain → Domain) : (s.domUp k f).ptp = s.ptp := rfl
@[simp] theorem domUp_ptpc (s : State) (k : Nat) (f : Domain → Domain) : (s.domUp k f).ptpc = s.ptpc := rfl
@[simp] theorem domUp_cap (s : State) (k : Nat) (f : Domain → Domain) : (s.domUp k f).cap = s.cap := rfl
@[simp] theorem domUp_cas (s : State) (k : Nat) (f : Domain → Domain) : (s.domUp k f).cas = s.cas := rfl
@[simp] theorem domUp_acc (s : State) (k : Nat) (f : Domain → Domain) : (s.domUp k f).acc = s.acc := rfl
@[simp] theorem domUp_cfg (s : State) (k : Nat) (f : Domain → Domain) : (s.domUp k f).cfg = s.cfg := rfl
@[simp] theorem domUp_nvs (s : State) (k : Nat) (f : Domain → Domain) : (s.domUp k f).nvs = s.nvs := rfl
@[simp] theorem domUp_pwr (s : State) (k : Nat) (f : Domain → Domain) : (s.domUp k f).pwr = s.pwr := rfl
@[simp] theorem domUp_thm (s : State) (k : Nat) (f : Domain → Domain) : (s.domUp k f).thm = s.thm := rfl
@[simp] theorem domUp_bist (s : State) (k : Nat) (f : Domain → Domain) : (s.domUp k f).bist = s.bist := rfl
@[simp] theorem domUp_lc (s : State) (k : Nat) (f : Domain → Domain) : (s.domUp k f).lc = s.lc := rfl
@[simp] theorem domUp_mem (s : State) (k : Nat) (f : Domain → Domain) : (s.domUp k f).mem = s.mem := rfl
@[simp] theorem domUp_seq (s : State) (k : Nat) (f : Domain → Domain) : (s.domUp k f).seq = s.seq := rfl
@[simp] theorem domUp_clockStop (s : State) (k : Nat) (f : Domain → Domain) : (s.domUp k f).clockStop = s.clockStop := rfl
@[simp] theorem domUp_free (s : State) (k : Nat) (f : Domain → Domain) : (s.domUp k f).free = s.free := rfl
@[simp] theorem domUp_found (s : State) (k : Nat) (f : Domain → Domain) : (s.domUp k f).found = s.found := rfl
@[simp] theorem domUp_cyc (s : State) (k : Nat) (f : Domain → Domain) : (s.domUp k f).cyc = s.cyc := rfl

@[simp] theorem synUp_pending (s : State) (k : Nat) (f : Synth → Synth) : (s.synUp k f).pending = s.pending := rfl
@[simp] theorem synUp_regs (s : State) (k : Nat) (f : Synth → Synth) : (s.synUp k f).regs = s.regs := rfl
@[simp] theorem synUp_eff (s : State) (k : Nat) (f : Synth → Synth) : (s.synUp k f).eff = s.eff := rfl
@[simp] theorem synUp_mtb (s : State) (k : Nat) (f : Synth → Synth) : (s.synUp k f).mtb = s.mtb := rfl
@[simp] theorem synUp_shadows (s : State) (k : Nat) (f : Synth → Synth) : (s.synUp k f).shadows = s.shadows := rfl
@[simp] theorem synUp_evq (s : State) (k : Nat) (f : Synth → Synth) : (s.synUp k f).evq = s.evq := rfl
@[simp] theorem synUp_flt (s : State) (k : Nat) (f : Synth → Synth) : (s.synUp k f).flt = s.flt := rfl
@[simp] theorem synUp_hist (s : State) (k : Nat) (f : Synth → Synth) : (s.synUp k f).hist = s.hist := rfl
@[simp] theorem synUp_pads (s : State) (k : Nat) (f : Synth → Synth) : (s.synUp k f).pads = s.pads := rfl
@[simp] theorem synUp_mon (s : State) (k : Nat) (f : Synth → Synth) : (s.synUp k f).mon = s.mon := rfl
@[simp] theorem synUp_tod (s : State) (k : Nat) (f : Synth → Synth) : (s.synUp k f).tod = s.tod := rfl
@[simp] theorem synUp_trk (s : State) (k : Nat) (f : Synth → Synth) : (s.synUp k f).trk = s.trk := rfl
@[simp] theorem synUp_coll (s : State) (k : Nat) (f : Synth → Synth) : (s.synUp k f).coll = s.coll := rfl
@[simp] theorem synUp_loa (s : State) (k : Nat) (f : Synth → Synth) : (s.synUp k f).loa = s.loa := rfl
@[simp] theorem synUp_dom (s : State) (k : Nat) (f : Synth → Synth) : (s.synUp k f).dom = s.dom := rfl
@[simp] theorem synUp_good (s : State) (k : Nat) (f : Synth → Synth) : (s.synUp k f).good = s.good := rfl
@[simp] theorem synUp_outs (s : State) (k : Nat) (f : Synth → Synth) : (s.synUp k f).outs = s.outs := rfl
@[simp] theorem synUp_pg (s : State) (k : Nat) (f : Synth → Synth) : (s.synUp k f).pg = s.pg := rfl
@[simp] theorem synUp_tk (s : State) (k : Nat) (f : Synth → Synth) : (s.synUp k f).tk = s.tk := rfl
@[simp] theorem synUp_eth (s : State) (k : Nat) (f : Synth → Synth) : (s.synUp k f).eth = s.eth := rfl
@[simp] theorem synUp_ptp (s : State) (k : Nat) (f : Synth → Synth) : (s.synUp k f).ptp = s.ptp := rfl
@[simp] theorem synUp_ptpc (s : State) (k : Nat) (f : Synth → Synth) : (s.synUp k f).ptpc = s.ptpc := rfl
@[simp] theorem synUp_cap (s : State) (k : Nat) (f : Synth → Synth) : (s.synUp k f).cap = s.cap := rfl
@[simp] theorem synUp_cas (s : State) (k : Nat) (f : Synth → Synth) : (s.synUp k f).cas = s.cas := rfl
@[simp] theorem synUp_acc (s : State) (k : Nat) (f : Synth → Synth) : (s.synUp k f).acc = s.acc := rfl
@[simp] theorem synUp_cfg (s : State) (k : Nat) (f : Synth → Synth) : (s.synUp k f).cfg = s.cfg := rfl
@[simp] theorem synUp_nvs (s : State) (k : Nat) (f : Synth → Synth) : (s.synUp k f).nvs = s.nvs := rfl
@[simp] theorem synUp_pwr (s : State) (k : Nat) (f : Synth → Synth) : (s.synUp k f).pwr = s.pwr := rfl
@[simp] theorem synUp_thm (s : State) (k : Nat) (f : Synth → Synth) : (s.synUp k f).thm = s.thm := rfl
@[simp] theorem synUp_bist (s : State) (k : Nat) (f : Synth → Synth) : (s.synUp k f).bist = s.bist := rfl
@[simp] theorem synUp_lc (s : State) (k : Nat) (f : Synth → Synth) : (s.synUp k f).lc = s.lc := rfl
@[simp] theorem synUp_mem (s : State) (k : Nat) (f : Synth → Synth) : (s.synUp k f).mem = s.mem := rfl
@[simp] theorem synUp_seq (s : State) (k : Nat) (f : Synth → Synth) : (s.synUp k f).seq = s.seq := rfl
@[simp] theorem synUp_clockStop (s : State) (k : Nat) (f : Synth → Synth) : (s.synUp k f).clockStop = s.clockStop := rfl
@[simp] theorem synUp_free (s : State) (k : Nat) (f : Synth → Synth) : (s.synUp k f).free = s.free := rfl
@[simp] theorem synUp_found (s : State) (k : Nat) (f : Synth → Synth) : (s.synUp k f).found = s.found := rfl
@[simp] theorem synUp_cyc (s : State) (k : Nat) (f : Synth → Synth) : (s.synUp k f).cyc = s.cyc := rfl

@[simp] theorem outUp_pending (s : State) (k : Nat) (f : Output → Output) : (s.outUp k f).pending = s.pending := rfl
@[simp] theorem outUp_regs (s : State) (k : Nat) (f : Output → Output) : (s.outUp k f).regs = s.regs := rfl
@[simp] theorem outUp_eff (s : State) (k : Nat) (f : Output → Output) : (s.outUp k f).eff = s.eff := rfl
@[simp] theorem outUp_mtb (s : State) (k : Nat) (f : Output → Output) : (s.outUp k f).mtb = s.mtb := rfl
@[simp] theorem outUp_shadows (s : State) (k : Nat) (f : Output → Output) : (s.outUp k f).shadows = s.shadows := rfl
@[simp] theorem outUp_evq (s : State) (k : Nat) (f : Output → Output) : (s.outUp k f).evq = s.evq := rfl
@[simp] theorem outUp_flt (s : State) (k : Nat) (f : Output → Output) : (s.outUp k f).flt = s.flt := rfl
@[simp] theorem outUp_hist (s : State) (k : Nat) (f : Output → Output) : (s.outUp k f).hist = s.hist := rfl
@[simp] theorem outUp_pads (s : State) (k : Nat) (f : Output → Output) : (s.outUp k f).pads = s.pads := rfl
@[simp] theorem outUp_mon (s : State) (k : Nat) (f : Output → Output) : (s.outUp k f).mon = s.mon := rfl
@[simp] theorem outUp_tod (s : State) (k : Nat) (f : Output → Output) : (s.outUp k f).tod = s.tod := rfl
@[simp] theorem outUp_trk (s : State) (k : Nat) (f : Output → Output) : (s.outUp k f).trk = s.trk := rfl
@[simp] theorem outUp_coll (s : State) (k : Nat) (f : Output → Output) : (s.outUp k f).coll = s.coll := rfl
@[simp] theorem outUp_loa (s : State) (k : Nat) (f : Output → Output) : (s.outUp k f).loa = s.loa := rfl
@[simp] theorem outUp_dom (s : State) (k : Nat) (f : Output → Output) : (s.outUp k f).dom = s.dom := rfl
@[simp] theorem outUp_good (s : State) (k : Nat) (f : Output → Output) : (s.outUp k f).good = s.good := rfl
@[simp] theorem outUp_syn (s : State) (k : Nat) (f : Output → Output) : (s.outUp k f).syn = s.syn := rfl
@[simp] theorem outUp_pg (s : State) (k : Nat) (f : Output → Output) : (s.outUp k f).pg = s.pg := rfl
@[simp] theorem outUp_tk (s : State) (k : Nat) (f : Output → Output) : (s.outUp k f).tk = s.tk := rfl
@[simp] theorem outUp_eth (s : State) (k : Nat) (f : Output → Output) : (s.outUp k f).eth = s.eth := rfl
@[simp] theorem outUp_ptp (s : State) (k : Nat) (f : Output → Output) : (s.outUp k f).ptp = s.ptp := rfl
@[simp] theorem outUp_ptpc (s : State) (k : Nat) (f : Output → Output) : (s.outUp k f).ptpc = s.ptpc := rfl
@[simp] theorem outUp_cap (s : State) (k : Nat) (f : Output → Output) : (s.outUp k f).cap = s.cap := rfl
@[simp] theorem outUp_cas (s : State) (k : Nat) (f : Output → Output) : (s.outUp k f).cas = s.cas := rfl
@[simp] theorem outUp_acc (s : State) (k : Nat) (f : Output → Output) : (s.outUp k f).acc = s.acc := rfl
@[simp] theorem outUp_cfg (s : State) (k : Nat) (f : Output → Output) : (s.outUp k f).cfg = s.cfg := rfl
@[simp] theorem outUp_nvs (s : State) (k : Nat) (f : Output → Output) : (s.outUp k f).nvs = s.nvs := rfl
@[simp] theorem outUp_pwr (s : State) (k : Nat) (f : Output → Output) : (s.outUp k f).pwr = s.pwr := rfl
@[simp] theorem outUp_thm (s : State) (k : Nat) (f : Output → Output) : (s.outUp k f).thm = s.thm := rfl
@[simp] theorem outUp_bist (s : State) (k : Nat) (f : Output → Output) : (s.outUp k f).bist = s.bist := rfl
@[simp] theorem outUp_lc (s : State) (k : Nat) (f : Output → Output) : (s.outUp k f).lc = s.lc := rfl
@[simp] theorem outUp_mem (s : State) (k : Nat) (f : Output → Output) : (s.outUp k f).mem = s.mem := rfl
@[simp] theorem outUp_seq (s : State) (k : Nat) (f : Output → Output) : (s.outUp k f).seq = s.seq := rfl
@[simp] theorem outUp_clockStop (s : State) (k : Nat) (f : Output → Output) : (s.outUp k f).clockStop = s.clockStop := rfl
@[simp] theorem outUp_free (s : State) (k : Nat) (f : Output → Output) : (s.outUp k f).free = s.free := rfl
@[simp] theorem outUp_found (s : State) (k : Nat) (f : Output → Output) : (s.outUp k f).found = s.found := rfl
@[simp] theorem outUp_cyc (s : State) (k : Nat) (f : Output → Output) : (s.outUp k f).cyc = s.cyc := rfl

@[simp] theorem pgUp_pending (s : State) (k : Nat) (f : Pg → Pg) : (s.pgUp k f).pending = s.pending := rfl
@[simp] theorem pgUp_regs (s : State) (k : Nat) (f : Pg → Pg) : (s.pgUp k f).regs = s.regs := rfl
@[simp] theorem pgUp_eff (s : State) (k : Nat) (f : Pg → Pg) : (s.pgUp k f).eff = s.eff := rfl
@[simp] theorem pgUp_mtb (s : State) (k : Nat) (f : Pg → Pg) : (s.pgUp k f).mtb = s.mtb := rfl
@[simp] theorem pgUp_shadows (s : State) (k : Nat) (f : Pg → Pg) : (s.pgUp k f).shadows = s.shadows := rfl
@[simp] theorem pgUp_evq (s : State) (k : Nat) (f : Pg → Pg) : (s.pgUp k f).evq = s.evq := rfl
@[simp] theorem pgUp_flt (s : State) (k : Nat) (f : Pg → Pg) : (s.pgUp k f).flt = s.flt := rfl
@[simp] theorem pgUp_hist (s : State) (k : Nat) (f : Pg → Pg) : (s.pgUp k f).hist = s.hist := rfl
@[simp] theorem pgUp_pads (s : State) (k : Nat) (f : Pg → Pg) : (s.pgUp k f).pads = s.pads := rfl
@[simp] theorem pgUp_mon (s : State) (k : Nat) (f : Pg → Pg) : (s.pgUp k f).mon = s.mon := rfl
@[simp] theorem pgUp_tod (s : State) (k : Nat) (f : Pg → Pg) : (s.pgUp k f).tod = s.tod := rfl
@[simp] theorem pgUp_trk (s : State) (k : Nat) (f : Pg → Pg) : (s.pgUp k f).trk = s.trk := rfl
@[simp] theorem pgUp_coll (s : State) (k : Nat) (f : Pg → Pg) : (s.pgUp k f).coll = s.coll := rfl
@[simp] theorem pgUp_loa (s : State) (k : Nat) (f : Pg → Pg) : (s.pgUp k f).loa = s.loa := rfl
@[simp] theorem pgUp_dom (s : State) (k : Nat) (f : Pg → Pg) : (s.pgUp k f).dom = s.dom := rfl
@[simp] theorem pgUp_good (s : State) (k : Nat) (f : Pg → Pg) : (s.pgUp k f).good = s.good := rfl
@[simp] theorem pgUp_syn (s : State) (k : Nat) (f : Pg → Pg) : (s.pgUp k f).syn = s.syn := rfl
@[simp] theorem pgUp_outs (s : State) (k : Nat) (f : Pg → Pg) : (s.pgUp k f).outs = s.outs := rfl
@[simp] theorem pgUp_tk (s : State) (k : Nat) (f : Pg → Pg) : (s.pgUp k f).tk = s.tk := rfl
@[simp] theorem pgUp_eth (s : State) (k : Nat) (f : Pg → Pg) : (s.pgUp k f).eth = s.eth := rfl
@[simp] theorem pgUp_ptp (s : State) (k : Nat) (f : Pg → Pg) : (s.pgUp k f).ptp = s.ptp := rfl
@[simp] theorem pgUp_ptpc (s : State) (k : Nat) (f : Pg → Pg) : (s.pgUp k f).ptpc = s.ptpc := rfl
@[simp] theorem pgUp_cap (s : State) (k : Nat) (f : Pg → Pg) : (s.pgUp k f).cap = s.cap := rfl
@[simp] theorem pgUp_cas (s : State) (k : Nat) (f : Pg → Pg) : (s.pgUp k f).cas = s.cas := rfl
@[simp] theorem pgUp_acc (s : State) (k : Nat) (f : Pg → Pg) : (s.pgUp k f).acc = s.acc := rfl
@[simp] theorem pgUp_cfg (s : State) (k : Nat) (f : Pg → Pg) : (s.pgUp k f).cfg = s.cfg := rfl
@[simp] theorem pgUp_nvs (s : State) (k : Nat) (f : Pg → Pg) : (s.pgUp k f).nvs = s.nvs := rfl
@[simp] theorem pgUp_pwr (s : State) (k : Nat) (f : Pg → Pg) : (s.pgUp k f).pwr = s.pwr := rfl
@[simp] theorem pgUp_thm (s : State) (k : Nat) (f : Pg → Pg) : (s.pgUp k f).thm = s.thm := rfl
@[simp] theorem pgUp_bist (s : State) (k : Nat) (f : Pg → Pg) : (s.pgUp k f).bist = s.bist := rfl
@[simp] theorem pgUp_lc (s : State) (k : Nat) (f : Pg → Pg) : (s.pgUp k f).lc = s.lc := rfl
@[simp] theorem pgUp_mem (s : State) (k : Nat) (f : Pg → Pg) : (s.pgUp k f).mem = s.mem := rfl
@[simp] theorem pgUp_seq (s : State) (k : Nat) (f : Pg → Pg) : (s.pgUp k f).seq = s.seq := rfl
@[simp] theorem pgUp_clockStop (s : State) (k : Nat) (f : Pg → Pg) : (s.pgUp k f).clockStop = s.clockStop := rfl
@[simp] theorem pgUp_free (s : State) (k : Nat) (f : Pg → Pg) : (s.pgUp k f).free = s.free := rfl
@[simp] theorem pgUp_found (s : State) (k : Nat) (f : Pg → Pg) : (s.pgUp k f).found = s.found := rfl
@[simp] theorem pgUp_cyc (s : State) (k : Nat) (f : Pg → Pg) : (s.pgUp k f).cyc = s.cyc := rfl

@[simp] theorem tkUp_pending (s : State) (k : Nat) (f : TimeKeeper → TimeKeeper) : (s.tkUp k f).pending = s.pending := rfl
@[simp] theorem tkUp_regs (s : State) (k : Nat) (f : TimeKeeper → TimeKeeper) : (s.tkUp k f).regs = s.regs := rfl
@[simp] theorem tkUp_eff (s : State) (k : Nat) (f : TimeKeeper → TimeKeeper) : (s.tkUp k f).eff = s.eff := rfl
@[simp] theorem tkUp_mtb (s : State) (k : Nat) (f : TimeKeeper → TimeKeeper) : (s.tkUp k f).mtb = s.mtb := rfl
@[simp] theorem tkUp_shadows (s : State) (k : Nat) (f : TimeKeeper → TimeKeeper) : (s.tkUp k f).shadows = s.shadows := rfl
@[simp] theorem tkUp_evq (s : State) (k : Nat) (f : TimeKeeper → TimeKeeper) : (s.tkUp k f).evq = s.evq := rfl
@[simp] theorem tkUp_flt (s : State) (k : Nat) (f : TimeKeeper → TimeKeeper) : (s.tkUp k f).flt = s.flt := rfl
@[simp] theorem tkUp_hist (s : State) (k : Nat) (f : TimeKeeper → TimeKeeper) : (s.tkUp k f).hist = s.hist := rfl
@[simp] theorem tkUp_pads (s : State) (k : Nat) (f : TimeKeeper → TimeKeeper) : (s.tkUp k f).pads = s.pads := rfl
@[simp] theorem tkUp_mon (s : State) (k : Nat) (f : TimeKeeper → TimeKeeper) : (s.tkUp k f).mon = s.mon := rfl
@[simp] theorem tkUp_tod (s : State) (k : Nat) (f : TimeKeeper → TimeKeeper) : (s.tkUp k f).tod = s.tod := rfl
@[simp] theorem tkUp_trk (s : State) (k : Nat) (f : TimeKeeper → TimeKeeper) : (s.tkUp k f).trk = s.trk := rfl
@[simp] theorem tkUp_coll (s : State) (k : Nat) (f : TimeKeeper → TimeKeeper) : (s.tkUp k f).coll = s.coll := rfl
@[simp] theorem tkUp_loa (s : State) (k : Nat) (f : TimeKeeper → TimeKeeper) : (s.tkUp k f).loa = s.loa := rfl
@[simp] theorem tkUp_dom (s : State) (k : Nat) (f : TimeKeeper → TimeKeeper) : (s.tkUp k f).dom = s.dom := rfl
@[simp] theorem tkUp_good (s : State) (k : Nat) (f : TimeKeeper → TimeKeeper) : (s.tkUp k f).good = s.good := rfl
@[simp] theorem tkUp_syn (s : State) (k : Nat) (f : TimeKeeper → TimeKeeper) : (s.tkUp k f).syn = s.syn := rfl
@[simp] theorem tkUp_outs (s : State) (k : Nat) (f : TimeKeeper → TimeKeeper) : (s.tkUp k f).outs = s.outs := rfl
@[simp] theorem tkUp_pg (s : State) (k : Nat) (f : TimeKeeper → TimeKeeper) : (s.tkUp k f).pg = s.pg := rfl
@[simp] theorem tkUp_eth (s : State) (k : Nat) (f : TimeKeeper → TimeKeeper) : (s.tkUp k f).eth = s.eth := rfl
@[simp] theorem tkUp_ptp (s : State) (k : Nat) (f : TimeKeeper → TimeKeeper) : (s.tkUp k f).ptp = s.ptp := rfl
@[simp] theorem tkUp_ptpc (s : State) (k : Nat) (f : TimeKeeper → TimeKeeper) : (s.tkUp k f).ptpc = s.ptpc := rfl
@[simp] theorem tkUp_cap (s : State) (k : Nat) (f : TimeKeeper → TimeKeeper) : (s.tkUp k f).cap = s.cap := rfl
@[simp] theorem tkUp_cas (s : State) (k : Nat) (f : TimeKeeper → TimeKeeper) : (s.tkUp k f).cas = s.cas := rfl
@[simp] theorem tkUp_acc (s : State) (k : Nat) (f : TimeKeeper → TimeKeeper) : (s.tkUp k f).acc = s.acc := rfl
@[simp] theorem tkUp_cfg (s : State) (k : Nat) (f : TimeKeeper → TimeKeeper) : (s.tkUp k f).cfg = s.cfg := rfl
@[simp] theorem tkUp_nvs (s : State) (k : Nat) (f : TimeKeeper → TimeKeeper) : (s.tkUp k f).nvs = s.nvs := rfl
@[simp] theorem tkUp_pwr (s : State) (k : Nat) (f : TimeKeeper → TimeKeeper) : (s.tkUp k f).pwr = s.pwr := rfl
@[simp] theorem tkUp_thm (s : State) (k : Nat) (f : TimeKeeper → TimeKeeper) : (s.tkUp k f).thm = s.thm := rfl
@[simp] theorem tkUp_bist (s : State) (k : Nat) (f : TimeKeeper → TimeKeeper) : (s.tkUp k f).bist = s.bist := rfl
@[simp] theorem tkUp_lc (s : State) (k : Nat) (f : TimeKeeper → TimeKeeper) : (s.tkUp k f).lc = s.lc := rfl
@[simp] theorem tkUp_mem (s : State) (k : Nat) (f : TimeKeeper → TimeKeeper) : (s.tkUp k f).mem = s.mem := rfl
@[simp] theorem tkUp_seq (s : State) (k : Nat) (f : TimeKeeper → TimeKeeper) : (s.tkUp k f).seq = s.seq := rfl
@[simp] theorem tkUp_clockStop (s : State) (k : Nat) (f : TimeKeeper → TimeKeeper) : (s.tkUp k f).clockStop = s.clockStop := rfl
@[simp] theorem tkUp_free (s : State) (k : Nat) (f : TimeKeeper → TimeKeeper) : (s.tkUp k f).free = s.free := rfl
@[simp] theorem tkUp_found (s : State) (k : Nat) (f : TimeKeeper → TimeKeeper) : (s.tkUp k f).found = s.found := rfl
@[simp] theorem tkUp_cyc (s : State) (k : Nat) (f : TimeKeeper → TimeKeeper) : (s.tkUp k f).cyc = s.cyc := rfl

@[simp] theorem ethUp_pending (s : State) (k : Nat) (f : EthPort → EthPort) : (s.ethUp k f).pending = s.pending := rfl
@[simp] theorem ethUp_regs (s : State) (k : Nat) (f : EthPort → EthPort) : (s.ethUp k f).regs = s.regs := rfl
@[simp] theorem ethUp_eff (s : State) (k : Nat) (f : EthPort → EthPort) : (s.ethUp k f).eff = s.eff := rfl
@[simp] theorem ethUp_mtb (s : State) (k : Nat) (f : EthPort → EthPort) : (s.ethUp k f).mtb = s.mtb := rfl
@[simp] theorem ethUp_shadows (s : State) (k : Nat) (f : EthPort → EthPort) : (s.ethUp k f).shadows = s.shadows := rfl
@[simp] theorem ethUp_evq (s : State) (k : Nat) (f : EthPort → EthPort) : (s.ethUp k f).evq = s.evq := rfl
@[simp] theorem ethUp_flt (s : State) (k : Nat) (f : EthPort → EthPort) : (s.ethUp k f).flt = s.flt := rfl
@[simp] theorem ethUp_hist (s : State) (k : Nat) (f : EthPort → EthPort) : (s.ethUp k f).hist = s.hist := rfl
@[simp] theorem ethUp_pads (s : State) (k : Nat) (f : EthPort → EthPort) : (s.ethUp k f).pads = s.pads := rfl
@[simp] theorem ethUp_mon (s : State) (k : Nat) (f : EthPort → EthPort) : (s.ethUp k f).mon = s.mon := rfl
@[simp] theorem ethUp_tod (s : State) (k : Nat) (f : EthPort → EthPort) : (s.ethUp k f).tod = s.tod := rfl
@[simp] theorem ethUp_trk (s : State) (k : Nat) (f : EthPort → EthPort) : (s.ethUp k f).trk = s.trk := rfl
@[simp] theorem ethUp_coll (s : State) (k : Nat) (f : EthPort → EthPort) : (s.ethUp k f).coll = s.coll := rfl
@[simp] theorem ethUp_loa (s : State) (k : Nat) (f : EthPort → EthPort) : (s.ethUp k f).loa = s.loa := rfl
@[simp] theorem ethUp_dom (s : State) (k : Nat) (f : EthPort → EthPort) : (s.ethUp k f).dom = s.dom := rfl
@[simp] theorem ethUp_good (s : State) (k : Nat) (f : EthPort → EthPort) : (s.ethUp k f).good = s.good := rfl
@[simp] theorem ethUp_syn (s : State) (k : Nat) (f : EthPort → EthPort) : (s.ethUp k f).syn = s.syn := rfl
@[simp] theorem ethUp_outs (s : State) (k : Nat) (f : EthPort → EthPort) : (s.ethUp k f).outs = s.outs := rfl
@[simp] theorem ethUp_pg (s : State) (k : Nat) (f : EthPort → EthPort) : (s.ethUp k f).pg = s.pg := rfl
@[simp] theorem ethUp_tk (s : State) (k : Nat) (f : EthPort → EthPort) : (s.ethUp k f).tk = s.tk := rfl
@[simp] theorem ethUp_ptp (s : State) (k : Nat) (f : EthPort → EthPort) : (s.ethUp k f).ptp = s.ptp := rfl
@[simp] theorem ethUp_ptpc (s : State) (k : Nat) (f : EthPort → EthPort) : (s.ethUp k f).ptpc = s.ptpc := rfl
@[simp] theorem ethUp_cap (s : State) (k : Nat) (f : EthPort → EthPort) : (s.ethUp k f).cap = s.cap := rfl
@[simp] theorem ethUp_cas (s : State) (k : Nat) (f : EthPort → EthPort) : (s.ethUp k f).cas = s.cas := rfl
@[simp] theorem ethUp_acc (s : State) (k : Nat) (f : EthPort → EthPort) : (s.ethUp k f).acc = s.acc := rfl
@[simp] theorem ethUp_cfg (s : State) (k : Nat) (f : EthPort → EthPort) : (s.ethUp k f).cfg = s.cfg := rfl
@[simp] theorem ethUp_nvs (s : State) (k : Nat) (f : EthPort → EthPort) : (s.ethUp k f).nvs = s.nvs := rfl
@[simp] theorem ethUp_pwr (s : State) (k : Nat) (f : EthPort → EthPort) : (s.ethUp k f).pwr = s.pwr := rfl
@[simp] theorem ethUp_thm (s : State) (k : Nat) (f : EthPort → EthPort) : (s.ethUp k f).thm = s.thm := rfl
@[simp] theorem ethUp_bist (s : State) (k : Nat) (f : EthPort → EthPort) : (s.ethUp k f).bist = s.bist := rfl
@[simp] theorem ethUp_lc (s : State) (k : Nat) (f : EthPort → EthPort) : (s.ethUp k f).lc = s.lc := rfl
@[simp] theorem ethUp_mem (s : State) (k : Nat) (f : EthPort → EthPort) : (s.ethUp k f).mem = s.mem := rfl
@[simp] theorem ethUp_seq (s : State) (k : Nat) (f : EthPort → EthPort) : (s.ethUp k f).seq = s.seq := rfl
@[simp] theorem ethUp_clockStop (s : State) (k : Nat) (f : EthPort → EthPort) : (s.ethUp k f).clockStop = s.clockStop := rfl
@[simp] theorem ethUp_free (s : State) (k : Nat) (f : EthPort → EthPort) : (s.ethUp k f).free = s.free := rfl
@[simp] theorem ethUp_found (s : State) (k : Nat) (f : EthPort → EthPort) : (s.ethUp k f).found = s.found := rfl
@[simp] theorem ethUp_cyc (s : State) (k : Nat) (f : EthPort → EthPort) : (s.ethUp k f).cyc = s.cyc := rfl

@[simp] theorem ptpUp_pending (s : State) (k : Nat) (f : PtpInst → PtpInst) : (s.ptpUp k f).pending = s.pending := rfl
@[simp] theorem ptpUp_regs (s : State) (k : Nat) (f : PtpInst → PtpInst) : (s.ptpUp k f).regs = s.regs := rfl
@[simp] theorem ptpUp_eff (s : State) (k : Nat) (f : PtpInst → PtpInst) : (s.ptpUp k f).eff = s.eff := rfl
@[simp] theorem ptpUp_mtb (s : State) (k : Nat) (f : PtpInst → PtpInst) : (s.ptpUp k f).mtb = s.mtb := rfl
@[simp] theorem ptpUp_shadows (s : State) (k : Nat) (f : PtpInst → PtpInst) : (s.ptpUp k f).shadows = s.shadows := rfl
@[simp] theorem ptpUp_evq (s : State) (k : Nat) (f : PtpInst → PtpInst) : (s.ptpUp k f).evq = s.evq := rfl
@[simp] theorem ptpUp_flt (s : State) (k : Nat) (f : PtpInst → PtpInst) : (s.ptpUp k f).flt = s.flt := rfl
@[simp] theorem ptpUp_hist (s : State) (k : Nat) (f : PtpInst → PtpInst) : (s.ptpUp k f).hist = s.hist := rfl
@[simp] theorem ptpUp_pads (s : State) (k : Nat) (f : PtpInst → PtpInst) : (s.ptpUp k f).pads = s.pads := rfl
@[simp] theorem ptpUp_mon (s : State) (k : Nat) (f : PtpInst → PtpInst) : (s.ptpUp k f).mon = s.mon := rfl
@[simp] theorem ptpUp_tod (s : State) (k : Nat) (f : PtpInst → PtpInst) : (s.ptpUp k f).tod = s.tod := rfl
@[simp] theorem ptpUp_trk (s : State) (k : Nat) (f : PtpInst → PtpInst) : (s.ptpUp k f).trk = s.trk := rfl
@[simp] theorem ptpUp_coll (s : State) (k : Nat) (f : PtpInst → PtpInst) : (s.ptpUp k f).coll = s.coll := rfl
@[simp] theorem ptpUp_loa (s : State) (k : Nat) (f : PtpInst → PtpInst) : (s.ptpUp k f).loa = s.loa := rfl
@[simp] theorem ptpUp_dom (s : State) (k : Nat) (f : PtpInst → PtpInst) : (s.ptpUp k f).dom = s.dom := rfl
@[simp] theorem ptpUp_good (s : State) (k : Nat) (f : PtpInst → PtpInst) : (s.ptpUp k f).good = s.good := rfl
@[simp] theorem ptpUp_syn (s : State) (k : Nat) (f : PtpInst → PtpInst) : (s.ptpUp k f).syn = s.syn := rfl
@[simp] theorem ptpUp_outs (s : State) (k : Nat) (f : PtpInst → PtpInst) : (s.ptpUp k f).outs = s.outs := rfl
@[simp] theorem ptpUp_pg (s : State) (k : Nat) (f : PtpInst → PtpInst) : (s.ptpUp k f).pg = s.pg := rfl
@[simp] theorem ptpUp_tk (s : State) (k : Nat) (f : PtpInst → PtpInst) : (s.ptpUp k f).tk = s.tk := rfl
@[simp] theorem ptpUp_eth (s : State) (k : Nat) (f : PtpInst → PtpInst) : (s.ptpUp k f).eth = s.eth := rfl
@[simp] theorem ptpUp_ptpc (s : State) (k : Nat) (f : PtpInst → PtpInst) : (s.ptpUp k f).ptpc = s.ptpc := rfl
@[simp] theorem ptpUp_cap (s : State) (k : Nat) (f : PtpInst → PtpInst) : (s.ptpUp k f).cap = s.cap := rfl
@[simp] theorem ptpUp_cas (s : State) (k : Nat) (f : PtpInst → PtpInst) : (s.ptpUp k f).cas = s.cas := rfl
@[simp] theorem ptpUp_acc (s : State) (k : Nat) (f : PtpInst → PtpInst) : (s.ptpUp k f).acc = s.acc := rfl
@[simp] theorem ptpUp_cfg (s : State) (k : Nat) (f : PtpInst → PtpInst) : (s.ptpUp k f).cfg = s.cfg := rfl
@[simp] theorem ptpUp_nvs (s : State) (k : Nat) (f : PtpInst → PtpInst) : (s.ptpUp k f).nvs = s.nvs := rfl
@[simp] theorem ptpUp_pwr (s : State) (k : Nat) (f : PtpInst → PtpInst) : (s.ptpUp k f).pwr = s.pwr := rfl
@[simp] theorem ptpUp_thm (s : State) (k : Nat) (f : PtpInst → PtpInst) : (s.ptpUp k f).thm = s.thm := rfl
@[simp] theorem ptpUp_bist (s : State) (k : Nat) (f : PtpInst → PtpInst) : (s.ptpUp k f).bist = s.bist := rfl
@[simp] theorem ptpUp_lc (s : State) (k : Nat) (f : PtpInst → PtpInst) : (s.ptpUp k f).lc = s.lc := rfl
@[simp] theorem ptpUp_mem (s : State) (k : Nat) (f : PtpInst → PtpInst) : (s.ptpUp k f).mem = s.mem := rfl
@[simp] theorem ptpUp_seq (s : State) (k : Nat) (f : PtpInst → PtpInst) : (s.ptpUp k f).seq = s.seq := rfl
@[simp] theorem ptpUp_clockStop (s : State) (k : Nat) (f : PtpInst → PtpInst) : (s.ptpUp k f).clockStop = s.clockStop := rfl
@[simp] theorem ptpUp_free (s : State) (k : Nat) (f : PtpInst → PtpInst) : (s.ptpUp k f).free = s.free := rfl
@[simp] theorem ptpUp_found (s : State) (k : Nat) (f : PtpInst → PtpInst) : (s.ptpUp k f).found = s.found := rfl
@[simp] theorem ptpUp_cyc (s : State) (k : Nat) (f : PtpInst → PtpInst) : (s.ptpUp k f).cyc = s.cyc := rfl

@[simp] theorem capUp_pending (s : State) (f : Capture → Capture) : (s.capUp f).pending = s.pending := rfl
@[simp] theorem capUp_regs (s : State) (f : Capture → Capture) : (s.capUp f).regs = s.regs := rfl
@[simp] theorem capUp_eff (s : State) (f : Capture → Capture) : (s.capUp f).eff = s.eff := rfl
@[simp] theorem capUp_mtb (s : State) (f : Capture → Capture) : (s.capUp f).mtb = s.mtb := rfl
@[simp] theorem capUp_shadows (s : State) (f : Capture → Capture) : (s.capUp f).shadows = s.shadows := rfl
@[simp] theorem capUp_evq (s : State) (f : Capture → Capture) : (s.capUp f).evq = s.evq := rfl
@[simp] theorem capUp_flt (s : State) (f : Capture → Capture) : (s.capUp f).flt = s.flt := rfl
@[simp] theorem capUp_hist (s : State) (f : Capture → Capture) : (s.capUp f).hist = s.hist := rfl
@[simp] theorem capUp_pads (s : State) (f : Capture → Capture) : (s.capUp f).pads = s.pads := rfl
@[simp] theorem capUp_mon (s : State) (f : Capture → Capture) : (s.capUp f).mon = s.mon := rfl
@[simp] theorem capUp_tod (s : State) (f : Capture → Capture) : (s.capUp f).tod = s.tod := rfl
@[simp] theorem capUp_trk (s : State) (f : Capture → Capture) : (s.capUp f).trk = s.trk := rfl
@[simp] theorem capUp_coll (s : State) (f : Capture → Capture) : (s.capUp f).coll = s.coll := rfl
@[simp] theorem capUp_loa (s : State) (f : Capture → Capture) : (s.capUp f).loa = s.loa := rfl
@[simp] theorem capUp_dom (s : State) (f : Capture → Capture) : (s.capUp f).dom = s.dom := rfl
@[simp] theorem capUp_good (s : State) (f : Capture → Capture) : (s.capUp f).good = s.good := rfl
@[simp] theorem capUp_syn (s : State) (f : Capture → Capture) : (s.capUp f).syn = s.syn := rfl
@[simp] theorem capUp_outs (s : State) (f : Capture → Capture) : (s.capUp f).outs = s.outs := rfl
@[simp] theorem capUp_pg (s : State) (f : Capture → Capture) : (s.capUp f).pg = s.pg := rfl
@[simp] theorem capUp_tk (s : State) (f : Capture → Capture) : (s.capUp f).tk = s.tk := rfl
@[simp] theorem capUp_eth (s : State) (f : Capture → Capture) : (s.capUp f).eth = s.eth := rfl
@[simp] theorem capUp_ptp (s : State) (f : Capture → Capture) : (s.capUp f).ptp = s.ptp := rfl
@[simp] theorem capUp_ptpc (s : State) (f : Capture → Capture) : (s.capUp f).ptpc = s.ptpc := rfl
@[simp] theorem capUp_cas (s : State) (f : Capture → Capture) : (s.capUp f).cas = s.cas := rfl
@[simp] theorem capUp_acc (s : State) (f : Capture → Capture) : (s.capUp f).acc = s.acc := rfl
@[simp] theorem capUp_cfg (s : State) (f : Capture → Capture) : (s.capUp f).cfg = s.cfg := rfl
@[simp] theorem capUp_nvs (s : State) (f : Capture → Capture) : (s.capUp f).nvs = s.nvs := rfl
@[simp] theorem capUp_pwr (s : State) (f : Capture → Capture) : (s.capUp f).pwr = s.pwr := rfl
@[simp] theorem capUp_thm (s : State) (f : Capture → Capture) : (s.capUp f).thm = s.thm := rfl
@[simp] theorem capUp_bist (s : State) (f : Capture → Capture) : (s.capUp f).bist = s.bist := rfl
@[simp] theorem capUp_lc (s : State) (f : Capture → Capture) : (s.capUp f).lc = s.lc := rfl
@[simp] theorem capUp_mem (s : State) (f : Capture → Capture) : (s.capUp f).mem = s.mem := rfl
@[simp] theorem capUp_seq (s : State) (f : Capture → Capture) : (s.capUp f).seq = s.seq := rfl
@[simp] theorem capUp_clockStop (s : State) (f : Capture → Capture) : (s.capUp f).clockStop = s.clockStop := rfl
@[simp] theorem capUp_free (s : State) (f : Capture → Capture) : (s.capUp f).free = s.free := rfl
@[simp] theorem capUp_found (s : State) (f : Capture → Capture) : (s.capUp f).found = s.found := rfl
@[simp] theorem capUp_cyc (s : State) (f : Capture → Capture) : (s.capUp f).cyc = s.cyc := rfl

@[simp] theorem casUp_pending (s : State) (f : Cas → Cas) : (s.casUp f).pending = s.pending := rfl
@[simp] theorem casUp_regs (s : State) (f : Cas → Cas) : (s.casUp f).regs = s.regs := rfl
@[simp] theorem casUp_eff (s : State) (f : Cas → Cas) : (s.casUp f).eff = s.eff := rfl
@[simp] theorem casUp_mtb (s : State) (f : Cas → Cas) : (s.casUp f).mtb = s.mtb := rfl
@[simp] theorem casUp_shadows (s : State) (f : Cas → Cas) : (s.casUp f).shadows = s.shadows := rfl
@[simp] theorem casUp_evq (s : State) (f : Cas → Cas) : (s.casUp f).evq = s.evq := rfl
@[simp] theorem casUp_flt (s : State) (f : Cas → Cas) : (s.casUp f).flt = s.flt := rfl
@[simp] theorem casUp_hist (s : State) (f : Cas → Cas) : (s.casUp f).hist = s.hist := rfl
@[simp] theorem casUp_pads (s : State) (f : Cas → Cas) : (s.casUp f).pads = s.pads := rfl
@[simp] theorem casUp_mon (s : State) (f : Cas → Cas) : (s.casUp f).mon = s.mon := rfl
@[simp] theorem casUp_tod (s : State) (f : Cas → Cas) : (s.casUp f).tod = s.tod := rfl
@[simp] theorem casUp_trk (s : State) (f : Cas → Cas) : (s.casUp f).trk = s.trk := rfl
@[simp] theorem casUp_coll (s : State) (f : Cas → Cas) : (s.casUp f).coll = s.coll := rfl
@[simp] theorem casUp_loa (s : State) (f : Cas → Cas) : (s.casUp f).loa = s.loa := rfl
@[simp] theorem casUp_dom (s : State) (f : Cas → Cas) : (s.casUp f).dom = s.dom := rfl
@[simp] theorem casUp_good (s : State) (f : Cas → Cas) : (s.casUp f).good = s.good := rfl
@[simp] theorem casUp_syn (s : State) (f : Cas → Cas) : (s.casUp f).syn = s.syn := rfl
@[simp] theorem casUp_outs (s : State) (f : Cas → Cas) : (s.casUp f).outs = s.outs := rfl
@[simp] theorem casUp_pg (s : State) (f : Cas → Cas) : (s.casUp f).pg = s.pg := rfl
@[simp] theorem casUp_tk (s : State) (f : Cas → Cas) : (s.casUp f).tk = s.tk := rfl
@[simp] theorem casUp_eth (s : State) (f : Cas → Cas) : (s.casUp f).eth = s.eth := rfl
@[simp] theorem casUp_ptp (s : State) (f : Cas → Cas) : (s.casUp f).ptp = s.ptp := rfl
@[simp] theorem casUp_ptpc (s : State) (f : Cas → Cas) : (s.casUp f).ptpc = s.ptpc := rfl
@[simp] theorem casUp_cap (s : State) (f : Cas → Cas) : (s.casUp f).cap = s.cap := rfl
@[simp] theorem casUp_acc (s : State) (f : Cas → Cas) : (s.casUp f).acc = s.acc := rfl
@[simp] theorem casUp_cfg (s : State) (f : Cas → Cas) : (s.casUp f).cfg = s.cfg := rfl
@[simp] theorem casUp_nvs (s : State) (f : Cas → Cas) : (s.casUp f).nvs = s.nvs := rfl
@[simp] theorem casUp_pwr (s : State) (f : Cas → Cas) : (s.casUp f).pwr = s.pwr := rfl
@[simp] theorem casUp_thm (s : State) (f : Cas → Cas) : (s.casUp f).thm = s.thm := rfl
@[simp] theorem casUp_bist (s : State) (f : Cas → Cas) : (s.casUp f).bist = s.bist := rfl
@[simp] theorem casUp_lc (s : State) (f : Cas → Cas) : (s.casUp f).lc = s.lc := rfl
@[simp] theorem casUp_mem (s : State) (f : Cas → Cas) : (s.casUp f).mem = s.mem := rfl
@[simp] theorem casUp_seq (s : State) (f : Cas → Cas) : (s.casUp f).seq = s.seq := rfl
@[simp] theorem casUp_clockStop (s : State) (f : Cas → Cas) : (s.casUp f).clockStop = s.clockStop := rfl
@[simp] theorem casUp_free (s : State) (f : Cas → Cas) : (s.casUp f).free = s.free := rfl
@[simp] theorem casUp_found (s : State) (f : Cas → Cas) : (s.casUp f).found = s.found := rfl
@[simp] theorem casUp_cyc (s : State) (f : Cas → Cas) : (s.casUp f).cyc = s.cyc := rfl

@[simp] theorem accUp_pending (s : State) (f : Access → Access) : (s.accUp f).pending = s.pending := rfl
@[simp] theorem accUp_regs (s : State) (f : Access → Access) : (s.accUp f).regs = s.regs := rfl
@[simp] theorem accUp_eff (s : State) (f : Access → Access) : (s.accUp f).eff = s.eff := rfl
@[simp] theorem accUp_mtb (s : State) (f : Access → Access) : (s.accUp f).mtb = s.mtb := rfl
@[simp] theorem accUp_shadows (s : State) (f : Access → Access) : (s.accUp f).shadows = s.shadows := rfl
@[simp] theorem accUp_evq (s : State) (f : Access → Access) : (s.accUp f).evq = s.evq := rfl
@[simp] theorem accUp_flt (s : State) (f : Access → Access) : (s.accUp f).flt = s.flt := rfl
@[simp] theorem accUp_hist (s : State) (f : Access → Access) : (s.accUp f).hist = s.hist := rfl
@[simp] theorem accUp_pads (s : State) (f : Access → Access) : (s.accUp f).pads = s.pads := rfl
@[simp] theorem accUp_mon (s : State) (f : Access → Access) : (s.accUp f).mon = s.mon := rfl
@[simp] theorem accUp_tod (s : State) (f : Access → Access) : (s.accUp f).tod = s.tod := rfl
@[simp] theorem accUp_trk (s : State) (f : Access → Access) : (s.accUp f).trk = s.trk := rfl
@[simp] theorem accUp_coll (s : State) (f : Access → Access) : (s.accUp f).coll = s.coll := rfl
@[simp] theorem accUp_loa (s : State) (f : Access → Access) : (s.accUp f).loa = s.loa := rfl
@[simp] theorem accUp_dom (s : State) (f : Access → Access) : (s.accUp f).dom = s.dom := rfl
@[simp] theorem accUp_good (s : State) (f : Access → Access) : (s.accUp f).good = s.good := rfl
@[simp] theorem accUp_syn (s : State) (f : Access → Access) : (s.accUp f).syn = s.syn := rfl
@[simp] theorem accUp_outs (s : State) (f : Access → Access) : (s.accUp f).outs = s.outs := rfl
@[simp] theorem accUp_pg (s : State) (f : Access → Access) : (s.accUp f).pg = s.pg := rfl
@[simp] theorem accUp_tk (s : State) (f : Access → Access) : (s.accUp f).tk = s.tk := rfl
@[simp] theorem accUp_eth (s : State) (f : Access → Access) : (s.accUp f).eth = s.eth := rfl
@[simp] theorem accUp_ptp (s : State) (f : Access → Access) : (s.accUp f).ptp = s.ptp := rfl
@[simp] theorem accUp_ptpc (s : State) (f : Access → Access) : (s.accUp f).ptpc = s.ptpc := rfl
@[simp] theorem accUp_cap (s : State) (f : Access → Access) : (s.accUp f).cap = s.cap := rfl
@[simp] theorem accUp_cas (s : State) (f : Access → Access) : (s.accUp f).cas = s.cas := rfl
@[simp] theorem accUp_cfg (s : State) (f : Access → Access) : (s.accUp f).cfg = s.cfg := rfl
@[simp] theorem accUp_nvs (s : State) (f : Access → Access) : (s.accUp f).nvs = s.nvs := rfl
@[simp] theorem accUp_pwr (s : State) (f : Access → Access) : (s.accUp f).pwr = s.pwr := rfl
@[simp] theorem accUp_thm (s : State) (f : Access → Access) : (s.accUp f).thm = s.thm := rfl
@[simp] theorem accUp_bist (s : State) (f : Access → Access) : (s.accUp f).bist = s.bist := rfl
@[simp] theorem accUp_lc (s : State) (f : Access → Access) : (s.accUp f).lc = s.lc := rfl
@[simp] theorem accUp_mem (s : State) (f : Access → Access) : (s.accUp f).mem = s.mem := rfl
@[simp] theorem accUp_seq (s : State) (f : Access → Access) : (s.accUp f).seq = s.seq := rfl
@[simp] theorem accUp_clockStop (s : State) (f : Access → Access) : (s.accUp f).clockStop = s.clockStop := rfl
@[simp] theorem accUp_free (s : State) (f : Access → Access) : (s.accUp f).free = s.free := rfl
@[simp] theorem accUp_found (s : State) (f : Access → Access) : (s.accUp f).found = s.found := rfl
@[simp] theorem accUp_cyc (s : State) (f : Access → Access) : (s.accUp f).cyc = s.cyc := rfl

@[simp] theorem txnUp_pending (s : State) (c : Ctx) (f : TxnCtx → TxnCtx) : (s.txnUp c f).pending = s.pending := rfl
@[simp] theorem txnUp_regs (s : State) (c : Ctx) (f : TxnCtx → TxnCtx) : (s.txnUp c f).regs = s.regs := rfl
@[simp] theorem txnUp_eff (s : State) (c : Ctx) (f : TxnCtx → TxnCtx) : (s.txnUp c f).eff = s.eff := rfl
@[simp] theorem txnUp_mtb (s : State) (c : Ctx) (f : TxnCtx → TxnCtx) : (s.txnUp c f).mtb = s.mtb := rfl
@[simp] theorem txnUp_shadows (s : State) (c : Ctx) (f : TxnCtx → TxnCtx) : (s.txnUp c f).shadows = s.shadows := rfl
@[simp] theorem txnUp_evq (s : State) (c : Ctx) (f : TxnCtx → TxnCtx) : (s.txnUp c f).evq = s.evq := rfl
@[simp] theorem txnUp_flt (s : State) (c : Ctx) (f : TxnCtx → TxnCtx) : (s.txnUp c f).flt = s.flt := rfl
@[simp] theorem txnUp_hist (s : State) (c : Ctx) (f : TxnCtx → TxnCtx) : (s.txnUp c f).hist = s.hist := rfl
@[simp] theorem txnUp_pads (s : State) (c : Ctx) (f : TxnCtx → TxnCtx) : (s.txnUp c f).pads = s.pads := rfl
@[simp] theorem txnUp_mon (s : State) (c : Ctx) (f : TxnCtx → TxnCtx) : (s.txnUp c f).mon = s.mon := rfl
@[simp] theorem txnUp_tod (s : State) (c : Ctx) (f : TxnCtx → TxnCtx) : (s.txnUp c f).tod = s.tod := rfl
@[simp] theorem txnUp_trk (s : State) (c : Ctx) (f : TxnCtx → TxnCtx) : (s.txnUp c f).trk = s.trk := rfl
@[simp] theorem txnUp_coll (s : State) (c : Ctx) (f : TxnCtx → TxnCtx) : (s.txnUp c f).coll = s.coll := rfl
@[simp] theorem txnUp_loa (s : State) (c : Ctx) (f : TxnCtx → TxnCtx) : (s.txnUp c f).loa = s.loa := rfl
@[simp] theorem txnUp_dom (s : State) (c : Ctx) (f : TxnCtx → TxnCtx) : (s.txnUp c f).dom = s.dom := rfl
@[simp] theorem txnUp_good (s : State) (c : Ctx) (f : TxnCtx → TxnCtx) : (s.txnUp c f).good = s.good := rfl
@[simp] theorem txnUp_syn (s : State) (c : Ctx) (f : TxnCtx → TxnCtx) : (s.txnUp c f).syn = s.syn := rfl
@[simp] theorem txnUp_outs (s : State) (c : Ctx) (f : TxnCtx → TxnCtx) : (s.txnUp c f).outs = s.outs := rfl
@[simp] theorem txnUp_pg (s : State) (c : Ctx) (f : TxnCtx → TxnCtx) : (s.txnUp c f).pg = s.pg := rfl
@[simp] theorem txnUp_tk (s : State) (c : Ctx) (f : TxnCtx → TxnCtx) : (s.txnUp c f).tk = s.tk := rfl
@[simp] theorem txnUp_eth (s : State) (c : Ctx) (f : TxnCtx → TxnCtx) : (s.txnUp c f).eth = s.eth := rfl
@[simp] theorem txnUp_ptp (s : State) (c : Ctx) (f : TxnCtx → TxnCtx) : (s.txnUp c f).ptp = s.ptp := rfl
@[simp] theorem txnUp_ptpc (s : State) (c : Ctx) (f : TxnCtx → TxnCtx) : (s.txnUp c f).ptpc = s.ptpc := rfl
@[simp] theorem txnUp_cap (s : State) (c : Ctx) (f : TxnCtx → TxnCtx) : (s.txnUp c f).cap = s.cap := rfl
@[simp] theorem txnUp_cas (s : State) (c : Ctx) (f : TxnCtx → TxnCtx) : (s.txnUp c f).cas = s.cas := rfl
@[simp] theorem txnUp_cfg (s : State) (c : Ctx) (f : TxnCtx → TxnCtx) : (s.txnUp c f).cfg = s.cfg := rfl
@[simp] theorem txnUp_nvs (s : State) (c : Ctx) (f : TxnCtx → TxnCtx) : (s.txnUp c f).nvs = s.nvs := rfl
@[simp] theorem txnUp_pwr (s : State) (c : Ctx) (f : TxnCtx → TxnCtx) : (s.txnUp c f).pwr = s.pwr := rfl
@[simp] theorem txnUp_thm (s : State) (c : Ctx) (f : TxnCtx → TxnCtx) : (s.txnUp c f).thm = s.thm := rfl
@[simp] theorem txnUp_bist (s : State) (c : Ctx) (f : TxnCtx → TxnCtx) : (s.txnUp c f).bist = s.bist := rfl
@[simp] theorem txnUp_lc (s : State) (c : Ctx) (f : TxnCtx → TxnCtx) : (s.txnUp c f).lc = s.lc := rfl
@[simp] theorem txnUp_mem (s : State) (c : Ctx) (f : TxnCtx → TxnCtx) : (s.txnUp c f).mem = s.mem := rfl
@[simp] theorem txnUp_seq (s : State) (c : Ctx) (f : TxnCtx → TxnCtx) : (s.txnUp c f).seq = s.seq := rfl
@[simp] theorem txnUp_clockStop (s : State) (c : Ctx) (f : TxnCtx → TxnCtx) : (s.txnUp c f).clockStop = s.clockStop := rfl
@[simp] theorem txnUp_free (s : State) (c : Ctx) (f : TxnCtx → TxnCtx) : (s.txnUp c f).free = s.free := rfl
@[simp] theorem txnUp_found (s : State) (c : Ctx) (f : TxnCtx → TxnCtx) : (s.txnUp c f).found = s.found := rfl
@[simp] theorem txnUp_cyc (s : State) (c : Ctx) (f : TxnCtx → TxnCtx) : (s.txnUp c f).cyc = s.cyc := rfl

@[simp] theorem slotUp_pending (s : State) (w : Nat) (f : WaitSlot → WaitSlot) : (s.slotUp w f).pending = s.pending := rfl
@[simp] theorem slotUp_regs (s : State) (w : Nat) (f : WaitSlot → WaitSlot) : (s.slotUp w f).regs = s.regs := rfl
@[simp] theorem slotUp_eff (s : State) (w : Nat) (f : WaitSlot → WaitSlot) : (s.slotUp w f).eff = s.eff := rfl
@[simp] theorem slotUp_mtb (s : State) (w : Nat) (f : WaitSlot → WaitSlot) : (s.slotUp w f).mtb = s.mtb := rfl
@[simp] theorem slotUp_shadows (s : State) (w : Nat) (f : WaitSlot → WaitSlot) : (s.slotUp w f).shadows = s.shadows := rfl
@[simp] theorem slotUp_evq (s : State) (w : Nat) (f : WaitSlot → WaitSlot) : (s.slotUp w f).evq = s.evq := rfl
@[simp] theorem slotUp_flt (s : State) (w : Nat) (f : WaitSlot → WaitSlot) : (s.slotUp w f).flt = s.flt := rfl
@[simp] theorem slotUp_hist (s : State) (w : Nat) (f : WaitSlot → WaitSlot) : (s.slotUp w f).hist = s.hist := rfl
@[simp] theorem slotUp_pads (s : State) (w : Nat) (f : WaitSlot → WaitSlot) : (s.slotUp w f).pads = s.pads := rfl
@[simp] theorem slotUp_mon (s : State) (w : Nat) (f : WaitSlot → WaitSlot) : (s.slotUp w f).mon = s.mon := rfl
@[simp] theorem slotUp_tod (s : State) (w : Nat) (f : WaitSlot → WaitSlot) : (s.slotUp w f).tod = s.tod := rfl
@[simp] theorem slotUp_trk (s : State) (w : Nat) (f : WaitSlot → WaitSlot) : (s.slotUp w f).trk = s.trk := rfl
@[simp] theorem slotUp_coll (s : State) (w : Nat) (f : WaitSlot → WaitSlot) : (s.slotUp w f).coll = s.coll := rfl
@[simp] theorem slotUp_loa (s : State) (w : Nat) (f : WaitSlot → WaitSlot) : (s.slotUp w f).loa = s.loa := rfl
@[simp] theorem slotUp_dom (s : State) (w : Nat) (f : WaitSlot → WaitSlot) : (s.slotUp w f).dom = s.dom := rfl
@[simp] theorem slotUp_good (s : State) (w : Nat) (f : WaitSlot → WaitSlot) : (s.slotUp w f).good = s.good := rfl
@[simp] theorem slotUp_syn (s : State) (w : Nat) (f : WaitSlot → WaitSlot) : (s.slotUp w f).syn = s.syn := rfl
@[simp] theorem slotUp_outs (s : State) (w : Nat) (f : WaitSlot → WaitSlot) : (s.slotUp w f).outs = s.outs := rfl
@[simp] theorem slotUp_pg (s : State) (w : Nat) (f : WaitSlot → WaitSlot) : (s.slotUp w f).pg = s.pg := rfl
@[simp] theorem slotUp_tk (s : State) (w : Nat) (f : WaitSlot → WaitSlot) : (s.slotUp w f).tk = s.tk := rfl
@[simp] theorem slotUp_eth (s : State) (w : Nat) (f : WaitSlot → WaitSlot) : (s.slotUp w f).eth = s.eth := rfl
@[simp] theorem slotUp_ptp (s : State) (w : Nat) (f : WaitSlot → WaitSlot) : (s.slotUp w f).ptp = s.ptp := rfl
@[simp] theorem slotUp_ptpc (s : State) (w : Nat) (f : WaitSlot → WaitSlot) : (s.slotUp w f).ptpc = s.ptpc := rfl
@[simp] theorem slotUp_cap (s : State) (w : Nat) (f : WaitSlot → WaitSlot) : (s.slotUp w f).cap = s.cap := rfl
@[simp] theorem slotUp_cas (s : State) (w : Nat) (f : WaitSlot → WaitSlot) : (s.slotUp w f).cas = s.cas := rfl
@[simp] theorem slotUp_cfg (s : State) (w : Nat) (f : WaitSlot → WaitSlot) : (s.slotUp w f).cfg = s.cfg := rfl
@[simp] theorem slotUp_nvs (s : State) (w : Nat) (f : WaitSlot → WaitSlot) : (s.slotUp w f).nvs = s.nvs := rfl
@[simp] theorem slotUp_pwr (s : State) (w : Nat) (f : WaitSlot → WaitSlot) : (s.slotUp w f).pwr = s.pwr := rfl
@[simp] theorem slotUp_thm (s : State) (w : Nat) (f : WaitSlot → WaitSlot) : (s.slotUp w f).thm = s.thm := rfl
@[simp] theorem slotUp_bist (s : State) (w : Nat) (f : WaitSlot → WaitSlot) : (s.slotUp w f).bist = s.bist := rfl
@[simp] theorem slotUp_lc (s : State) (w : Nat) (f : WaitSlot → WaitSlot) : (s.slotUp w f).lc = s.lc := rfl
@[simp] theorem slotUp_mem (s : State) (w : Nat) (f : WaitSlot → WaitSlot) : (s.slotUp w f).mem = s.mem := rfl
@[simp] theorem slotUp_seq (s : State) (w : Nat) (f : WaitSlot → WaitSlot) : (s.slotUp w f).seq = s.seq := rfl
@[simp] theorem slotUp_clockStop (s : State) (w : Nat) (f : WaitSlot → WaitSlot) : (s.slotUp w f).clockStop = s.clockStop := rfl
@[simp] theorem slotUp_free (s : State) (w : Nat) (f : WaitSlot → WaitSlot) : (s.slotUp w f).free = s.free := rfl
@[simp] theorem slotUp_found (s : State) (w : Nat) (f : WaitSlot → WaitSlot) : (s.slotUp w f).found = s.found := rfl
@[simp] theorem slotUp_cyc (s : State) (w : Nat) (f : WaitSlot → WaitSlot) : (s.slotUp w f).cyc = s.cyc := rfl

@[simp] theorem cfgUp_pending (s : State) (f : Cfg → Cfg) : (s.cfgUp f).pending = s.pending := rfl
@[simp] theorem cfgUp_regs (s : State) (f : Cfg → Cfg) : (s.cfgUp f).regs = s.regs := rfl
@[simp] theorem cfgUp_eff (s : State) (f : Cfg → Cfg) : (s.cfgUp f).eff = s.eff := rfl
@[simp] theorem cfgUp_mtb (s : State) (f : Cfg → Cfg) : (s.cfgUp f).mtb = s.mtb := rfl
@[simp] theorem cfgUp_shadows (s : State) (f : Cfg → Cfg) : (s.cfgUp f).shadows = s.shadows := rfl
@[simp] theorem cfgUp_evq (s : State) (f : Cfg → Cfg) : (s.cfgUp f).evq = s.evq := rfl
@[simp] theorem cfgUp_flt (s : State) (f : Cfg → Cfg) : (s.cfgUp f).flt = s.flt := rfl
@[simp] theorem cfgUp_hist (s : State) (f : Cfg → Cfg) : (s.cfgUp f).hist = s.hist := rfl
@[simp] theorem cfgUp_pads (s : State) (f : Cfg → Cfg) : (s.cfgUp f).pads = s.pads := rfl
@[simp] theorem cfgUp_mon (s : State) (f : Cfg → Cfg) : (s.cfgUp f).mon = s.mon := rfl
@[simp] theorem cfgUp_tod (s : State) (f : Cfg → Cfg) : (s.cfgUp f).tod = s.tod := rfl
@[simp] theorem cfgUp_trk (s : State) (f : Cfg → Cfg) : (s.cfgUp f).trk = s.trk := rfl
@[simp] theorem cfgUp_coll (s : State) (f : Cfg → Cfg) : (s.cfgUp f).coll = s.coll := rfl
@[simp] theorem cfgUp_loa (s : State) (f : Cfg → Cfg) : (s.cfgUp f).loa = s.loa := rfl
@[simp] theorem cfgUp_dom (s : State) (f : Cfg → Cfg) : (s.cfgUp f).dom = s.dom := rfl
@[simp] theorem cfgUp_good (s : State) (f : Cfg → Cfg) : (s.cfgUp f).good = s.good := rfl
@[simp] theorem cfgUp_syn (s : State) (f : Cfg → Cfg) : (s.cfgUp f).syn = s.syn := rfl
@[simp] theorem cfgUp_outs (s : State) (f : Cfg → Cfg) : (s.cfgUp f).outs = s.outs := rfl
@[simp] theorem cfgUp_pg (s : State) (f : Cfg → Cfg) : (s.cfgUp f).pg = s.pg := rfl
@[simp] theorem cfgUp_tk (s : State) (f : Cfg → Cfg) : (s.cfgUp f).tk = s.tk := rfl
@[simp] theorem cfgUp_eth (s : State) (f : Cfg → Cfg) : (s.cfgUp f).eth = s.eth := rfl
@[simp] theorem cfgUp_ptp (s : State) (f : Cfg → Cfg) : (s.cfgUp f).ptp = s.ptp := rfl
@[simp] theorem cfgUp_ptpc (s : State) (f : Cfg → Cfg) : (s.cfgUp f).ptpc = s.ptpc := rfl
@[simp] theorem cfgUp_cap (s : State) (f : Cfg → Cfg) : (s.cfgUp f).cap = s.cap := rfl
@[simp] theorem cfgUp_cas (s : State) (f : Cfg → Cfg) : (s.cfgUp f).cas = s.cas := rfl
@[simp] theorem cfgUp_acc (s : State) (f : Cfg → Cfg) : (s.cfgUp f).acc = s.acc := rfl
@[simp] theorem cfgUp_nvs (s : State) (f : Cfg → Cfg) : (s.cfgUp f).nvs = s.nvs := rfl
@[simp] theorem cfgUp_pwr (s : State) (f : Cfg → Cfg) : (s.cfgUp f).pwr = s.pwr := rfl
@[simp] theorem cfgUp_thm (s : State) (f : Cfg → Cfg) : (s.cfgUp f).thm = s.thm := rfl
@[simp] theorem cfgUp_bist (s : State) (f : Cfg → Cfg) : (s.cfgUp f).bist = s.bist := rfl
@[simp] theorem cfgUp_lc (s : State) (f : Cfg → Cfg) : (s.cfgUp f).lc = s.lc := rfl
@[simp] theorem cfgUp_mem (s : State) (f : Cfg → Cfg) : (s.cfgUp f).mem = s.mem := rfl
@[simp] theorem cfgUp_seq (s : State) (f : Cfg → Cfg) : (s.cfgUp f).seq = s.seq := rfl
@[simp] theorem cfgUp_clockStop (s : State) (f : Cfg → Cfg) : (s.cfgUp f).clockStop = s.clockStop := rfl
@[simp] theorem cfgUp_free (s : State) (f : Cfg → Cfg) : (s.cfgUp f).free = s.free := rfl
@[simp] theorem cfgUp_found (s : State) (f : Cfg → Cfg) : (s.cfgUp f).found = s.found := rfl
@[simp] theorem cfgUp_cyc (s : State) (f : Cfg → Cfg) : (s.cfgUp f).cyc = s.cyc := rfl

@[simp] theorem nvsUp_pending (s : State) (f : Nvs → Nvs) : (s.nvsUp f).pending = s.pending := rfl
@[simp] theorem nvsUp_regs (s : State) (f : Nvs → Nvs) : (s.nvsUp f).regs = s.regs := rfl
@[simp] theorem nvsUp_eff (s : State) (f : Nvs → Nvs) : (s.nvsUp f).eff = s.eff := rfl
@[simp] theorem nvsUp_mtb (s : State) (f : Nvs → Nvs) : (s.nvsUp f).mtb = s.mtb := rfl
@[simp] theorem nvsUp_shadows (s : State) (f : Nvs → Nvs) : (s.nvsUp f).shadows = s.shadows := rfl
@[simp] theorem nvsUp_evq (s : State) (f : Nvs → Nvs) : (s.nvsUp f).evq = s.evq := rfl
@[simp] theorem nvsUp_flt (s : State) (f : Nvs → Nvs) : (s.nvsUp f).flt = s.flt := rfl
@[simp] theorem nvsUp_hist (s : State) (f : Nvs → Nvs) : (s.nvsUp f).hist = s.hist := rfl
@[simp] theorem nvsUp_pads (s : State) (f : Nvs → Nvs) : (s.nvsUp f).pads = s.pads := rfl
@[simp] theorem nvsUp_mon (s : State) (f : Nvs → Nvs) : (s.nvsUp f).mon = s.mon := rfl
@[simp] theorem nvsUp_tod (s : State) (f : Nvs → Nvs) : (s.nvsUp f).tod = s.tod := rfl
@[simp] theorem nvsUp_trk (s : State) (f : Nvs → Nvs) : (s.nvsUp f).trk = s.trk := rfl
@[simp] theorem nvsUp_coll (s : State) (f : Nvs → Nvs) : (s.nvsUp f).coll = s.coll := rfl
@[simp] theorem nvsUp_loa (s : State) (f : Nvs → Nvs) : (s.nvsUp f).loa = s.loa := rfl
@[simp] theorem nvsUp_dom (s : State) (f : Nvs → Nvs) : (s.nvsUp f).dom = s.dom := rfl
@[simp] theorem nvsUp_good (s : State) (f : Nvs → Nvs) : (s.nvsUp f).good = s.good := rfl
@[simp] theorem nvsUp_syn (s : State) (f : Nvs → Nvs) : (s.nvsUp f).syn = s.syn := rfl
@[simp] theorem nvsUp_outs (s : State) (f : Nvs → Nvs) : (s.nvsUp f).outs = s.outs := rfl
@[simp] theorem nvsUp_pg (s : State) (f : Nvs → Nvs) : (s.nvsUp f).pg = s.pg := rfl
@[simp] theorem nvsUp_tk (s : State) (f : Nvs → Nvs) : (s.nvsUp f).tk = s.tk := rfl
@[simp] theorem nvsUp_eth (s : State) (f : Nvs → Nvs) : (s.nvsUp f).eth = s.eth := rfl
@[simp] theorem nvsUp_ptp (s : State) (f : Nvs → Nvs) : (s.nvsUp f).ptp = s.ptp := rfl
@[simp] theorem nvsUp_ptpc (s : State) (f : Nvs → Nvs) : (s.nvsUp f).ptpc = s.ptpc := rfl
@[simp] theorem nvsUp_cap (s : State) (f : Nvs → Nvs) : (s.nvsUp f).cap = s.cap := rfl
@[simp] theorem nvsUp_cas (s : State) (f : Nvs → Nvs) : (s.nvsUp f).cas = s.cas := rfl
@[simp] theorem nvsUp_acc (s : State) (f : Nvs → Nvs) : (s.nvsUp f).acc = s.acc := rfl
@[simp] theorem nvsUp_cfg (s : State) (f : Nvs → Nvs) : (s.nvsUp f).cfg = s.cfg := rfl
@[simp] theorem nvsUp_pwr (s : State) (f : Nvs → Nvs) : (s.nvsUp f).pwr = s.pwr := rfl
@[simp] theorem nvsUp_thm (s : State) (f : Nvs → Nvs) : (s.nvsUp f).thm = s.thm := rfl
@[simp] theorem nvsUp_bist (s : State) (f : Nvs → Nvs) : (s.nvsUp f).bist = s.bist := rfl
@[simp] theorem nvsUp_lc (s : State) (f : Nvs → Nvs) : (s.nvsUp f).lc = s.lc := rfl
@[simp] theorem nvsUp_mem (s : State) (f : Nvs → Nvs) : (s.nvsUp f).mem = s.mem := rfl
@[simp] theorem nvsUp_seq (s : State) (f : Nvs → Nvs) : (s.nvsUp f).seq = s.seq := rfl
@[simp] theorem nvsUp_clockStop (s : State) (f : Nvs → Nvs) : (s.nvsUp f).clockStop = s.clockStop := rfl
@[simp] theorem nvsUp_free (s : State) (f : Nvs → Nvs) : (s.nvsUp f).free = s.free := rfl
@[simp] theorem nvsUp_found (s : State) (f : Nvs → Nvs) : (s.nvsUp f).found = s.found := rfl
@[simp] theorem nvsUp_cyc (s : State) (f : Nvs → Nvs) : (s.nvsUp f).cyc = s.cyc := rfl

@[simp] theorem pwrUp_pending (s : State) (f : Power → Power) : (s.pwrUp f).pending = s.pending := rfl
@[simp] theorem pwrUp_regs (s : State) (f : Power → Power) : (s.pwrUp f).regs = s.regs := rfl
@[simp] theorem pwrUp_eff (s : State) (f : Power → Power) : (s.pwrUp f).eff = s.eff := rfl
@[simp] theorem pwrUp_mtb (s : State) (f : Power → Power) : (s.pwrUp f).mtb = s.mtb := rfl
@[simp] theorem pwrUp_shadows (s : State) (f : Power → Power) : (s.pwrUp f).shadows = s.shadows := rfl
@[simp] theorem pwrUp_evq (s : State) (f : Power → Power) : (s.pwrUp f).evq = s.evq := rfl
@[simp] theorem pwrUp_flt (s : State) (f : Power → Power) : (s.pwrUp f).flt = s.flt := rfl
@[simp] theorem pwrUp_hist (s : State) (f : Power → Power) : (s.pwrUp f).hist = s.hist := rfl
@[simp] theorem pwrUp_pads (s : State) (f : Power → Power) : (s.pwrUp f).pads = s.pads := rfl
@[simp] theorem pwrUp_mon (s : State) (f : Power → Power) : (s.pwrUp f).mon = s.mon := rfl
@[simp] theorem pwrUp_tod (s : State) (f : Power → Power) : (s.pwrUp f).tod = s.tod := rfl
@[simp] theorem pwrUp_trk (s : State) (f : Power → Power) : (s.pwrUp f).trk = s.trk := rfl
@[simp] theorem pwrUp_coll (s : State) (f : Power → Power) : (s.pwrUp f).coll = s.coll := rfl
@[simp] theorem pwrUp_loa (s : State) (f : Power → Power) : (s.pwrUp f).loa = s.loa := rfl
@[simp] theorem pwrUp_dom (s : State) (f : Power → Power) : (s.pwrUp f).dom = s.dom := rfl
@[simp] theorem pwrUp_good (s : State) (f : Power → Power) : (s.pwrUp f).good = s.good := rfl
@[simp] theorem pwrUp_syn (s : State) (f : Power → Power) : (s.pwrUp f).syn = s.syn := rfl
@[simp] theorem pwrUp_outs (s : State) (f : Power → Power) : (s.pwrUp f).outs = s.outs := rfl
@[simp] theorem pwrUp_pg (s : State) (f : Power → Power) : (s.pwrUp f).pg = s.pg := rfl
@[simp] theorem pwrUp_tk (s : State) (f : Power → Power) : (s.pwrUp f).tk = s.tk := rfl
@[simp] theorem pwrUp_eth (s : State) (f : Power → Power) : (s.pwrUp f).eth = s.eth := rfl
@[simp] theorem pwrUp_ptp (s : State) (f : Power → Power) : (s.pwrUp f).ptp = s.ptp := rfl
@[simp] theorem pwrUp_ptpc (s : State) (f : Power → Power) : (s.pwrUp f).ptpc = s.ptpc := rfl
@[simp] theorem pwrUp_cap (s : State) (f : Power → Power) : (s.pwrUp f).cap = s.cap := rfl
@[simp] theorem pwrUp_cas (s : State) (f : Power → Power) : (s.pwrUp f).cas = s.cas := rfl
@[simp] theorem pwrUp_acc (s : State) (f : Power → Power) : (s.pwrUp f).acc = s.acc := rfl
@[simp] theorem pwrUp_cfg (s : State) (f : Power → Power) : (s.pwrUp f).cfg = s.cfg := rfl
@[simp] theorem pwrUp_nvs (s : State) (f : Power → Power) : (s.pwrUp f).nvs = s.nvs := rfl
@[simp] theorem pwrUp_thm (s : State) (f : Power → Power) : (s.pwrUp f).thm = s.thm := rfl
@[simp] theorem pwrUp_bist (s : State) (f : Power → Power) : (s.pwrUp f).bist = s.bist := rfl
@[simp] theorem pwrUp_lc (s : State) (f : Power → Power) : (s.pwrUp f).lc = s.lc := rfl
@[simp] theorem pwrUp_mem (s : State) (f : Power → Power) : (s.pwrUp f).mem = s.mem := rfl
@[simp] theorem pwrUp_seq (s : State) (f : Power → Power) : (s.pwrUp f).seq = s.seq := rfl
@[simp] theorem pwrUp_clockStop (s : State) (f : Power → Power) : (s.pwrUp f).clockStop = s.clockStop := rfl
@[simp] theorem pwrUp_free (s : State) (f : Power → Power) : (s.pwrUp f).free = s.free := rfl
@[simp] theorem pwrUp_found (s : State) (f : Power → Power) : (s.pwrUp f).found = s.found := rfl
@[simp] theorem pwrUp_cyc (s : State) (f : Power → Power) : (s.pwrUp f).cyc = s.cyc := rfl

@[simp] theorem thmUp_pending (s : State) (f : Thm → Thm) : (s.thmUp f).pending = s.pending := rfl
@[simp] theorem thmUp_regs (s : State) (f : Thm → Thm) : (s.thmUp f).regs = s.regs := rfl
@[simp] theorem thmUp_eff (s : State) (f : Thm → Thm) : (s.thmUp f).eff = s.eff := rfl
@[simp] theorem thmUp_mtb (s : State) (f : Thm → Thm) : (s.thmUp f).mtb = s.mtb := rfl
@[simp] theorem thmUp_shadows (s : State) (f : Thm → Thm) : (s.thmUp f).shadows = s.shadows := rfl
@[simp] theorem thmUp_evq (s : State) (f : Thm → Thm) : (s.thmUp f).evq = s.evq := rfl
@[simp] theorem thmUp_flt (s : State) (f : Thm → Thm) : (s.thmUp f).flt = s.flt := rfl
@[simp] theorem thmUp_hist (s : State) (f : Thm → Thm) : (s.thmUp f).hist = s.hist := rfl
@[simp] theorem thmUp_pads (s : State) (f : Thm → Thm) : (s.thmUp f).pads = s.pads := rfl
@[simp] theorem thmUp_mon (s : State) (f : Thm → Thm) : (s.thmUp f).mon = s.mon := rfl
@[simp] theorem thmUp_tod (s : State) (f : Thm → Thm) : (s.thmUp f).tod = s.tod := rfl
@[simp] theorem thmUp_trk (s : State) (f : Thm → Thm) : (s.thmUp f).trk = s.trk := rfl
@[simp] theorem thmUp_coll (s : State) (f : Thm → Thm) : (s.thmUp f).coll = s.coll := rfl
@[simp] theorem thmUp_loa (s : State) (f : Thm → Thm) : (s.thmUp f).loa = s.loa := rfl
@[simp] theorem thmUp_dom (s : State) (f : Thm → Thm) : (s.thmUp f).dom = s.dom := rfl
@[simp] theorem thmUp_good (s : State) (f : Thm → Thm) : (s.thmUp f).good = s.good := rfl
@[simp] theorem thmUp_syn (s : State) (f : Thm → Thm) : (s.thmUp f).syn = s.syn := rfl
@[simp] theorem thmUp_outs (s : State) (f : Thm → Thm) : (s.thmUp f).outs = s.outs := rfl
@[simp] theorem thmUp_pg (s : State) (f : Thm → Thm) : (s.thmUp f).pg = s.pg := rfl
@[simp] theorem thmUp_tk (s : State) (f : Thm → Thm) : (s.thmUp f).tk = s.tk := rfl
@[simp] theorem thmUp_eth (s : State) (f : Thm → Thm) : (s.thmUp f).eth = s.eth := rfl
@[simp] theorem thmUp_ptp (s : State) (f : Thm → Thm) : (s.thmUp f).ptp = s.ptp := rfl
@[simp] theorem thmUp_ptpc (s : State) (f : Thm → Thm) : (s.thmUp f).ptpc = s.ptpc := rfl
@[simp] theorem thmUp_cap (s : State) (f : Thm → Thm) : (s.thmUp f).cap = s.cap := rfl
@[simp] theorem thmUp_cas (s : State) (f : Thm → Thm) : (s.thmUp f).cas = s.cas := rfl
@[simp] theorem thmUp_acc (s : State) (f : Thm → Thm) : (s.thmUp f).acc = s.acc := rfl
@[simp] theorem thmUp_cfg (s : State) (f : Thm → Thm) : (s.thmUp f).cfg = s.cfg := rfl
@[simp] theorem thmUp_nvs (s : State) (f : Thm → Thm) : (s.thmUp f).nvs = s.nvs := rfl
@[simp] theorem thmUp_pwr (s : State) (f : Thm → Thm) : (s.thmUp f).pwr = s.pwr := rfl
@[simp] theorem thmUp_bist (s : State) (f : Thm → Thm) : (s.thmUp f).bist = s.bist := rfl
@[simp] theorem thmUp_lc (s : State) (f : Thm → Thm) : (s.thmUp f).lc = s.lc := rfl
@[simp] theorem thmUp_mem (s : State) (f : Thm → Thm) : (s.thmUp f).mem = s.mem := rfl
@[simp] theorem thmUp_seq (s : State) (f : Thm → Thm) : (s.thmUp f).seq = s.seq := rfl
@[simp] theorem thmUp_clockStop (s : State) (f : Thm → Thm) : (s.thmUp f).clockStop = s.clockStop := rfl
@[simp] theorem thmUp_free (s : State) (f : Thm → Thm) : (s.thmUp f).free = s.free := rfl
@[simp] theorem thmUp_found (s : State) (f : Thm → Thm) : (s.thmUp f).found = s.found := rfl
@[simp] theorem thmUp_cyc (s : State) (f : Thm → Thm) : (s.thmUp f).cyc = s.cyc := rfl

@[simp] theorem bistUp_pending (s : State) (f : Bist → Bist) : (s.bistUp f).pending = s.pending := rfl
@[simp] theorem bistUp_regs (s : State) (f : Bist → Bist) : (s.bistUp f).regs = s.regs := rfl
@[simp] theorem bistUp_eff (s : State) (f : Bist → Bist) : (s.bistUp f).eff = s.eff := rfl
@[simp] theorem bistUp_mtb (s : State) (f : Bist → Bist) : (s.bistUp f).mtb = s.mtb := rfl
@[simp] theorem bistUp_shadows (s : State) (f : Bist → Bist) : (s.bistUp f).shadows = s.shadows := rfl
@[simp] theorem bistUp_evq (s : State) (f : Bist → Bist) : (s.bistUp f).evq = s.evq := rfl
@[simp] theorem bistUp_flt (s : State) (f : Bist → Bist) : (s.bistUp f).flt = s.flt := rfl
@[simp] theorem bistUp_hist (s : State) (f : Bist → Bist) : (s.bistUp f).hist = s.hist := rfl
@[simp] theorem bistUp_pads (s : State) (f : Bist → Bist) : (s.bistUp f).pads = s.pads := rfl
@[simp] theorem bistUp_mon (s : State) (f : Bist → Bist) : (s.bistUp f).mon = s.mon := rfl
@[simp] theorem bistUp_tod (s : State) (f : Bist → Bist) : (s.bistUp f).tod = s.tod := rfl
@[simp] theorem bistUp_trk (s : State) (f : Bist → Bist) : (s.bistUp f).trk = s.trk := rfl
@[simp] theorem bistUp_coll (s : State) (f : Bist → Bist) : (s.bistUp f).coll = s.coll := rfl
@[simp] theorem bistUp_loa (s : State) (f : Bist → Bist) : (s.bistUp f).loa = s.loa := rfl
@[simp] theorem bistUp_dom (s : State) (f : Bist → Bist) : (s.bistUp f).dom = s.dom := rfl
@[simp] theorem bistUp_good (s : State) (f : Bist → Bist) : (s.bistUp f).good = s.good := rfl
@[simp] theorem bistUp_syn (s : State) (f : Bist → Bist) : (s.bistUp f).syn = s.syn := rfl
@[simp] theorem bistUp_outs (s : State) (f : Bist → Bist) : (s.bistUp f).outs = s.outs := rfl
@[simp] theorem bistUp_pg (s : State) (f : Bist → Bist) : (s.bistUp f).pg = s.pg := rfl
@[simp] theorem bistUp_tk (s : State) (f : Bist → Bist) : (s.bistUp f).tk = s.tk := rfl
@[simp] theorem bistUp_eth (s : State) (f : Bist → Bist) : (s.bistUp f).eth = s.eth := rfl
@[simp] theorem bistUp_ptp (s : State) (f : Bist → Bist) : (s.bistUp f).ptp = s.ptp := rfl
@[simp] theorem bistUp_ptpc (s : State) (f : Bist → Bist) : (s.bistUp f).ptpc = s.ptpc := rfl
@[simp] theorem bistUp_cap (s : State) (f : Bist → Bist) : (s.bistUp f).cap = s.cap := rfl
@[simp] theorem bistUp_cas (s : State) (f : Bist → Bist) : (s.bistUp f).cas = s.cas := rfl
@[simp] theorem bistUp_acc (s : State) (f : Bist → Bist) : (s.bistUp f).acc = s.acc := rfl
@[simp] theorem bistUp_cfg (s : State) (f : Bist → Bist) : (s.bistUp f).cfg = s.cfg := rfl
@[simp] theorem bistUp_nvs (s : State) (f : Bist → Bist) : (s.bistUp f).nvs = s.nvs := rfl
@[simp] theorem bistUp_pwr (s : State) (f : Bist → Bist) : (s.bistUp f).pwr = s.pwr := rfl
@[simp] theorem bistUp_thm (s : State) (f : Bist → Bist) : (s.bistUp f).thm = s.thm := rfl
@[simp] theorem bistUp_lc (s : State) (f : Bist → Bist) : (s.bistUp f).lc = s.lc := rfl
@[simp] theorem bistUp_mem (s : State) (f : Bist → Bist) : (s.bistUp f).mem = s.mem := rfl
@[simp] theorem bistUp_seq (s : State) (f : Bist → Bist) : (s.bistUp f).seq = s.seq := rfl
@[simp] theorem bistUp_clockStop (s : State) (f : Bist → Bist) : (s.bistUp f).clockStop = s.clockStop := rfl
@[simp] theorem bistUp_free (s : State) (f : Bist → Bist) : (s.bistUp f).free = s.free := rfl
@[simp] theorem bistUp_found (s : State) (f : Bist → Bist) : (s.bistUp f).found = s.found := rfl
@[simp] theorem bistUp_cyc (s : State) (f : Bist → Bist) : (s.bistUp f).cyc = s.cyc := rfl

@[simp] theorem goNote_pending (s : State) (x : Field) (b : Bool) : (s.goNote x b).pending = s.pending := by unfold State.goNote; split <;> rfl
@[simp] theorem goNote_regs (s : State) (x : Field) (b : Bool) : (s.goNote x b).regs = s.regs := by unfold State.goNote; split <;> rfl
@[simp] theorem goNote_eff (s : State) (x : Field) (b : Bool) : (s.goNote x b).eff = s.eff := by unfold State.goNote; split <;> rfl
@[simp] theorem goNote_mtb (s : State) (x : Field) (b : Bool) : (s.goNote x b).mtb = s.mtb := by unfold State.goNote; split <;> rfl
@[simp] theorem goNote_shadows (s : State) (x : Field) (b : Bool) : (s.goNote x b).shadows = s.shadows := by unfold State.goNote; split <;> rfl
@[simp] theorem goNote_evq (s : State) (x : Field) (b : Bool) : (s.goNote x b).evq = s.evq := by unfold State.goNote; split <;> rfl
@[simp] theorem goNote_flt (s : State) (x : Field) (b : Bool) : (s.goNote x b).flt = s.flt := by unfold State.goNote; split <;> rfl
@[simp] theorem goNote_hist (s : State) (x : Field) (b : Bool) : (s.goNote x b).hist = s.hist := by unfold State.goNote; split <;> rfl
@[simp] theorem goNote_pads (s : State) (x : Field) (b : Bool) : (s.goNote x b).pads = s.pads := by unfold State.goNote; split <;> rfl
@[simp] theorem goNote_mon (s : State) (x : Field) (b : Bool) : (s.goNote x b).mon = s.mon := by unfold State.goNote; split <;> rfl
@[simp] theorem goNote_tod (s : State) (x : Field) (b : Bool) : (s.goNote x b).tod = s.tod := by unfold State.goNote; split <;> rfl
@[simp] theorem goNote_trk (s : State) (x : Field) (b : Bool) : (s.goNote x b).trk = s.trk := by unfold State.goNote; split <;> rfl
@[simp] theorem goNote_coll (s : State) (x : Field) (b : Bool) : (s.goNote x b).coll = s.coll := by unfold State.goNote; split <;> rfl
@[simp] theorem goNote_loa (s : State) (x : Field) (b : Bool) : (s.goNote x b).loa = s.loa := by unfold State.goNote; split <;> rfl
@[simp] theorem goNote_dom (s : State) (x : Field) (b : Bool) : (s.goNote x b).dom = s.dom := by unfold State.goNote; split <;> rfl
@[simp] theorem goNote_good (s : State) (x : Field) (b : Bool) : (s.goNote x b).good = s.good := by unfold State.goNote; split <;> rfl
@[simp] theorem goNote_syn (s : State) (x : Field) (b : Bool) : (s.goNote x b).syn = s.syn := by unfold State.goNote; split <;> rfl
@[simp] theorem goNote_outs (s : State) (x : Field) (b : Bool) : (s.goNote x b).outs = s.outs := by unfold State.goNote; split <;> rfl
@[simp] theorem goNote_pg (s : State) (x : Field) (b : Bool) : (s.goNote x b).pg = s.pg := by unfold State.goNote; split <;> rfl
@[simp] theorem goNote_tk (s : State) (x : Field) (b : Bool) : (s.goNote x b).tk = s.tk := by unfold State.goNote; split <;> rfl
@[simp] theorem goNote_eth (s : State) (x : Field) (b : Bool) : (s.goNote x b).eth = s.eth := by unfold State.goNote; split <;> rfl
@[simp] theorem goNote_ptp (s : State) (x : Field) (b : Bool) : (s.goNote x b).ptp = s.ptp := by unfold State.goNote; split <;> rfl
@[simp] theorem goNote_ptpc (s : State) (x : Field) (b : Bool) : (s.goNote x b).ptpc = s.ptpc := by unfold State.goNote; split <;> rfl
@[simp] theorem goNote_cap (s : State) (x : Field) (b : Bool) : (s.goNote x b).cap = s.cap := by unfold State.goNote; split <;> rfl
@[simp] theorem goNote_cas (s : State) (x : Field) (b : Bool) : (s.goNote x b).cas = s.cas := by unfold State.goNote; split <;> rfl
@[simp] theorem goNote_acc (s : State) (x : Field) (b : Bool) : (s.goNote x b).acc = s.acc := by unfold State.goNote; split <;> rfl
@[simp] theorem goNote_cfg (s : State) (x : Field) (b : Bool) : (s.goNote x b).cfg = s.cfg := by unfold State.goNote; split <;> rfl
@[simp] theorem goNote_nvs (s : State) (x : Field) (b : Bool) : (s.goNote x b).nvs = s.nvs := by unfold State.goNote; split <;> rfl
@[simp] theorem goNote_pwr (s : State) (x : Field) (b : Bool) : (s.goNote x b).pwr = s.pwr := by unfold State.goNote; split <;> rfl
@[simp] theorem goNote_thm (s : State) (x : Field) (b : Bool) : (s.goNote x b).thm = s.thm := by unfold State.goNote; split <;> rfl
@[simp] theorem goNote_bist (s : State) (x : Field) (b : Bool) : (s.goNote x b).bist = s.bist := by unfold State.goNote; split <;> rfl
@[simp] theorem goNote_lc (s : State) (x : Field) (b : Bool) : (s.goNote x b).lc = s.lc := by unfold State.goNote; split <;> rfl
@[simp] theorem goNote_mem (s : State) (x : Field) (b : Bool) : (s.goNote x b).mem = s.mem := by unfold State.goNote; split <;> rfl
@[simp] theorem goNote_seq (s : State) (x : Field) (b : Bool) : (s.goNote x b).seq = s.seq := by unfold State.goNote; split <;> rfl
@[simp] theorem goNote_clockStop (s : State) (x : Field) (b : Bool) : (s.goNote x b).clockStop = s.clockStop := by unfold State.goNote; split <;> rfl
@[simp] theorem goNote_free (s : State) (x : Field) (b : Bool) : (s.goNote x b).free = s.free := by unfold State.goNote; split <;> rfl
@[simp] theorem goNote_found (s : State) (x : Field) (b : Bool) : (s.goNote x b).found = s.found := by unfold State.goNote; split <;> rfl

@[simp] theorem setShared_pending (s : State) (x : Field) (v : Nat) : (s.setShared x v).pending = s.pending := by unfold State.setShared; split <;> rfl
@[simp] theorem setShared_eff (s : State) (x : Field) (v : Nat) : (s.setShared x v).eff = s.eff := by unfold State.setShared; split <;> rfl
@[simp] theorem setShared_mtb (s : State) (x : Field) (v : Nat) : (s.setShared x v).mtb = s.mtb := by unfold State.setShared; split <;> rfl
@[simp] theorem setShared_shadows (s : State) (x : Field) (v : Nat) : (s.setShared x v).shadows = s.shadows := by unfold State.setShared; split <;> rfl
@[simp] theorem setShared_evq (s : State) (x : Field) (v : Nat) : (s.setShared x v).evq = s.evq := by unfold State.setShared; split <;> rfl
@[simp] theorem setShared_flt (s : State) (x : Field) (v : Nat) : (s.setShared x v).flt = s.flt := by unfold State.setShared; split <;> rfl
@[simp] theorem setShared_hist (s : State) (x : Field) (v : Nat) : (s.setShared x v).hist = s.hist := by unfold State.setShared; split <;> rfl
@[simp] theorem setShared_pads (s : State) (x : Field) (v : Nat) : (s.setShared x v).pads = s.pads := by unfold State.setShared; split <;> rfl
@[simp] theorem setShared_mon (s : State) (x : Field) (v : Nat) : (s.setShared x v).mon = s.mon := by unfold State.setShared; split <;> rfl
@[simp] theorem setShared_tod (s : State) (x : Field) (v : Nat) : (s.setShared x v).tod = s.tod := by unfold State.setShared; split <;> rfl
@[simp] theorem setShared_trk (s : State) (x : Field) (v : Nat) : (s.setShared x v).trk = s.trk := by unfold State.setShared; split <;> rfl
@[simp] theorem setShared_coll (s : State) (x : Field) (v : Nat) : (s.setShared x v).coll = s.coll := by unfold State.setShared; split <;> rfl
@[simp] theorem setShared_loa (s : State) (x : Field) (v : Nat) : (s.setShared x v).loa = s.loa := by unfold State.setShared; split <;> rfl
@[simp] theorem setShared_dom (s : State) (x : Field) (v : Nat) : (s.setShared x v).dom = s.dom := by unfold State.setShared; split <;> rfl
@[simp] theorem setShared_good (s : State) (x : Field) (v : Nat) : (s.setShared x v).good = s.good := by unfold State.setShared; split <;> rfl
@[simp] theorem setShared_syn (s : State) (x : Field) (v : Nat) : (s.setShared x v).syn = s.syn := by unfold State.setShared; split <;> rfl
@[simp] theorem setShared_outs (s : State) (x : Field) (v : Nat) : (s.setShared x v).outs = s.outs := by unfold State.setShared; split <;> rfl
@[simp] theorem setShared_pg (s : State) (x : Field) (v : Nat) : (s.setShared x v).pg = s.pg := by unfold State.setShared; split <;> rfl
@[simp] theorem setShared_tk (s : State) (x : Field) (v : Nat) : (s.setShared x v).tk = s.tk := by unfold State.setShared; split <;> rfl
@[simp] theorem setShared_eth (s : State) (x : Field) (v : Nat) : (s.setShared x v).eth = s.eth := by unfold State.setShared; split <;> rfl
@[simp] theorem setShared_ptp (s : State) (x : Field) (v : Nat) : (s.setShared x v).ptp = s.ptp := by unfold State.setShared; split <;> rfl
@[simp] theorem setShared_ptpc (s : State) (x : Field) (v : Nat) : (s.setShared x v).ptpc = s.ptpc := by unfold State.setShared; split <;> rfl
@[simp] theorem setShared_cap (s : State) (x : Field) (v : Nat) : (s.setShared x v).cap = s.cap := by unfold State.setShared; split <;> rfl
@[simp] theorem setShared_cas (s : State) (x : Field) (v : Nat) : (s.setShared x v).cas = s.cas := by unfold State.setShared; split <;> rfl
@[simp] theorem setShared_acc (s : State) (x : Field) (v : Nat) : (s.setShared x v).acc = s.acc := by unfold State.setShared; split <;> rfl
@[simp] theorem setShared_cfg (s : State) (x : Field) (v : Nat) : (s.setShared x v).cfg = s.cfg := by unfold State.setShared; split <;> rfl
@[simp] theorem setShared_nvs (s : State) (x : Field) (v : Nat) : (s.setShared x v).nvs = s.nvs := by unfold State.setShared; split <;> rfl
@[simp] theorem setShared_pwr (s : State) (x : Field) (v : Nat) : (s.setShared x v).pwr = s.pwr := by unfold State.setShared; split <;> rfl
@[simp] theorem setShared_thm (s : State) (x : Field) (v : Nat) : (s.setShared x v).thm = s.thm := by unfold State.setShared; split <;> rfl
@[simp] theorem setShared_bist (s : State) (x : Field) (v : Nat) : (s.setShared x v).bist = s.bist := by unfold State.setShared; split <;> rfl
@[simp] theorem setShared_lc (s : State) (x : Field) (v : Nat) : (s.setShared x v).lc = s.lc := by unfold State.setShared; split <;> rfl
@[simp] theorem setShared_mem (s : State) (x : Field) (v : Nat) : (s.setShared x v).mem = s.mem := by unfold State.setShared; split <;> rfl
@[simp] theorem setShared_seq (s : State) (x : Field) (v : Nat) : (s.setShared x v).seq = s.seq := by unfold State.setShared; split <;> rfl
@[simp] theorem setShared_clockStop (s : State) (x : Field) (v : Nat) : (s.setShared x v).clockStop = s.clockStop := by unfold State.setShared; split <;> rfl
@[simp] theorem setShared_free (s : State) (x : Field) (v : Nat) : (s.setShared x v).free = s.free := by unfold State.setShared; split <;> rfl
@[simp] theorem setShared_found (s : State) (x : Field) (v : Nat) : (s.setShared x v).found = s.found := by unfold State.setShared; split <;> rfl
@[simp] theorem setShared_cyc (s : State) (x : Field) (v : Nat) : (s.setShared x v).cyc = s.cyc := by unfold State.setShared; split <;> rfl

@[simp] theorem lcUp_pending (s : State) (f : Lc → Lc) : (s.lcUp f).pending = s.pending := rfl
@[simp] theorem lcUp_regs (s : State) (f : Lc → Lc) : (s.lcUp f).regs = s.regs := rfl
@[simp] theorem lcUp_eff (s : State) (f : Lc → Lc) : (s.lcUp f).eff = s.eff := rfl
@[simp] theorem lcUp_mtb (s : State) (f : Lc → Lc) : (s.lcUp f).mtb = s.mtb := rfl
@[simp] theorem lcUp_shadows (s : State) (f : Lc → Lc) : (s.lcUp f).shadows = s.shadows := rfl
@[simp] theorem lcUp_evq (s : State) (f : Lc → Lc) : (s.lcUp f).evq = s.evq := rfl
@[simp] theorem lcUp_flt (s : State) (f : Lc → Lc) : (s.lcUp f).flt = s.flt := rfl
@[simp] theorem lcUp_hist (s : State) (f : Lc → Lc) : (s.lcUp f).hist = s.hist := rfl
@[simp] theorem lcUp_pads (s : State) (f : Lc → Lc) : (s.lcUp f).pads = s.pads := rfl
@[simp] theorem lcUp_mon (s : State) (f : Lc → Lc) : (s.lcUp f).mon = s.mon := rfl
@[simp] theorem lcUp_tod (s : State) (f : Lc → Lc) : (s.lcUp f).tod = s.tod := rfl
@[simp] theorem lcUp_trk (s : State) (f : Lc → Lc) : (s.lcUp f).trk = s.trk := rfl
@[simp] theorem lcUp_coll (s : State) (f : Lc → Lc) : (s.lcUp f).coll = s.coll := rfl
@[simp] theorem lcUp_loa (s : State) (f : Lc → Lc) : (s.lcUp f).loa = s.loa := rfl
@[simp] theorem lcUp_dom (s : State) (f : Lc → Lc) : (s.lcUp f).dom = s.dom := rfl
@[simp] theorem lcUp_good (s : State) (f : Lc → Lc) : (s.lcUp f).good = s.good := rfl
@[simp] theorem lcUp_syn (s : State) (f : Lc → Lc) : (s.lcUp f).syn = s.syn := rfl
@[simp] theorem lcUp_outs (s : State) (f : Lc → Lc) : (s.lcUp f).outs = s.outs := rfl
@[simp] theorem lcUp_pg (s : State) (f : Lc → Lc) : (s.lcUp f).pg = s.pg := rfl
@[simp] theorem lcUp_tk (s : State) (f : Lc → Lc) : (s.lcUp f).tk = s.tk := rfl
@[simp] theorem lcUp_eth (s : State) (f : Lc → Lc) : (s.lcUp f).eth = s.eth := rfl
@[simp] theorem lcUp_ptp (s : State) (f : Lc → Lc) : (s.lcUp f).ptp = s.ptp := rfl
@[simp] theorem lcUp_ptpc (s : State) (f : Lc → Lc) : (s.lcUp f).ptpc = s.ptpc := rfl
@[simp] theorem lcUp_cap (s : State) (f : Lc → Lc) : (s.lcUp f).cap = s.cap := rfl
@[simp] theorem lcUp_cas (s : State) (f : Lc → Lc) : (s.lcUp f).cas = s.cas := rfl
@[simp] theorem lcUp_acc (s : State) (f : Lc → Lc) : (s.lcUp f).acc = s.acc := rfl
@[simp] theorem lcUp_cfg (s : State) (f : Lc → Lc) : (s.lcUp f).cfg = s.cfg := rfl
@[simp] theorem lcUp_nvs (s : State) (f : Lc → Lc) : (s.lcUp f).nvs = s.nvs := rfl
@[simp] theorem lcUp_pwr (s : State) (f : Lc → Lc) : (s.lcUp f).pwr = s.pwr := rfl
@[simp] theorem lcUp_thm (s : State) (f : Lc → Lc) : (s.lcUp f).thm = s.thm := rfl
@[simp] theorem lcUp_bist (s : State) (f : Lc → Lc) : (s.lcUp f).bist = s.bist := rfl
@[simp] theorem lcUp_mem (s : State) (f : Lc → Lc) : (s.lcUp f).mem = s.mem := rfl
@[simp] theorem lcUp_seq (s : State) (f : Lc → Lc) : (s.lcUp f).seq = s.seq := rfl
@[simp] theorem lcUp_clockStop (s : State) (f : Lc → Lc) : (s.lcUp f).clockStop = s.clockStop := rfl
@[simp] theorem lcUp_free (s : State) (f : Lc → Lc) : (s.lcUp f).free = s.free := rfl
@[simp] theorem lcUp_found (s : State) (f : Lc → Lc) : (s.lcUp f).found = s.found := rfl
@[simp] theorem lcUp_cyc (s : State) (f : Lc → Lc) : (s.lcUp f).cyc = s.cyc := rfl

@[simp] theorem memUp_pending (s : State) (f : Mem → Mem) : (s.memUp f).pending = s.pending := rfl
@[simp] theorem memUp_regs (s : State) (f : Mem → Mem) : (s.memUp f).regs = s.regs := rfl
@[simp] theorem memUp_eff (s : State) (f : Mem → Mem) : (s.memUp f).eff = s.eff := rfl
@[simp] theorem memUp_mtb (s : State) (f : Mem → Mem) : (s.memUp f).mtb = s.mtb := rfl
@[simp] theorem memUp_shadows (s : State) (f : Mem → Mem) : (s.memUp f).shadows = s.shadows := rfl
@[simp] theorem memUp_evq (s : State) (f : Mem → Mem) : (s.memUp f).evq = s.evq := rfl
@[simp] theorem memUp_flt (s : State) (f : Mem → Mem) : (s.memUp f).flt = s.flt := rfl
@[simp] theorem memUp_hist (s : State) (f : Mem → Mem) : (s.memUp f).hist = s.hist := rfl
@[simp] theorem memUp_pads (s : State) (f : Mem → Mem) : (s.memUp f).pads = s.pads := rfl
@[simp] theorem memUp_mon (s : State) (f : Mem → Mem) : (s.memUp f).mon = s.mon := rfl
@[simp] theorem memUp_tod (s : State) (f : Mem → Mem) : (s.memUp f).tod = s.tod := rfl
@[simp] theorem memUp_trk (s : State) (f : Mem → Mem) : (s.memUp f).trk = s.trk := rfl
@[simp] theorem memUp_coll (s : State) (f : Mem → Mem) : (s.memUp f).coll = s.coll := rfl
@[simp] theorem memUp_loa (s : State) (f : Mem → Mem) : (s.memUp f).loa = s.loa := rfl
@[simp] theorem memUp_dom (s : State) (f : Mem → Mem) : (s.memUp f).dom = s.dom := rfl
@[simp] theorem memUp_good (s : State) (f : Mem → Mem) : (s.memUp f).good = s.good := rfl
@[simp] theorem memUp_syn (s : State) (f : Mem → Mem) : (s.memUp f).syn = s.syn := rfl
@[simp] theorem memUp_outs (s : State) (f : Mem → Mem) : (s.memUp f).outs = s.outs := rfl
@[simp] theorem memUp_pg (s : State) (f : Mem → Mem) : (s.memUp f).pg = s.pg := rfl
@[simp] theorem memUp_tk (s : State) (f : Mem → Mem) : (s.memUp f).tk = s.tk := rfl
@[simp] theorem memUp_eth (s : State) (f : Mem → Mem) : (s.memUp f).eth = s.eth := rfl
@[simp] theorem memUp_ptp (s : State) (f : Mem → Mem) : (s.memUp f).ptp = s.ptp := rfl
@[simp] theorem memUp_ptpc (s : State) (f : Mem → Mem) : (s.memUp f).ptpc = s.ptpc := rfl
@[simp] theorem memUp_cap (s : State) (f : Mem → Mem) : (s.memUp f).cap = s.cap := rfl
@[simp] theorem memUp_cas (s : State) (f : Mem → Mem) : (s.memUp f).cas = s.cas := rfl
@[simp] theorem memUp_acc (s : State) (f : Mem → Mem) : (s.memUp f).acc = s.acc := rfl
@[simp] theorem memUp_cfg (s : State) (f : Mem → Mem) : (s.memUp f).cfg = s.cfg := rfl
@[simp] theorem memUp_nvs (s : State) (f : Mem → Mem) : (s.memUp f).nvs = s.nvs := rfl
@[simp] theorem memUp_pwr (s : State) (f : Mem → Mem) : (s.memUp f).pwr = s.pwr := rfl
@[simp] theorem memUp_thm (s : State) (f : Mem → Mem) : (s.memUp f).thm = s.thm := rfl
@[simp] theorem memUp_bist (s : State) (f : Mem → Mem) : (s.memUp f).bist = s.bist := rfl
@[simp] theorem memUp_lc (s : State) (f : Mem → Mem) : (s.memUp f).lc = s.lc := rfl
@[simp] theorem memUp_seq (s : State) (f : Mem → Mem) : (s.memUp f).seq = s.seq := rfl
@[simp] theorem memUp_clockStop (s : State) (f : Mem → Mem) : (s.memUp f).clockStop = s.clockStop := rfl
@[simp] theorem memUp_free (s : State) (f : Mem → Mem) : (s.memUp f).free = s.free := rfl
@[simp] theorem memUp_found (s : State) (f : Mem → Mem) : (s.memUp f).found = s.found := rfl
@[simp] theorem memUp_cyc (s : State) (f : Mem → Mem) : (s.memUp f).cyc = s.cyc := rfl

@[simp] theorem drivePads_pending (s : State) : (s.drivePads).pending = s.pending := rfl
@[simp] theorem drivePads_regs (s : State) : (s.drivePads).regs = s.regs := rfl
@[simp] theorem drivePads_eff (s : State) : (s.drivePads).eff = s.eff := rfl
@[simp] theorem drivePads_mtb (s : State) : (s.drivePads).mtb = s.mtb := rfl
@[simp] theorem drivePads_shadows (s : State) : (s.drivePads).shadows = s.shadows := rfl
@[simp] theorem drivePads_evq (s : State) : (s.drivePads).evq = s.evq := rfl
@[simp] theorem drivePads_flt (s : State) : (s.drivePads).flt = s.flt := rfl
@[simp] theorem drivePads_hist (s : State) : (s.drivePads).hist = s.hist := rfl
@[simp] theorem drivePads_mon (s : State) : (s.drivePads).mon = s.mon := rfl
@[simp] theorem drivePads_tod (s : State) : (s.drivePads).tod = s.tod := rfl
@[simp] theorem drivePads_trk (s : State) : (s.drivePads).trk = s.trk := rfl
@[simp] theorem drivePads_coll (s : State) : (s.drivePads).coll = s.coll := rfl
@[simp] theorem drivePads_loa (s : State) : (s.drivePads).loa = s.loa := rfl
@[simp] theorem drivePads_dom (s : State) : (s.drivePads).dom = s.dom := rfl
@[simp] theorem drivePads_good (s : State) : (s.drivePads).good = s.good := rfl
@[simp] theorem drivePads_syn (s : State) : (s.drivePads).syn = s.syn := rfl
@[simp] theorem drivePads_outs (s : State) : (s.drivePads).outs = s.outs := rfl
@[simp] theorem drivePads_pg (s : State) : (s.drivePads).pg = s.pg := rfl
@[simp] theorem drivePads_tk (s : State) : (s.drivePads).tk = s.tk := rfl
@[simp] theorem drivePads_eth (s : State) : (s.drivePads).eth = s.eth := rfl
@[simp] theorem drivePads_ptp (s : State) : (s.drivePads).ptp = s.ptp := rfl
@[simp] theorem drivePads_ptpc (s : State) : (s.drivePads).ptpc = s.ptpc := rfl
@[simp] theorem drivePads_cap (s : State) : (s.drivePads).cap = s.cap := rfl
@[simp] theorem drivePads_cas (s : State) : (s.drivePads).cas = s.cas := rfl
@[simp] theorem drivePads_acc (s : State) : (s.drivePads).acc = s.acc := rfl
@[simp] theorem drivePads_cfg (s : State) : (s.drivePads).cfg = s.cfg := rfl
@[simp] theorem drivePads_nvs (s : State) : (s.drivePads).nvs = s.nvs := rfl
@[simp] theorem drivePads_pwr (s : State) : (s.drivePads).pwr = s.pwr := rfl
@[simp] theorem drivePads_thm (s : State) : (s.drivePads).thm = s.thm := rfl
@[simp] theorem drivePads_bist (s : State) : (s.drivePads).bist = s.bist := rfl
@[simp] theorem drivePads_lc (s : State) : (s.drivePads).lc = s.lc := rfl
@[simp] theorem drivePads_mem (s : State) : (s.drivePads).mem = s.mem := rfl
@[simp] theorem drivePads_seq (s : State) : (s.drivePads).seq = s.seq := rfl
@[simp] theorem drivePads_clockStop (s : State) : (s.drivePads).clockStop = s.clockStop := rfl
@[simp] theorem drivePads_free (s : State) : (s.drivePads).free = s.free := rfl
@[simp] theorem drivePads_found (s : State) : (s.drivePads).found = s.found := rfl
@[simp] theorem drivePads_cyc (s : State) : (s.drivePads).cyc = s.cyc := rfl

@[simp] theorem safePad_pending (s : State) (b : Bool) : (s.safePad b).pending = s.pending := rfl
@[simp] theorem safePad_regs (s : State) (b : Bool) : (s.safePad b).regs = s.regs := rfl
@[simp] theorem safePad_eff (s : State) (b : Bool) : (s.safePad b).eff = s.eff := rfl
@[simp] theorem safePad_mtb (s : State) (b : Bool) : (s.safePad b).mtb = s.mtb := rfl
@[simp] theorem safePad_shadows (s : State) (b : Bool) : (s.safePad b).shadows = s.shadows := rfl
@[simp] theorem safePad_evq (s : State) (b : Bool) : (s.safePad b).evq = s.evq := rfl
@[simp] theorem safePad_flt (s : State) (b : Bool) : (s.safePad b).flt = s.flt := rfl
@[simp] theorem safePad_hist (s : State) (b : Bool) : (s.safePad b).hist = s.hist := rfl
@[simp] theorem safePad_mon (s : State) (b : Bool) : (s.safePad b).mon = s.mon := rfl
@[simp] theorem safePad_tod (s : State) (b : Bool) : (s.safePad b).tod = s.tod := rfl
@[simp] theorem safePad_trk (s : State) (b : Bool) : (s.safePad b).trk = s.trk := rfl
@[simp] theorem safePad_coll (s : State) (b : Bool) : (s.safePad b).coll = s.coll := rfl
@[simp] theorem safePad_loa (s : State) (b : Bool) : (s.safePad b).loa = s.loa := rfl
@[simp] theorem safePad_dom (s : State) (b : Bool) : (s.safePad b).dom = s.dom := rfl
@[simp] theorem safePad_good (s : State) (b : Bool) : (s.safePad b).good = s.good := rfl
@[simp] theorem safePad_syn (s : State) (b : Bool) : (s.safePad b).syn = s.syn := rfl
@[simp] theorem safePad_outs (s : State) (b : Bool) : (s.safePad b).outs = s.outs := rfl
@[simp] theorem safePad_pg (s : State) (b : Bool) : (s.safePad b).pg = s.pg := rfl
@[simp] theorem safePad_tk (s : State) (b : Bool) : (s.safePad b).tk = s.tk := rfl
@[simp] theorem safePad_eth (s : State) (b : Bool) : (s.safePad b).eth = s.eth := rfl
@[simp] theorem safePad_ptp (s : State) (b : Bool) : (s.safePad b).ptp = s.ptp := rfl
@[simp] theorem safePad_ptpc (s : State) (b : Bool) : (s.safePad b).ptpc = s.ptpc := rfl
@[simp] theorem safePad_cap (s : State) (b : Bool) : (s.safePad b).cap = s.cap := rfl
@[simp] theorem safePad_cas (s : State) (b : Bool) : (s.safePad b).cas = s.cas := rfl
@[simp] theorem safePad_acc (s : State) (b : Bool) : (s.safePad b).acc = s.acc := rfl
@[simp] theorem safePad_cfg (s : State) (b : Bool) : (s.safePad b).cfg = s.cfg := rfl
@[simp] theorem safePad_nvs (s : State) (b : Bool) : (s.safePad b).nvs = s.nvs := rfl
@[simp] theorem safePad_pwr (s : State) (b : Bool) : (s.safePad b).pwr = s.pwr := rfl
@[simp] theorem safePad_thm (s : State) (b : Bool) : (s.safePad b).thm = s.thm := rfl
@[simp] theorem safePad_bist (s : State) (b : Bool) : (s.safePad b).bist = s.bist := rfl
@[simp] theorem safePad_lc (s : State) (b : Bool) : (s.safePad b).lc = s.lc := rfl
@[simp] theorem safePad_mem (s : State) (b : Bool) : (s.safePad b).mem = s.mem := rfl
@[simp] theorem safePad_seq (s : State) (b : Bool) : (s.safePad b).seq = s.seq := rfl
@[simp] theorem safePad_clockStop (s : State) (b : Bool) : (s.safePad b).clockStop = s.clockStop := rfl
@[simp] theorem safePad_free (s : State) (b : Bool) : (s.safePad b).free = s.free := rfl
@[simp] theorem safePad_found (s : State) (b : Bool) : (s.safePad b).found = s.found := rfl
@[simp] theorem safePad_cyc (s : State) (b : Bool) : (s.safePad b).cyc = s.cyc := rfl

@[simp] theorem countInc_pending (s : State) (k : Nat) : (s.countInc k).pending = s.pending := by unfold State.countInc; split <;> rfl
@[simp] theorem countInc_regs (s : State) (k : Nat) : (s.countInc k).regs = s.regs := by unfold State.countInc; split <;> rfl
@[simp] theorem countInc_eff (s : State) (k : Nat) : (s.countInc k).eff = s.eff := by unfold State.countInc; split <;> rfl
@[simp] theorem countInc_mtb (s : State) (k : Nat) : (s.countInc k).mtb = s.mtb := by unfold State.countInc; split <;> rfl
@[simp] theorem countInc_shadows (s : State) (k : Nat) : (s.countInc k).shadows = s.shadows := by unfold State.countInc; split <;> rfl
@[simp] theorem countInc_evq (s : State) (k : Nat) : (s.countInc k).evq = s.evq := by unfold State.countInc; split <;> rfl
@[simp] theorem countInc_flt (s : State) (k : Nat) : (s.countInc k).flt = s.flt := by unfold State.countInc; split <;> rfl
@[simp] theorem countInc_hist (s : State) (k : Nat) : (s.countInc k).hist = s.hist := by unfold State.countInc; split <;> rfl
@[simp] theorem countInc_pads (s : State) (k : Nat) : (s.countInc k).pads = s.pads := by unfold State.countInc; split <;> rfl
@[simp] theorem countInc_mon (s : State) (k : Nat) : (s.countInc k).mon = s.mon := by unfold State.countInc; split <;> rfl
@[simp] theorem countInc_tod (s : State) (k : Nat) : (s.countInc k).tod = s.tod := by unfold State.countInc; split <;> rfl
@[simp] theorem countInc_trk (s : State) (k : Nat) : (s.countInc k).trk = s.trk := by unfold State.countInc; split <;> rfl
@[simp] theorem countInc_coll (s : State) (k : Nat) : (s.countInc k).coll = s.coll := by unfold State.countInc; split <;> rfl
@[simp] theorem countInc_loa (s : State) (k : Nat) : (s.countInc k).loa = s.loa := by unfold State.countInc; split <;> rfl
@[simp] theorem countInc_dom (s : State) (k : Nat) : (s.countInc k).dom = s.dom := by unfold State.countInc; split <;> rfl
@[simp] theorem countInc_good (s : State) (k : Nat) : (s.countInc k).good = s.good := by unfold State.countInc; split <;> rfl
@[simp] theorem countInc_syn (s : State) (k : Nat) : (s.countInc k).syn = s.syn := by unfold State.countInc; split <;> rfl
@[simp] theorem countInc_outs (s : State) (k : Nat) : (s.countInc k).outs = s.outs := by unfold State.countInc; split <;> rfl
@[simp] theorem countInc_pg (s : State) (k : Nat) : (s.countInc k).pg = s.pg := by unfold State.countInc; split <;> rfl
@[simp] theorem countInc_tk (s : State) (k : Nat) : (s.countInc k).tk = s.tk := by unfold State.countInc; split <;> rfl
@[simp] theorem countInc_eth (s : State) (k : Nat) : (s.countInc k).eth = s.eth := by unfold State.countInc; split <;> rfl
@[simp] theorem countInc_ptp (s : State) (k : Nat) : (s.countInc k).ptp = s.ptp := by unfold State.countInc; split <;> rfl
@[simp] theorem countInc_ptpc (s : State) (k : Nat) : (s.countInc k).ptpc = s.ptpc := by unfold State.countInc; split <;> rfl
@[simp] theorem countInc_cap (s : State) (k : Nat) : (s.countInc k).cap = s.cap := by unfold State.countInc; split <;> rfl
@[simp] theorem countInc_cas (s : State) (k : Nat) : (s.countInc k).cas = s.cas := by unfold State.countInc; split <;> rfl
@[simp] theorem countInc_acc (s : State) (k : Nat) : (s.countInc k).acc = s.acc := by unfold State.countInc; split <;> rfl
@[simp] theorem countInc_cfg (s : State) (k : Nat) : (s.countInc k).cfg = s.cfg := by unfold State.countInc; split <;> rfl
@[simp] theorem countInc_pwr (s : State) (k : Nat) : (s.countInc k).pwr = s.pwr := by unfold State.countInc; split <;> rfl
@[simp] theorem countInc_thm (s : State) (k : Nat) : (s.countInc k).thm = s.thm := by unfold State.countInc; split <;> rfl
@[simp] theorem countInc_bist (s : State) (k : Nat) : (s.countInc k).bist = s.bist := by unfold State.countInc; split <;> rfl
@[simp] theorem countInc_lc (s : State) (k : Nat) : (s.countInc k).lc = s.lc := by unfold State.countInc; split <;> rfl
@[simp] theorem countInc_mem (s : State) (k : Nat) : (s.countInc k).mem = s.mem := by unfold State.countInc; split <;> rfl
@[simp] theorem countInc_seq (s : State) (k : Nat) : (s.countInc k).seq = s.seq := by unfold State.countInc; split <;> rfl
@[simp] theorem countInc_clockStop (s : State) (k : Nat) : (s.countInc k).clockStop = s.clockStop := by unfold State.countInc; split <;> rfl
@[simp] theorem countInc_free (s : State) (k : Nat) : (s.countInc k).free = s.free := by unfold State.countInc; split <;> rfl
@[simp] theorem countInc_found (s : State) (k : Nat) : (s.countInc k).found = s.found := by unfold State.countInc; split <;> rfl
@[simp] theorem countInc_cyc (s : State) (k : Nat) : (s.countInc k).cyc = s.cyc := by unfold State.countInc; split <;> rfl

end Sys2Proof.Machine
end

