-- ==== Sys2Proof/Safety.lean ====
section
/-! DEFINITION. What the statements mean by a settled and a sound machine, a write that meets no obstacle, and the register
write that a write command is. -/
namespace Sys2Proof.Machine

/-- Every event has reached its classifier, and the pads IRQ_N[3:0] and FAULT_N show what the pending bits and the severe
latches ask for (R479, R482, R483). -/
def State.Settled (s : State) : Prop :=
  s.evq = [] ∧ s.pads.irqLow = (List.range 4).map (irqOf s) ∧ s.pads.faultLow = faultOf s

/-- Both register stores are in their canonical form. -/
def State.StoresWf (s : State) : Prop := s.regs.wf = true ∧ s.eff.wf = true

/-- A masked write that meets no obstacle (R389, R405, R411, R413, R416): its writer reaches the register file and has no
transaction open, the register is mapped and lies outside the writer's own window (R414), no field under the mask is
locked, no transaction waits for the write as its update strobe (R417), the block is not under self-test, and nothing else
of the register-file cycle meets the write: no later writer in the order of R406, no hardware change of a field that it
would lose to, no visit of the scrubber (R408, R410). -/
structure DirectWrite (s : State) (c : Ctx) (a m d : Nat) : Prop where
  reaches : reach s c = true
  closed : (txnAt s c).isOpen = false
  mask : 0 < m ∧ m < 65536
  data : d < 65536
  outside : inOwn a = false
  there : mapped a = true
  unlocked : lockOf s c a m d = none
  alone : strobeSlots s c a m d = []
  serving : outOfService s a = false
  first : priorMask s (rankOf c) a = 0
  calm : lostMask s a m = 0
  unvisited : ∀ x ∈ s.cyc.fixed, x.1 ≠ a

/-- What a write that goes through leaves: its effect, and its note in the register-file cycle in progress. -/
def State.wrote (s : State) (c : Ctx) (a m d : Nat) : State :=
  (s.writeThrough c a m d).noteWrite (rankOf c) a m (Nat.land m d)

/-- The register write that a write command is: the writer, the register, the mask and the data.  Every other command is an
event of its own. -/
def writeRow : Instr → Option (Ctx × Nat × Nat × Nat)
  | .registerWrite c a mask data => some (c, a, mask, data)
  | .txnOpen c mask data => some (c, REG.TXN_CTRL, mask, data)
  | .txnCommit c mask data => some (c, REG.TXN_CTRL, mask, data)
  | .txnAbort c mask data => some (c, REG.TXN_CTRL, mask, data)
  | .severeLatchClear c mask data => some (c, SYS.FLT_SRC, mask, data)
  | .pendClear c mask data => some (c, SYS.FLT_SRC, mask, data)
  | .pendClr c mask data => some (c, SYS.FLT_CTRL, mask, data)
  | .faultCountClear c mask data => some (c, SYS.FLT_CTRL, mask, data)
  | .evtClassWrite c src i mask data => if src < 128 ∧ i < 2 then some (c, clsAddr src + i, mask, data) else none
  | .forceInject c src mask data => if src < 128 then some (c, clsAddr src, mask, data) else none
  | .bistRequest c mask data => some (c, BIST.BIST_CTRL, mask, data)
  | .bistAbort c mask data => some (c, BIST.BIST_CTRL, mask, data)
  | .lcGo c mask data => some (c, SYS.LC_CTRL, mask, data)
  | .unsealKeyCommit c mask data => some (c, SYS.LC_CTRL, mask, data)
  | .sealClose c mask data => some (c, SYS.LC_CTRL, mask, data)
  | .unsealReq c mask data => some (c, SYS.LC_CTRL, mask, data)
  | .unsealGo c mask data => some (c, SYS.LC_CTRL, mask, data)
  | .wipe c mask data => some (c, MEM.WIPE_CTRL, mask, data)
  | .inCfgWrite c k i mask data => if k < 24 ∧ i < 64 then some (c, INM.IN_CFG k + i, mask, data) else none
  | .roleWrite c k mask data => if k < 24 then some (c, INM.IN_CFG k, mask, data) else none
  | .nominalWrite c k mask data => if k < 24 then some (c, INM.NOM_DEN k, mask, data) else none
  | .stagedSettingApply c a mask data => some (c, a, mask, data)
  | .requal c k mask data => if k < 24 then some (c, INM.QUAL_CTRL k, mask, data) else none
  | .forceFailWrite c k mask data => if k < 24 then some (c, INM.QUAL_CTRL k, mask, data) else none
  | .wtrWrite c k mask data => if k < 24 then some (c, INM.WTR k, mask, data) else none
  | .w1cClear c a mask data => some (c, a, mask, data)
  | .selectCopy c a mask data => some (c, a, mask, data)
  | .todEnableWrite c mask data => some (c, SYS.TOD_CFG, mask, data)
  | .inDelayWrite c k mask data => if k < 25 then some (c, TRK.IN_DELAY k, mask, data) else none
  | .snapshotArm c mask data => some (c, TRK.CTRL, mask, data)
  | .peakClr c a mask data => some (c, a, mask, data)
  | .cntClr c a mask data => some (c, a, mask, data)
  | .ethSpeedRoleWrite c n mask data => if n < 8 then some (c, ETH.ETH_CFG n, mask, data) else none
  | .tc10SleepReq c n mask data => if n < 8 then some (c, ETH.PORT_CTRL n, mask, data) else none
  | .tc10WakeReq c n mask data => if n < 8 then some (c, ETH.PORT_CTRL n, mask, data) else none
  | .ptpInstanceEnable c i mask data => if i < 4 then some (c, PTI.INST_CTRL i, mask, data) else none
  | .portInstanceChange c n mask data => if n < 8 then some (c, ETH.PORT_CFG n, mask, data) else none
  | .pdRestart c n mask data => if n < 8 then some (c, ETH.PORT_CTRL n, mask, data) else none
  | .keySlotSelect c mask data => some (c, PTP.KEY_CTRL, mask, data)
  | .keyDataWrite c mask data => some (c, PTP.KEY_DATA, mask, data)
  | .keyCommit c mask data => some (c, PTP.KEY_CTRL, mask, data)
  | .keyErase c mask data => some (c, PTP.KEY_CTRL, mask, data)
  | .outputEnable c n mask data => if n < 40 then some (c, OUT.CTRL n, mask, data) else none
  | .outputDisable c n mask data => if n < 40 then some (c, OUT.CTRL n, mask, data) else none
  | .stepWrite c n mask data => if n < 40 then some (c, OUT.STEP n, mask, data) else none
  | .dlyWrite c n mask data => if n < 40 then some (c, OUT.DLY n, mask, data) else none
  | .divWrite c n mask data => if n < 40 then some (c, OUT.DIV n + 1, mask, data) else none
  | .bypDivWrite c n mask data => if n < 40 then some (c, OUT.BYP_DIV n + 1, mask, data) else none
  | .driverProbe c n mask data => if n < 40 then some (c, OUT.EVT n, mask, data) else none
  | .pgEnable c p mask data => if p < 8 then some (c, PG.PG_CTRL p, mask, data) else none
  | .pgPeriodWrite c p mask data => if p < 8 then some (c, PG.PER_DEN p, mask, data) else none
  | .pgOffsetWrite c p mask data => if p < 8 then some (c, PG.OFFSET p + 2, mask, data) else none
  | .pgAlign c p mask data => if p < 8 then some (c, PG.PG_CTRL p, mask, data) else none
  | .tkEnable c t mask data => if t < 4 then some (c, TK.TK_CTRL t, mask, data) else none
  | .tkDisable c t mask data => if t < 4 then some (c, TK.TK_CTRL t, mask, data) else none
  | .tkRearm c t mask data => if t < 4 then some (c, TK.TK_CTRL t, mask, data) else none
  | .tkLoad c t mask data => if t < 4 then some (c, TK.TK_CTRL t, mask, data) else none
  | .tkCapture c t mask data => if t < 4 then some (c, TK.TK_CTRL t, mask, data) else none
  | .tkIncrementWrite c t mask data => if t < 4 then some (c, TK.INC_FRAC t + 2, mask, data) else none
  | .tkSrcWrite c t mask data => if t < 4 then some (c, TK.TK_CTRL t, mask, data) else none
  | .breezeStop c mask data => some (c, SYS.BRZ_CTRL, mask, data)
  | .store c mask data => some (c, CFG.CFG_CTRL, mask, data)
  | .pageRead c mask data => some (c, NVS.NVS_CTRL, mask, data)
  | .pageWrite c mask data => some (c, NVS.NVS_CTRL, mask, data)
  | .protectWrite c mask data => some (c, NVS.PROTECT, mask, data)
  | .cntInc c mask data => some (c, NVS.NVS_CTRL, mask, data)
  | .powerGo c mask data => some (c, PWR.PS_CTRL, mask, data)
  | .pmReqWrite c i mask data => if i < 2 then some (c, MEM.PM_REQ + i, mask, data) else none
  | .ringReadRestart c k mask data => if k < 16 then some (c, RING.RD_CTRL k, mask, data) else none
  | .ringConfigWrite c k mask data => if k < 16 then some (c, RING.RCFG k, mask, data) else none
  | .ringFlush c k mask data => if k < 16 then some (c, RING.RCFG k, mask, data) else none
  | .ringCntClr c k mask data => if k < 16 then some (c, RING.RCFG k, mask, data) else none
  | .captureCntClr c mask data => some (c, CAP.CAP_CTRL, mask, data)
  | .seqClr c mask data => some (c, CAP.CAP_CTRL, mask, data)
  | .exportEnable c x mask data => if x < 2 then some (c, CAP.EXP_CFG x, mask, data) else none
  | .casRoleWrite c mask data => some (c, CAS.CAS_CFG, mask, data)
  | .casRecal c mask data => some (c, CAS.CAS_CTRL, mask, data)
  | .casYield c mask data => some (c, CAS.CAS_CTRL, mask, data)
  | .manualSelection c d mask data => if d < 6 then some (c, DOM.SEL_CTRL d, mask, data) else none
  | .slotWrite c d i mask data => if d < 6 ∧ i < 8 then some (c, DOM.SLOT d i, mask, data) else none
  | .modeWrite c d mask data => if d < 6 then some (c, DOM.SEL_CTRL d, mask, data) else none
  | .boReset c d mask data => if d < 6 then some (c, DOM.SEL_CTRL d, mask, data) else none
  | .offsetWrite c d mask data => if d < 6 then some (c, DOM.OFFSET d + 2, mask, data) else none
  | .ovenEnWrite c mask data => some (c, LOA.OVEN_CTRL, mask, data)
  | .loadFactory c mask data => some (c, LOA.COMP_CTRL, mask, data)
  | .applyStaged c mask data => some (c, LOA.COMP_CTRL, mask, data)
  | .compEnWrite c mask data => some (c, LOA.COMP_CTRL, mask, data)
  | .synEnable c k mask data => if k < 7 then some (c, SYN.CTRL k, mask, data) else none
  | .synDisable c k mask data => if k < 7 then some (c, SYN.CTRL k, mask, data) else none
  | .update c k mask data => if k < 7 then some (c, SYN.CTRL k, mask, data) else none
  | .recal c k mask data => if k < 7 then some (c, SYN.CTRL k, mask, data) else none
  | .bandTableStore c k mask data => if k < 7 then some (c, SYN.BT_DATA2 k, mask, data) else none
  | .bandTableIndex c k mask data => if k < 7 then some (c, SYN.BT_CTRL k, mask, data) else none
  | .lockaSelWrite c mask data => some (c, SYS.LOCKA_SEL, mask, data)
  | _ => none

/-- The bytes that the layout of R392 (SPI) or R399 (I2C) gives a frame, from its command and LEN; none for an unknown
command, a LEN above 32, or a frame that ends before them. -/
def frameLen (c : Ctx) (bs : List Byte) : Option Nat :=
  let cmd := (bs.getD 0 0).toNat
  let len := (bs.getD 3 0).toNat
  if bs.length < 5 ∨ cmd = 0 ∨ 3 < cmd ∨ 32 < len then none
  else if len = 0 then some 5
  else if cmd = 3 then some (5 + 4 * len)
  else if c = .i2c then some 5
  else some (7 + (if cmd = 1 then 4 else 2) * len)

/-- The address of a frame and its LEN. -/
def frameAddr (bs : List Byte) : Nat := natBE ((bs.drop 1).take 2)
def frameWords (bs : List Byte) : Nat := (bs.getD 3 0).toNat

/-- A frame without a frame error (R396, R398): of its layout's length, with its last address within 0xFFFF. -/
def frameSound (c : Ctx) (bs : List Byte) : Bool :=
  frameLen c bs == some bs.length && (frameWords bs == 0 || !overflows (frameAddr bs) (frameWords bs))

/-- The header CRC of a read frame or the CRC of a write frame or ping, where the frame is long enough to hold it, does not
match the bytes before it (R392, R397). -/
def frameCrcBad (bs : List Byte) : Bool :=
  let cmd := (bs.getD 0 0).toNat
  let n := if cmd = 3 then 4 + 4 * frameWords bs else 4
  (frameLen .spi bs).isSome && decide (n < bs.length) && crc8 (bs.take n) != (bs.getD n 0).toNat

/-- What the MAC of port n passes to the Hildo interface of a frame (R294, R296, R402): the source address and the payload,
or none where it discards the frame. -/
def hildoPassed (s : State) (n : Nat) (bs : List Byte) : Option (List Byte × List Byte) :=
  let tagged := natBE ((bs.drop 12).take 2) == 0x8100
  let vid := natBE ((bs.drop 14).take 2) % 4096
  let o := if tagged then 18 else 14
  if macOn s ∧ (s.ethAt n).link = true ∧ natLE (bs.drop (bs.length - 4)) = fcs32 (bs.take (bs.length - 4)) ∧
      bs.length ≤ 1522 ∧ bs.take 6 = macOf s n ∧ natBE ((bs.drop (o - 2)).take 2) = s.reg PTP.HILDO_ETYPE ∧
      s.bit (ETH.ETH_CFG_HILDO_EN n) = true ∧
      (tagged = false ∨ vid = 0 ∨ (s.bit (ETH.ETH_CFG_VLAN_EN n) = true ∧ vid = s.fld (ETH.VLAN_VID n))) then
    some ((bs.drop 6).take 6, (bs.take (bs.length - 4)).drop o)
  else none

/-- A command or an idle step ends in a next state. -/
def Completes (o : Host.Outcome State Fault Refusal) : Prop := ∃ t, o = .next t

end Sys2Proof.Machine
end

