-- ==== Sys2Proof/Laws/Settle.lean ====
section
/-! SUPPORT. What settling, a command and a step can do, said once. -/
namespace Sys2Proof.Machine

/-- A fold keeps what each of its steps keeps. -/
theorem foldl_keeps {α β : Type} {σ : Type} (π : σ → β) (f : σ → α → σ) (h : ∀ t x, π (f t x) = π t) (l : List α) (s : σ) :
    π (l.foldl f s) = π s := by
  induction l generalizing s with
  | nil => rfl
  | cons x l ih => rw [List.foldl_cons, ih, h]

theorem classify_evq (s : State) (e : Event) : (s.classify e).evq = s.evq := by
  unfold State.classify
  dsimp only
  split <;> split <;> rfl

theorem reclear_evq (s : State) (srcs sevs : List Nat) : (s.reclear srcs sevs).evq = s.evq := by
  unfold State.reclear
  refine foldl_keeps (fun u : State => u.evq) _ (fun t c => ?_) _ s
  refine foldl_keeps (fun u : State => u.evq) _ (fun v k => ?_) _ t
  rfl

/-- Classification leaves no event on its way. -/
theorem classifyAll_evq (s : State) : s.classifyAll.evq = [] := by
  unfold State.classifyAll
  dsimp only
  split
  · rfl
  · rw [reclear_evq]
    exact foldl_keeps (fun u : State => u.evq) _ classify_evq _ _

theorem coverOutputs_evq (s : State) : s.coverOutputs.evq = s.evq := by
  unfold State.coverOutputs
  dsimp only
  rw [foldl_keeps (fun u : State => u.evq)]
  intro u n
  split <;> rfl

theorem drivePads_settled {s : State} (h : s.evq = []) : s.drivePads.Settled := ⟨h, rfl, rfl⟩

/-- A settled machine has no event on its way, and its pads agree with the latches and pending bits. -/
theorem settle_settled (s : State) : s.settle.Settled := by
  unfold State.settle
  dsimp only
  generalize State.gradeSweep _ = u
  exact drivePads_settled ((coverOutputs_evq _).trans (classifyAll_evq u))

/-- A command that the module takes settles; one that it does not take changes nothing. -/
theorem took_true (s t : State) : took true s t = .next t.settle := rfl
theorem took_false (s t : State) : took false s t = .next s := rfl

/-- Every command is taken or changes nothing. -/
theorem exec_took (i : Instr) (s : State) : ∃ ok t, exec i s = took ok s t := by
  cases i <;> exact ⟨_, _, rfl⟩

/-- A step with a command in front is the command on the state with the queue's rest. -/
theorem step_cons (c : Instr) (rest : List Instr) (s : State) (h : s.pending = c :: rest) :
    step s = exec c { s with pending := rest } := by
  unfold step; rw [h]

/-- A step on an empty queue lets time go on. -/
theorem step_nil (s : State) (h : s.pending = []) : step s = idle s := by
  unfold step; rw [h]

end Sys2Proof.Machine
end

