-- ==== Sys2Proof/Laws/Store.lean ====
section
/-! SUPPORT. The register stores: a read after a write, other addresses, and the canonical form kept by every write. -/
namespace Sys2Proof.Machine

variable {α : Type} {a b : Nat} {w : α} {r : List (Nat × α)} {ok : Nat → α → Bool}

/-- The addresses of a store all lie above a bound. -/
def Store.above (b : Nat) (r : List (Nat × α)) : Prop := ∀ p ∈ r, b < p.1

theorem Store.above_cons {p : Nat × α} : Store.above b (p :: r) ↔ b < p.1 ∧ Store.above b r := by
  simp [Store.above]

theorem Store.wf_cons : Store.wf ok ((a, w) :: r) = true ↔ ok a w = true ∧ Store.above a r ∧ Store.wf ok r = true := by
  induction r generalizing a w with
  | nil => simp [Store.wf, Store.above]
  | cons p r ih =>
    obtain ⟨b, x⟩ := p
    constructor
    · intro h
      simp only [Store.wf, Bool.and_eq_true, decide_eq_true_eq] at h
      exact ⟨h.1.1, Store.above_cons.mpr ⟨h.1.2, fun q hq => Nat.lt_trans h.1.2 ((ih.mp h.2).2.1 q hq)⟩, h.2⟩
    · intro ⟨h1, h2, h3⟩
      simp only [Store.wf, Bool.and_eq_true, decide_eq_true_eq]
      exact ⟨⟨h1, (Store.above_cons.mp h2).1⟩, h3⟩

theorem Store.above_erase (h : Store.above b r) : Store.above b (Store.erase a r) := by
  induction r with
  | nil => exact h
  | cons p r ih =>
    have h' := Store.above_cons.mp h
    simp only [Store.erase]
    split
    · exact ih h'.2
    · exact Store.above_cons.mpr ⟨h'.1, ih h'.2⟩

theorem Store.above_put (hb : b < a) (h : Store.above b r) : Store.above b (Store.put a w r) := by
  induction r with
  | nil => simpa [Store.put, Store.above] using hb
  | cons p r ih =>
    have h' := Store.above_cons.mp h
    simp only [Store.put]
    split
    · exact Store.above_cons.mpr ⟨hb, h⟩
    · split
      · exact Store.above_cons.mpr ⟨hb, h'.2⟩
      · exact Store.above_cons.mpr ⟨h'.1, ih h'.2⟩

theorem Store.wf_erase (h : Store.wf ok r = true) : Store.wf ok (Store.erase a r) = true := by
  induction r with
  | nil => rfl
  | cons p r ih =>
    have hc := Store.wf_cons.mp h
    simp only [Store.erase]
    split
    · exact ih hc.2.2
    · exact Store.wf_cons.mpr ⟨hc.1, Store.above_erase hc.2.1, ih hc.2.2⟩

theorem Store.wf_put (hw : ok a w = true) (h : Store.wf ok r = true) : Store.wf ok (Store.put a w r) = true := by
  induction r with
  | nil => simpa [Store.put, Store.wf] using hw
  | cons p r ih =>
    have hc := Store.wf_cons.mp h
    simp only [Store.put]
    split
    next hab => exact Store.wf_cons.mpr ⟨hw, Store.above_cons.mpr ⟨hab, fun q hq => Nat.lt_trans hab (hc.2.1 q hq)⟩, h⟩
    next hab =>
      split
      next heq => subst heq; exact Store.wf_cons.mpr ⟨hw, hc.2.1, hc.2.2⟩
      next hne => exact Store.wf_cons.mpr ⟨hc.1, Store.above_put (by omega) hc.2.1, ih hc.2.2⟩

theorem Store.find_erase_same : Store.find a (Store.erase a r) = none := by
  induction r with
  | nil => rfl
  | cons p r ih =>
    simp only [Store.erase]
    split
    · exact ih
    next hne => simp only [Store.find]; rw [if_neg hne]; exact ih

theorem Store.find_erase_ne (hab : b ≠ a) : Store.find b (Store.erase a r) = Store.find b r := by
  induction r with
  | nil => rfl
  | cons p r ih =>
    simp only [Store.erase]
    split
    next heq => simp only [Store.find]; rw [if_neg (by omega), ih]
    next hne => simp only [Store.find]; rw [ih]

theorem Store.find_put_same : Store.find a (Store.put a w r) = some w := by
  induction r with
  | nil => simp [Store.put, Store.find]
  | cons p r ih =>
    simp only [Store.put]
    split
    · simp [Store.find]
    · split
      · simp [Store.find]
      next hne => simp only [Store.find]; rw [if_neg hne]; exact ih

theorem Store.find_put_ne (hab : b ≠ a) : Store.find b (Store.put a w r) = Store.find b r := by
  induction r with
  | nil => simp [Store.put, Store.find, hab]
  | cons p r ih =>
    simp only [Store.put]
    split
    · simp [Store.find, hab]
    · split
      next heq => simp only [Store.find]; rw [if_neg hab, if_neg (by omega)]
      next hne => simp only [Store.find]; rw [ih]

/-! ### Settings in force (`RegStore`) and the voted registers (`VoteStore`) -/

theorem RegStore.wf_set {r : RegStore} {w : Word} (h : r.wf = true) : (r.set a w).wf = true := by
  unfold RegStore.set
  split
  · exact Store.wf_erase h
  · next hw => exact Store.wf_put (by simpa using hw) h

theorem RegStore.get_set_same {r : RegStore} {w : Word} : (r.set a w).get a = w := by
  unfold RegStore.set RegStore.get
  split
  next heq => simp [Store.find_erase_same, heq]
  · simp [Store.find_put_same]

theorem RegStore.get_set_ne {r : RegStore} {w : Word} (hab : b ≠ a) : (r.set a w).get b = r.get b := by
  unfold RegStore.set RegStore.get
  split
  · rw [Store.find_erase_ne hab]
  · rw [Store.find_put_ne hab]

/-- Three equal copies vote for their word (R407). -/
@[simp] theorem Copies.vote_same {w : Word} : Copies.vote ⟨w, w, w⟩ a = w := by simp [Copies.vote]

/-- A reset word that is listed, or not, is the reset word either way. -/
theorem VoteStore.get_putCopies_same {r : VoteStore} {c : Copies} : (r.putCopies a c).get a = c.vote a := by
  unfold VoteStore.putCopies
  by_cases h : c = ⟨resetWord a, resetWord a, resetWord a⟩
  · rw [if_pos h]; simp [VoteStore.get, Store.find_erase_same, h]
  · rw [if_neg h]; simp [VoteStore.get, Store.find_put_same]

theorem VoteStore.get_putCopies_ne {r : VoteStore} {c : Copies} (hab : b ≠ a) : (r.putCopies a c).get b = r.get b := by
  unfold VoteStore.putCopies
  split <;> simp only [VoteStore.get, Store.find_erase_ne hab, Store.find_put_ne hab]

theorem VoteStore.wf_putCopies {r : VoteStore} {c : Copies} (h : r.wf = true) : (r.putCopies a c).wf = true := by
  unfold VoteStore.putCopies
  split
  · exact Store.wf_erase h
  · next hw => exact Store.wf_put (by simpa using hw) h

/-- Every write, and every upset of a copy, keeps the canonical form. -/
theorem VoteStore.wf_set {r : VoteStore} {w : Word} (h : r.wf = true) : (r.set a w).wf = true := VoteStore.wf_putCopies h

theorem VoteStore.wf_upset {r : VoteStore} {hi lo x y z : Nat} (h : r.wf = true) : (r.upset a hi lo x y z).wf = true :=
  VoteStore.wf_putCopies h

/-- A read after a write gives the word written. -/
theorem VoteStore.get_set_same {r : VoteStore} {w : Word} : (r.set a w).get a = w :=
  VoteStore.get_putCopies_same.trans Copies.vote_same

/-- A write leaves every other address alone. -/
theorem VoteStore.get_set_ne {r : VoteStore} {w : Word} (hab : b ≠ a) : (r.set a w).get b = r.get b :=
  VoteStore.get_putCopies_ne hab

/-- The state's registers: a read after a write, and other addresses. -/
theorem reg_setReg_same {s : State} {a n : Nat} : (s.setReg a n).reg a = n % 65536 := by
  simp [State.reg, State.setReg, VoteStore.get_set_same, BitVec.toNat_ofNat]

theorem reg_setReg_ne {s : State} {a b n : Nat} (hab : b ≠ a) : (s.setReg a n).reg b = s.reg b := by
  simp [State.reg, State.setReg, VoteStore.get_set_ne hab]

theorem setReg_wf {s : State} {a n : Nat} (h : s.regs.wf = true) : (s.setReg a n).regs.wf = true := VoteStore.wf_set h

/-- Vectors of like blocks. -/
@[simp] theorem vat_vup_same {α : Type} [Inhabited α] {n : Nat} (v : Vector α n) (i : Nat) (f : α → α) (h : i < n) :
    vat (vup v i f) i = f (vat v i) := by
  simp [vat, vup, h]

@[simp] theorem vat_vup_ne {α : Type} [Inhabited α] {n : Nat} (v : Vector α n) (i j : Nat) (f : α → α) (h : j ≠ i) :
    vat (vup v i f) j = vat v j := by
  unfold vat vup
  split
  · split
    · exact Vector.getElem_set_ne _ _ (by omega)
    · rfl
  · rfl

theorem vup_out {α : Type} {n : Nat} (v : Vector α n) (i : Nat) (f : α → α) (h : n ≤ i) : vup v i f = v := by
  unfold vup
  rw [dif_neg (by omega)]

end Sys2Proof.Machine
end

