-- ==== Sys2Proof/Laws/Write.lean ====
section
/-! SUPPORT. Writes: what a write that meets no obstacle does, and the read of a page's hook from an address. -/
namespace Sys2Proof.Machine

theorem reach_ne_cas {s : State} {c : Ctx} (h : reach s c = true) : c ≠ .cas := by
  intro hc; subst hc; simp [reach] at h

theorem without_zero (n : Nat) : without n 0 = n := by simp [without]

/-- A visit that the write does not replace stays counted. -/
theorem unfix_none {s : State} {a m : Nat} (h : ∀ x ∈ s.cyc.fixed, x.1 ≠ a) : s.unfix a m = s := by
  have h1 : s.cyc.fixed.filter (fun x => x.1 == a && bitsOf m x.2.1 x.2.1 == 1) = [] := by
    rw [List.filter_eq_nil_iff]
    intro x hx
    simp [h x hx]
  have h2 : s.cyc.fixed.filter (fun x => !(x.1 == a && bitsOf m x.2.1 x.2.1 == 1)) = s.cyc.fixed := by
    rw [List.filter_eq_self]
    intro x hx
    simp [h x hx]
  unfold State.unfix
  rw [h1, h2]
  rfl

/-- A write that nothing else of its cycle meets. -/
theorem land_calm {s : State} {c : Ctx} {a m d : Nat} (ho : inOwn a = false) (h0 : m ≠ 0) (h1 : priorMask s (rankOf c) a = 0)
    (h2 : lostMask s a m = 0) (h3 : ∀ x ∈ s.cyc.fixed, x.1 ≠ a) : s.land (rankOf c) c a m d = s.wrote c a m d := by
  simp [State.land, ho, h1, without_zero, h0, h2, State.noteLost, State.flagIf, unfix_none h3, State.wrote]

/-- A write that meets no obstacle goes through. -/
theorem write_direct {s : State} {c : Ctx} {a m d : Nat} (h : DirectWrite s c a m d) :
    s.write c a m d = s.wrote c a m d := by
  have hm : m % 65536 = m := Nat.mod_eq_of_lt h.mask.2
  have hd : d % 65536 = d := Nat.mod_eq_of_lt h.data
  have h0 : m ≠ 0 := by have := h.mask.1; omega
  rw [← land_calm h.outside h0 h.first h.calm h.unvisited]
  simp [State.write, reach_ne_cas h.reaches, State.cycleWrites, oneWrite, h.outside, h.closed, State.writeNow,
    h.alone, State.writePlain, State.writeRanked, hm, hd, h0, h.there, h.unlocked]

end Sys2Proof.Machine
end

