-- ==== Sys2Proof/Certificates/Slice0/Obligations.lean ====
section
/-! DEFINITION. The statements for the provers.  `exec` and `step` answer a settled state: a command's own effect t, then
`t.settle`, in which its events reach their classifiers and the pads follow (15: R479, R482, R483). -/
open Sys2Proof Sys2Proof.Machine

/-- A step runs the command at the front of the queue (the model's queue, log entry 2); with none waiting a nanosecond of MTB
time passes while the MTB runs (log entry 2; the count of R33), and nothing does otherwise. -/
def Obligations.StepRunsFront : Prop :=
  (∀ (s : State) (c : Instr) (rest : List Instr), s.pending = c :: rest → step s = exec c { s with pending := rest }) ∧
  ∀ s : State, s.pending = [] →
    let padsIdle := ∀ n, n < 16 → (s.outAt n).busy = false
    (heldRunning s = false → clocked s = true → step s = .next s.tick.settle ∧
      (s.evq = [] →
        let n := (s.now + 1) % 2 ^ 64
        n % 25000 ≠ 0 → n % 25000 ≠ 1500 → n % 25000 ≠ 2000 → n % 25000 ≠ 4000 →
          s.tick.now = n ∧ (padsIdle → s.tick.regs = s.regs) ∧ s.tick.flt = s.flt ∧ s.tick.pending = [])) ∧
    (heldRunning s = true → step s = .next (s.passTime 1).settle ∧
      (s.evq = [] → (s.passTime 1).now = (s.now + 1) % 2 ^ 64 ∧ (padsIdle → (s.passTime 1).regs = s.regs))) ∧
    (heldRunning s = false → clocked s = false → step s = .next s)

/-- The spec gives every command an outcome that the module itself reports, so no step faults or refuses. -/
def Obligations.EveryStepCompletes : Prop :=
  (∀ (i : Instr) (s : State), Completes (exec i s)) ∧ ∀ s : State, Completes (step s)

/-- What a reset leaves (R4, R14, R32, R475): the dash words are the model's choice, log entry 8.  The invariants of
SettledInvariant and SafeStatesInvariant hold there. -/
def Obligations.ResetState : Prop :=
  let s := State.reset
  s.pending = [] ∧ (∀ a, s.reg a = (resetWord a).toNat) ∧ (∀ a, s.eff1 a = (resetWord a).toNat) ∧ s.now = 0 ∧
  (∀ b, b < 64 → vat s.hist b = []) ∧ (∀ k, k < 128 → (s.fltAt k).sev = false ∧ (s.fltAt k).pend = false) ∧
  s.pwr.st = .boot ∧ (∀ k, k < 24 → (s.monAt k).st = .absent) ∧ (∀ d, d < 6 → (s.domAt d).st = .freerun) ∧
  (∀ k, k < 7 → (s.synAt k).st = .off) ∧ (∀ n, n < 40 → (s.outAt n).st = .off) ∧
  (∀ t, t < 4 → (s.tkAt t).st = .stopped) ∧ (∀ k, k < 16 → inRing s k = 0) ∧ lcState s = .provision ∧
  s.Settled ∧ s.StoresWf ∧ ∀ n, n < 40 → covered s n = false ∧ (s.outAt n).drvFault = false

/-- The invariant: no event waits for its classifier, and IRQ_N[3:0] and FAULT_N show what the pending bits and the latches
ask for (R479, R481 to R483), in every state and after every command. -/
def Obligations.SettledInvariant : Prop :=
  ∀ s t : State, s.Settled → step s = .next t → t.Settled

/-- The frame of settling, which follows every command: while no unit is under test and no write waits for
a rejoin (R405) it leaves these blocks as the command left them, so what a statement says of them before settling holds after it. -/
def Obligations.SettleKeeps : Prop :=
  ∀ t : State, t.bist.active = [] → t.acc.late = [] →
    let u := t.settle
    u.pending = t.pending ∧ u.mtb = t.mtb ∧ u.shadows = t.shadows ∧ u.eff = t.eff ∧ u.tod = t.tod ∧ u.coll = t.coll ∧
    u.good = t.good ∧ u.loa = t.loa ∧ u.mon = t.mon ∧ u.trk = t.trk ∧ u.pg = t.pg ∧ u.tk = t.tk ∧ u.eth = t.eth ∧
    u.ptp = t.ptp ∧ u.ptpc = t.ptpc ∧ u.cfg = t.cfg ∧ u.thm = t.thm ∧ u.lc = t.lc ∧ u.mem = t.mem ∧ u.seq = t.seq ∧
    u.bist = t.bist ∧ u.clockStop = t.clockStop ∧ u.free = t.free

/-- Every command that is a register write completes with the effect of the write (R389, R405). -/
def Obligations.WriteRowsComplete : Prop :=
  ∀ (i : Instr) (s : State) (c : Ctx) (a m d : Nat), writeRow i = some (c, a, m, d) → DirectWrite s c a m d →
    exec i s = .next (s.wrote c a m d).settle

/-- The outcomes of a write (R390, R405, R406, R408, R410, R411, R413, R416): no form is left out but the own-context window, whose writes
TxnControl and TxnCommit state. -/
def Obligations.WriteOutcomes : Prop :=
  ∀ (s : State) (c : Ctx) (a m d : Nat), c ≠ .cas → inOwn a = false → m < 65536 → d < 65536 →
    (m = 0 → s.cycleWrites c [(a, m, d)] = (0, false, s)) ∧
    (m ≠ 0 → (txnAt s c).isOpen = true →
      (mapped a = false → s.write c a m d = s.accUnmapped c a false) ∧
      (mapped a = true → (lockOf s c a m d).isSome = true →
        s.write c a m d = (s.accRefuse c a 4).txnUp c fun x => { x with doomLock := true }) ∧
      (mapped a = true → lockOf s c a m d = none → 256 ≤ (txnAt s c).entries.length →
        s.write c a m d = s.txnUp c fun x => { x with doomOvf := true }) ∧
      (mapped a = true → lockOf s c a m d = none → (txnAt s c).entries.length < 256 →
        s.write c a m d =
          s.txnUp c fun x => { x with entries := x.entries ++ [⟨a, m, d, crc8 (bytesBE 2 a ++ bytesBE 2 m ++ bytesBE 2 d)⟩] })) ∧
    (m ≠ 0 → (txnAt s c).isOpen = false → strobeSlots s c a m d = [] →
      (mapped a = false → s.write c a m d = s.accUnmapped c a false) ∧
      (∀ why, mapped a = true → lockOf s c a m d = some why →
        s.write c a m d = (s.storeRefused a (Nat.land m d)).accRefuse c a why) ∧
      (mapped a = true → lockOf s c a m d = none → s.write c a m d = s.land (rankOf c) c a m d)) ∧
    (let m' := without m (priorMask s (rankOf c) a)
     (m' = 0 → s.land (rankOf c) c a m d = s) ∧
     (m' ≠ 0 → lostMask s a m' = 0 → (∀ x ∈ s.cyc.fixed, x.1 ≠ a) →
        s.land (rankOf c) c a m d = (s.writeThrough c a m' d).noteWrite (rankOf c) a m' (Nat.land m' d)) ∧
     (m' ≠ 0 → lostMask s a m' ≠ 0 → (∀ x ∈ s.cyc.fixed, x.1 ≠ a) →
        s.land (rankOf c) c a m d =
          ((s.flag (lostFlag a)).writeThrough c a m' d).noteWrite (rankOf c) a m' (Nat.land m' d)))

/-- R390: mask 0 is a no-op; a go bit or a W1C bit acts only under mask AND data. -/
def Obligations.NoMaskNoWrite : Prop :=
  (∀ (s : State) (c : Ctx) (a d : Nat), s.cycleWrites c [(a, 0, d)] = (0, false, s) ∧ s.write c a 0 d = s) ∧
  (∀ (s : State) (c : Ctx) (a m d : Nat), s.writeThrough c a m d = s.writeThrough c a m (Nat.land m d)) ∧
  (∀ (s : State) (c : Ctx) (a m d d' : Nat), Nat.land m d = Nat.land m d' →
    s.writeThrough c a m d = s.writeThrough c a m d')

/-- The stored word of a masked write and its frame (R11, R45, R88, R389, R410). -/
def Obligations.StoredWord : Prop :=
  ∀ (s : State) (a m d : Nat), m < 65536 → d < 65536 →
    heldBits s a (Nat.land (Nat.land m d) (typeMask (· == .w1c) a)) = 0 →
    ((∀ x ∈ s.cyc.incs, x.1 ≠ a) → ∀ b, b < 16 → ((s.storeWord a m d).reg a).testBit b =
      if m.testBit b && (writeMask s a).testBit b then d.testBit b
      else if m.testBit b && d.testBit b && (typeMask (· == .w1c) a).testBit b &&
          !(decide (0x2000 ≤ a ∧ a < 0x2500 ∧ a % 32 = 9) && b == 13) && !(justSet s a).testBit b then false
      else (s.reg a).testBit b) ∧
    (∀ r, regAt a = some r → r.fields = [⟨15, 0, .cnt, 0, false⟩] → m = 65535 →
      (s.storeWord a m d).reg a = satNat 16 (d + s.cyc.added a 0)) ∧
    (∀ b, b ≠ a → (s.storeWord a m d).reg b = s.reg b) ∧
    (s.storeWord a m d).pending = s.pending ∧ (s.storeWord a m d).eff = s.eff

/-- R398, for SPI, I2C and the I2C timeout of R400: a frame error applies nothing, and is counted and flagged with no event. -/
def Obligations.FrameErrorRow : Prop :=
  (∀ (s : State) (c : Ctx) (bs : List Byte), c = .spi ∨ c = .i2c → answers s = true →
    (c = .i2c → s.bit REG.IF_CFG_I2C_EN = true) → frameSound c bs = false → frameCrcBad bs = false →
    ∃ t : State, exec (.frameError (c == .i2c) bs) s = .next t.settle ∧ t = { s with regs := t.regs, cyc := t.cyc, acc := t.acc } ∧
      t.reg REG.FRAME_ERR_CNT = satNat 16 (s.reg REG.FRAME_ERR_CNT + 1) ∧ t.bit REG.ACC_EVT_FRAME_ERR = true ∧
      (∀ a, a ≠ REG.FRAME_ERR_CNT → a ≠ REG.ACC_EVT → t.reg a = s.reg a) ∧ prevStatus t c / 32 = 2 ∧
      t.acc.ctx = s.acc.ctx ∧ t.acc.slots = s.acc.slots ∧ t.acc.log = s.acc.log) ∧
  (∀ s : State, answers s = true → s.bit REG.IF_CFG_I2C_EN = true → s.fld REG.IF_CFG_I2C_TOUT ≠ 0 →
    ∃ t : State, exec .i2cTimeout s = .next t.settle ∧ t = { s with regs := t.regs, cyc := t.cyc, acc := t.acc } ∧
      t.reg REG.FRAME_ERR_CNT = satNat 16 (s.reg REG.FRAME_ERR_CNT + 1) ∧ t.bit REG.ACC_EVT_FRAME_ERR = true ∧
      (∀ a, a ≠ REG.FRAME_ERR_CNT → a ≠ REG.ACC_EVT → t.reg a = s.reg a) ∧ prevStatus t .i2c / 32 = 2)

/-- A frame with a CRC error (R397): counted, flagged, one WARN event of source 13, nothing applied; a read returns zeros
and their CRC-8.  A ping (R392): no effect, and its own STATUS is OK. -/
def Obligations.FrameCrcRow : Prop :=
  (∀ (s : State) (c : Ctx) (bs : List Byte), c = .spi ∨ c = .i2c → answers s = true →
    (c = .i2c → s.bit REG.IF_CFG_I2C_EN = true) → frameSound c bs = true → frameCrcBad bs = true →
    ∃ t : State, exec (.frameCrcError (c == .i2c) bs) s = .next t.settle ∧
      t = { s with regs := t.regs, cyc := t.cyc, acc := t.acc, evq := t.evq } ∧
      t.reg REG.CRC_ERR_CNT = satNat 16 (s.reg REG.CRC_ERR_CNT + 1) ∧ t.bit REG.ACC_EVT_FRAME_CRC = true ∧
      (∀ a, a ≠ REG.CRC_ERR_CNT → a ≠ REG.ACC_EVT → t.reg a = s.reg a) ∧
      t.evq = s.evq ++ [⟨13, .warn, true, false, 2, ctxIdx c * 8192, 0, []⟩] ∧ prevStatus t c / 32 = 1 ∧
      t.acc.ctx = s.acc.ctx ∧ t.acc.slots = s.acc.slots ∧ t.acc.log = s.acc.log ∧
      ((bs.getD 0 0).toNat = 1 ∨ (bs.getD 0 0).toNat = 2 → frameWords bs ≠ 0 →
        (if c = .i2c then t.acc.i2cOut else t.acc.miso) =
          readLead s c ++ readBytes (if (bs.getD 0 0).toNat = 1 then 4 else 2) (List.replicate (frameWords bs) 0))) ∧
  ∀ (s : State) (bs : List Byte), answers s = true → frameSound .spi bs = true → frameCrcBad bs = false →
    frameWords bs = 0 →
    ∃ t : State, exec (.spiPing bs) s = .next t.settle ∧ t = { s with acc := t.acc } ∧ prevStatus t .spi / 16 = 0 ∧
      t.acc.miso = [BitVec.ofNat 8 (prevStatus s .spi)] ∧
      t.acc = { s.acc with spi := t.acc.spi, miso := t.acc.miso }

/-- Write frames (R389, R392, R396, R397, R399): every word of the frame reaches the register file; one word is the masked
write itself. -/
def Obligations.WriteFrames : Prop :=
  ∀ (s : State) (c : Ctx) (adr : Nat) (bs : List Byte), c = .spi ∨ (c = .i2c ∧ i2cMine s adr = true) → answers s = true →
    frameSound c bs = true → frameCrcBad bs = false → (bs.getD 0 0).toNat = 3 → frameWords bs ≠ 0 →
    let r := s.writeBurst c (frameAddr bs) (accessWords (frameWords bs) (bs.drop 4))
    ∃ t : State, (if c = .spi then exec (.spiWrite bs) s else exec (.i2cWrite adr bs) s) = .next t.settle ∧
      t = { r.2.2 with acc := t.acc } ∧ t.acc.ctx = r.2.2.acc.ctx ∧ t.acc.slots = r.2.2.acc.slots ∧
      prevStatus t c / 32 = r.1 ∧ prevStatus t c / 16 % 2 = r.2.1.toNat ∧
      (frameWords bs = 1 → r.2.2 =
        s.write c (frameAddr bs) (natBE ((bs.drop 4).take 2)) (natBE ((bs.drop 6).take 2)))

/-- Read frames (R392, R393, R396, R397, R399). -/
def Obligations.ReadFrames : Prop :=
  ∀ (s : State) (c : Ctx) (adr : Nat) (bs : List Byte), c = .spi ∨ (c = .i2c ∧ i2cMine s adr = true) → answers s = true →
    frameSound c bs = true → frameCrcBad bs = false → (bs.getD 0 0).toNat = 1 ∨ (bs.getD 0 0).toNat = 2 →
    frameWords bs ≠ 0 →
    let wb := if (bs.getD 0 0).toNat = 1 then 4 else 2
    let r := s.readBurst (frameWords bs) c (frameAddr bs) 0
    ∃ t : State, (if c = .i2c then exec (.i2cRead adr bs) s else if wb = 4 then exec (.spiRead bs) s else exec (.spiRead16 bs) s) =
        .next t.settle ∧
      t = { r.2.2 with acc := t.acc } ∧ t.acc.ctx = r.2.2.acc.ctx ∧ prevStatus t c / 32 = r.1 ∧ r.2.1.length = frameWords bs ∧
      (if c = .i2c then t.acc.i2cOut else t.acc.miso) = readLead s c ++ readBytes wb r.2.1 ∧
      (frameWords bs = 1 → mapped (frameAddr bs) = true → fromShadow (frameAddr bs) = false →
        frameAddr bs ≠ CAP.SRC_STAT → isPort (frameAddr bs) = false → r.2.1 = [readPlain s c (frameAddr bs)])

/-- Latching reads (R39, R391), and the read of an unmapped address (R413). -/
def Obligations.ReadsLatch : Prop :=
  ∀ (s : State) (c : Ctx) (a : Nat), reach s c = true →
    (mapped a = true → fromShadow a = false → a ≠ CAP.SRC_STAT → ¬ (0x3D00 ≤ a ∧ a < 0x3E00 ∧ a % 16 = 6) →
      ∃ t : State, exec (.latchingRead c a) s = .next t.settle ∧ t = { s with shadows := t.shadows } ∧
        (∀ m, m ∈ latches a → shadowGet (vat t.shadows (ctxIdx c)) m = readPlain s c m % 65536) ∧
        (∀ i, i ≠ ctxIdx c → vat t.shadows i = vat s.shadows i)) ∧
    (mapped a = false →
      ∃ t : State, exec (.latchingRead c a) s = .next t.settle ∧ t = { s with regs := t.regs, cyc := t.cyc } ∧
        t.reg REG.UNMAPPED_CNT = satNat 16 (s.reg REG.UNMAPPED_CNT + 1) ∧ t.bit REG.ACC_EVT_UNMAPPED = true ∧
        (s.bit REG.REG_CTRL_REC_HOLD = false → a < 65536 → t.reg REG.ACC_ADDR = a ∧ t.fld REG.ACC_INFO_CAUSE = 3) ∧
        ∀ b, b ≠ REG.UNMAPPED_CNT → b ≠ REG.ACC_EVT → b ≠ REG.ACC_ADDR → b ≠ REG.ACC_INFO →
          (b < REG.ACC_TIME ∨ REG.ACC_TIME + 4 ≤ b) → t.reg b = s.reg b)

/-- The rows of R421 for OPEN and ABORT, and for ABORT and COMMIT on an idle context. -/
def Obligations.TxnControl : Prop :=
  ∀ (s : State) (c : Ctx) (m d : Nat), reach s c = true → lockOf s c REG.TXN_CTRL m d = none → 0 < m → m < 65536 →
    d < 65536 →
    let x := txnAt s c
    (Nat.land m d / 8192 = 4 →
      ∃ t : State, exec (.txnOpen c m d) s = .next t.settle ∧ t = { s with acc := t.acc } ∧ t.acc = { s.acc with ctx := t.acc.ctx } ∧
        (txnAt t c).isOpen = true ∧
        (x.isOpen = false → (txnAt t c).id = winWord s c REG.TXN_ID ∧ (txnAt t c).entries = [] ∧ (txnAt t c).staged = 0 ∧
          (txnAt t c).doomOvf = false ∧ (txnAt t c).doomLock = false) ∧
        (x.isOpen = true → (txnAt t c).id = x.id ∧ (txnAt t c).entries = x.entries) ∧
        ∀ c', ctxIdx c' ≠ ctxIdx c → txnAt t c' = txnAt s c') ∧
    (Nat.land m d / 8192 % 2 = 1 → x.isOpen = true →
      ∃ t : State, exec (.txnAbort c m d) s = .next t.settle ∧ t = { s with regs := t.regs, cyc := t.cyc, acc := t.acc, evq := t.evq } ∧
        (txnAt t c).isOpen = false ∧ (txnAt t c).res = 8 ∧ (txnAt t c).lastId = x.id ∧ (txnAt t c).entries = [] ∧
        t.acc.slots = s.acc.slots ∧ t.evq = s.evq ++ [⟨14, .warn, true, false, 3, ctxIdx c * 8192, x.id, []⟩] ∧
        t.acc.log = ((x.id, 8, ctxIdx c, x.entries.length, s.epoch % 65536) :: s.acc.log).take 16 ∧
        t.bit REG.ACC_EVT_TXN_ABORT = true ∧ t.reg REG.TXN_ABORT_CNT = satNat 16 (s.reg REG.TXN_ABORT_CNT + 1) ∧
        ∀ a, a ≠ REG.ACC_EVT → a ≠ REG.TXN_ABORT_CNT → t.reg a = s.reg a) ∧
    (Nat.land m d / 8192 = 1 ∨ Nat.land m d / 8192 = 2 → x.isOpen = false →
      ∃ t : State, exec (.txnCommit c m d) s = .next t.settle ∧ t = { s with acc := t.acc } ∧ t.acc = { s.acc with ctx := t.acc.ctx } ∧
        ∀ c', (txnAt t c').isOpen = (txnAt s c').isOpen ∧ (txnAt t c').entries = (txnAt s c').entries ∧
          (txnAt t c').res = (txnAt s c').res)

/-- COMMIT on an open transaction (R417, R418, R420 to R422), with the access word of the chapter's example. -/
def Obligations.TxnCommit : Prop :=
  ∀ (s : State) (c : Ctx) (p arg : Nat), reach s c = true → p < 5 → arg < 8 →
    lockOf s c REG.TXN_CTRL 0x5F80 (0x4000 + p * 1024 + arg * 128) = none → bcWanted s c = false →
    (txnAt s c).isOpen = true →
    commitBad p arg (winWide s c REG.TXN_NS 2) = false →
    let x := txnAt s c
    let cmd : Instr := .txnCommit c 0x5F80 (0x4000 + p * 1024 + arg * 128)
    (p = 0 → x.doomOvf = false → x.doomLock = false → badSyn s x.entries 0 arg = none →
      applyCheck s c x.entries 0 0 = none →
      ∃ t : State, exec cmd s = .next t.settle ∧ (txnAt t c).isOpen = false ∧ (txnAt t c).res = 1 ∧ (txnAt t c).lastId = x.id ∧
        (txnAt t c).resCount = x.entries.length ∧
        (x.entries = [] → t = { s with regs := t.regs, cyc := t.cyc, acc := t.acc, evq := t.evq } ∧ t.acc.slots = s.acc.slots ∧
          t.evq = s.evq ++ [⟨15, .info, true, false, 4, ctxIdx c * 8192, x.id, []⟩] ∧
          t.reg REG.TXN_DONE_CNT = satNat 16 (s.reg REG.TXN_DONE_CNT + 1) ∧
          ∀ a, a ≠ REG.ACC_EVT → a ≠ REG.TXN_DONE_CNT → t.reg a = s.reg a)) ∧
    (1 ≤ p → x.doomOvf = false → x.doomLock = false → badSyn s x.entries p arg = none →
      pointGone s p arg (winWide s c REG.TXN_SEC 3) (winWide s c REG.TXN_NS 2) = false → ∀ w, freeSlot s = some w →
      ∃ t : State, exec cmd s = .next t.settle ∧ t = { s with acc := t.acc } ∧ t.acc.log = s.acc.log ∧
        (txnAt t c).isOpen = false ∧ (txnAt t c).res = x.res ∧ (slotOf t w).busy = true ∧ (slotOf t w).ctx = c ∧
        (slotOf t w).at' = p ∧ (slotOf t w).arg = arg ∧ (slotOf t w).id = x.id ∧ (slotOf t w).entries = x.entries ∧
        (slotOf t w).came = s.now ∧ (slotOf t w).timeout = winWord s c REG.TXN_TIMEOUT ∧ (slotOf t w).bc = false ∧
        ∀ v, v ≠ w → slotOf t v = slotOf s v) ∧
    (x.doomOvf = true ∨ (1 ≤ p ∧ freeSlot s = none) →
      ∃ t : State, exec cmd s = .next t.settle ∧ t = { s with regs := t.regs, cyc := t.cyc, acc := t.acc, evq := t.evq } ∧
        (txnAt t c).isOpen = false ∧ (txnAt t c).res = 3 ∧ t.acc.slots = s.acc.slots ∧
        ∀ a, a ≠ REG.ACC_EVT → a ≠ REG.TXN_ABORT_CNT → t.reg a = s.reg a) ∧
    (x.doomOvf = false → (p = 0 ∨ (freeSlot s).isSome = true) → x.doomLock = true →
      ∃ t : State, exec cmd s = .next t.settle ∧ t = { s with regs := t.regs, cyc := t.cyc, acc := t.acc, evq := t.evq } ∧
        (txnAt t c).isOpen = false ∧ (txnAt t c).res = 4 ∧ t.acc.slots = s.acc.slots ∧
        ∀ a, a ≠ REG.ACC_EVT → a ≠ REG.TXN_ABORT_CNT → t.reg a = s.reg a)

/-- The point of a waiting transaction, and LATE (R418 to R420, R423). -/
def Obligations.TxnPoint : Prop :=
  ∀ (s : State) (w : Nat), clocked s = true → w < 4 →
    let x := slotOf s w
    x.busy = true →
    (pointCome s x = true → applyCheck s x.ctx x.entries x.at' x.arg = none →
      ∃ t : State, exec (.txnApply w) s = .next t.settle ∧ (slotOf t w).busy = false ∧ (txnAt t x.ctx).res = 1 ∧
        (txnAt t x.ctx).lastId = x.id ∧ (txnAt t x.ctx).resCount = x.entries.length ∧ (txnAt t x.ctx).resSlot = w) ∧
    (∀ r, pointCome s x = true → applyCheck s x.ctx x.entries x.at' x.arg = some r →
      ∃ t : State, exec (.txnApply w) s = .next t.settle ∧ (slotOf t w).busy = false ∧ (txnAt t x.ctx).res = r ∧
        (txnAt t x.ctx).lastId = x.id ∧ t = { s with regs := t.regs, cyc := t.cyc, acc := t.acc, evq := t.evq } ∧
        ∀ a, (a < 0x0200 ∨ 0x0300 ≤ a) → (r = 7 → a < 0x1800 ∨ 0x1F00 ≤ a) → t.reg a = s.reg a) ∧
    (pointCome s x = false → x.bc = false → 0 < x.timeout → x.came + x.timeout * 1000000 ≤ s.now →
      ∃ t : State, exec (.txnLate w) s = .next t.settle ∧ t = { s with regs := t.regs, cyc := t.cyc, acc := t.acc, evq := t.evq } ∧
        (slotOf t w).busy = false ∧ (txnAt t x.ctx).res = 2 ∧ (txnAt t x.ctx).lastId = x.id ∧
        t.evq = s.evq ++ [⟨14, .warn, true, false, 3, ctxIdx x.ctx * 8192, x.id, []⟩] ∧
        t.reg REG.TXN_ABORT_CNT = satNat 16 (s.reg REG.TXN_ABORT_CNT + 1) ∧
        ∀ a, a ≠ REG.ACC_EVT → a ≠ REG.TXN_ABORT_CNT → t.reg a = s.reg a)

/-- What OPEN, COMMIT, ABORT, the point and the timeout of a transaction answer (R415, R417 to R419, R421), each under conditions
on the state and the operands alone; TxnControl, TxnCommit and TxnPoint say what these states hold. -/
def Obligations.TxnRowsComplete : Prop :=
  (∀ (s : State) (c : Ctx) (m d : Nat), reach s c = true → lockOf s c REG.TXN_CTRL m d = none → 0 < m → m < 65536 →
    d < 65536 →
    let x := txnAt s c
    let u := s.windowWrite c REG.TXN_CTRL m d
    (Nat.land m d / 8192 = 4 → x.isOpen = false →
      exec (.txnOpen c m d) s =
        .next (u.txnUp c fun y => { y.close with isOpen := true, id := winWord s c REG.TXN_ID, staged := 0 }).settle) ∧
    (Nat.land m d / 8192 = 1 → x.isOpen = true → exec (.txnAbort c m d) s = .next (u.openAbort c 8).settle) ∧
    (Nat.land m d / 8192 = 2 → x.isOpen = true → bitsOf (winWord u c REG.TXN_CTRL) 12 10 = 0 → bcWanted u c = false →
      x.doomOvf = false → x.doomLock = false → badSyn u x.entries 0 (bitsOf (winWord u c REG.TXN_CTRL) 9 7) = none →
      exec (.txnCommit c m d) s =
        .next (State.applyEntries 5 (u.txnUp c TxnCtx.close) c x.id 7 x.entries 0 0).settle)) ∧
  ∀ (s : State) (w : Nat), clocked s = true → w < 4 → (slotOf s w).busy = true →
    (pointCome s (slotOf s w) = true → exec (.txnApply w) s = .next (s.slotApply w).settle) ∧
    (pointCome s (slotOf s w) = false → (slotOf s w).bc = false → 0 < (slotOf s w).timeout →
      (slotOf s w).came + (slotOf s w).timeout * 1000000 ≤ s.now → exec (.txnLate w) s = .next (s.slotEnd w 2).settle)

/-- Hildo requests (R401 to R404). -/
def Obligations.HildoRequests : Prop :=
  ∀ (s : State) (n : Nat) (bs : List Byte), answers s = true → n < 8 → ∀ (src p : List Byte), hildoPassed s n bs = some (src, p) →
    s.bit REG.HILDO_CFG_EN = true → bitsOf (s.fld REG.HILDO_CFG_PORTS) n n = 1 → (p.getD 1 0).toNat = 1 →
    let m := (p.getD 3 0).toNat
    let crc := natLE ((p.drop (8 + 8 * m)).take 4)
    let seq := natLE ((p.drop 4).take 4)
    1 ≤ m → m ≤ 64 → p.length = 12 + 8 * m ∨ (12 + 8 * m < 46 ∧ p.length = 46) →
    (crc32c (p.take (8 + 8 * m)) ≠ crc →
      ∃ t : State, exec (.hildoRequest n bs) s = .next t.settle ∧ t = { s with regs := t.regs, cyc := t.cyc, evq := t.evq } ∧
        t.evq = s.evq ++ [⟨13, .warn, true, false, 2, 2 * 8192, 0, []⟩] ∧
        t.reg REG.CRC_ERR_CNT = satNat 16 (s.reg REG.CRC_ERR_CNT + 1) ∧ t.bit REG.ACC_EVT_FRAME_CRC = true ∧
        ∀ a, a ≠ ETH.RX_HILDO_CNT n → a ≠ REG.CRC_ERR_CNT → a ≠ REG.ACC_EVT → t.reg a = s.reg a) ∧
    (crc32c (p.take (8 + 8 * m)) = crc → (p.getD 0 0).toNat = 1 → (p.getD 2 0).toNat = s.pads.id % 8 →
      askedWords m (p.drop 8) ≤ 256 →
      (s.acc.hSeq = some seq → crc = s.acc.hCrc →
        ∃ t : State, exec (.hildoRequest n bs) s = .next t.settle ∧ t = { s with regs := t.regs, cyc := t.cyc, eth := t.eth } ∧
          (t.ethAt n).reply = s.acc.hResp ∧ t.reg REG.HILDO_DUP_CNT = satNat 16 (s.reg REG.HILDO_DUP_CNT + 1) ∧
          ∀ a, a ≠ ETH.RX_HILDO_CNT n → a ≠ ETH.TX_HILDO_CNT n → a ≠ REG.HILDO_DUP_CNT → t.reg a = s.reg a) ∧
      (s.acc.hSeq = some seq → crc ≠ s.acc.hCrc →
        ∃ t : State, exec (.hildoRequest n bs) s = .next t.settle ∧ t = { s with regs := t.regs, cyc := t.cyc } ∧
          t.reg REG.FRAME_ERR_CNT = satNat 16 (s.reg REG.FRAME_ERR_CNT + 1) ∧
          ∀ a, a ≠ ETH.RX_HILDO_CNT n → a ≠ REG.FRAME_ERR_CNT → t.reg a = s.reg a) ∧
      (s.acc.hSeq ≠ some seq →
        let r := (s.bump (ETH.RX_HILDO_CNT n)).hildoOps m (p.drop 8)
        ∃ t : State, exec (.hildoRequest n bs) s = .next t.settle ∧ t = { r.2 with regs := t.regs, cyc := t.cyc, acc := t.acc, eth := t.eth } ∧
          t.acc.hSeq = some seq ∧ t.acc.hCrc = crc ∧ t.acc.hResp = (t.ethAt n).reply ∧ (t.ethAt n).reply.take 6 = src.take 6 ∧
          (∀ a, a ≠ ETH.TX_HILDO_CNT n → t.reg a = r.2.reg a)))

/-- Scrub visits (R407 to R409). -/
def Obligations.ScrubVisits : Prop :=
  ∀ (s : State) (a lo x y z : Nat), clocked s = true → a < 65536 → ∀ f, voteField a lo = some f →
    let m := 2 ^ (f.hi + 1 - f.lo)
    let written := s.softWrote ⟨a, f.hi, f.lo⟩
    x < m → y < m → z < m →
    (written = true ∨ (x = y ∧ y = z) → exec (.scrubVisit a lo (some (x, y, z)) none) s = .next s.settle) ∧
    (written = false → ¬ (x = y ∧ y = z) → ∀ v, majority x y z = some v →
      ∃ t : State, exec (.scrubVisit a lo (some (x, y, z)) none) s = .next t.settle ∧
        t = { s with regs := t.regs, cyc := t.cyc, syn := t.syn } ∧
        (∀ c, voteCnt a = some c → (c ≠ a → t.reg c = satNat 16 (s.reg c + 1)) ∧ t.syn = s.syn) ∧
        (v = bitsOf (readPlain s .seq a) f.hi f.lo → ∀ b, voteCnt a ≠ some b → t.reg b = s.reg b) ∧
        (v ≠ bitsOf (readPlain s .seq a) f.hi f.lo → (voteCnt a ≠ some a → t.fld ⟨a, f.hi, f.lo⟩ = v) ∧
          ∀ b, b ≠ a → voteCnt a ≠ some b → t.reg b = s.reg b)) ∧
    (written = false → majority x y z = none →
      ∃ t : State, exec (.scrubVisit a lo (some (x, y, z)) none) s = .next t.settle ∧ t.bit REG.ACC_EVT_VOTE_SPLIT = true ∧
        t.reg REG.SPLIT_ADDR = a ∧
        ∃ e, t.evq.getLast? = some e ∧ e.sev = .severe ∧ e.real = true ∧ e.src = (splitSrc s a).1)

/-- The epoch edge: the MTB, and what the collector then holds (R34, R113, R116, R117). -/
def Obligations.EpochEdgeRow : Prop :=
  ∀ s : State, clocked s = true →
    (∀ (es : List EdgeIn) (x : Sense), s.now + 25000 < 2 ^ 64 →
      ∃ t : State, exec (.epochEdge es x) s = .next t.settle ∧ t.now = (s.now / 25000 + 1) * 25000 ∧
        (∀ r, r ∈ t.coll.entries → r.etag = t.epoch % 16) ∧ t.coll.lastN = t.coll.entries.length ∧
        t.coll.peak = max s.coll.peak t.coll.lastN ∧ t.pending = s.pending) ∧
    ∃ t : State, exec .collectorRelease s = .next t.settle ∧
      (s.coll.stage ≤ 2 → t.coll.entries = [] ∧ t.coll.stage = 3) ∧
      (s.coll.stage = 2 → s.evq = [] → s.now + 25000 < 2 ^ 64 → t.coll = { s.coll with entries := [], stage := 3 } ∧
        t.regs = s.regs ∧ t.now = max s.now (s.now / 25000 * 25000 + 4000)) ∧
      (2 < s.coll.stage → t = s)

/-- LOS_DETECT, LOS_CLEAR and WTR_EXPIRE (R54, R56, R76, R77, R81, R83). -/
def Obligations.QualificationEnds : Prop :=
  ∀ (s : State) (k : Nat), clocked s = true → k < 24 →
    let m := s.monAt k
    (m.st = .absent ∨ m.los = true ∨ losDue s k = false → exec (.losDetect k) s = .next s.settle) ∧
    (m.st ≠ .absent → m.los = false → losDue s k = true →
      ∃ t : State, exec (.losDetect k) s = .next t.settle ∧
        t = { s with mon := t.mon, trk := t.trk, regs := t.regs, cyc := t.cyc, evq := t.evq, tod := t.tod } ∧
        (∀ j, j ≠ k → t.monAt j = s.monAt j ∧ t.trkAt j = s.trkAt j) ∧
        (t.monAt k).los = true ∧ (t.monAt k).measReady = false ∧ (t.monAt k).samples = [] ∧
        (t.trkAt k).reanchor = true ∧ (t.trkAt k).newEdge = false ∧
        t.reg (INM.LOS_CNT k) = satNat 16 (s.reg (INM.LOS_CNT k) + 1) ∧ t.bit (INM.CAUSE_C_LOS k) = true ∧
        (m.st = .valid ∨ m.st = .suspect →
          (t.monAt k).st = .failed ∧ (t.monAt k).firstCause = 1 ∧
          t.reg (INM.FAIL_CNT k) = satNat 16 (s.reg (INM.FAIL_CNT k) + 1) ∧
          t.evq = s.evq ++ [⟨32 + k, .warn, true, false, 1, 4 * 8192 + m.st.code * 1024, 0, []⟩]) ∧
        (m.st = .wait → (t.monAt k).st = .wait ∧ (t.monAt k).waited = 0 ∧ t.evq = s.evq ∧
          t.reg (INM.WTR_RST_CNT k) = satNat 16 (s.reg (INM.WTR_RST_CNT k) + 1)) ∧
        (m.st = .failed → (t.monAt k).st = .failed ∧ t.evq = s.evq) ∧
        ((∃ x, s.tod.next = some x ∧ k = x.1) →
          t.tod = { s.tod with valid := false, confirmed := 0, lastErr := 6, prevSec := none, next := none } ∧
          t.reg SYS.TOD_ERR_CNT = satNat 16 (s.reg SYS.TOD_ERR_CNT + 1)) ∧
        (¬ (∃ x, s.tod.next = some x ∧ k = x.1) → t.tod = s.tod ∧ t.reg SYS.TOD_ERR_CNT = s.reg SYS.TOD_ERR_CNT) ∧
        ∀ a, a ≠ INM.LOS_CNT k → a ≠ (INM.CAUSE_C_LOS k).addr → a ≠ INM.FAIL_CNT k → a ≠ INM.WTR_RST_CNT k →
          a ≠ SYS.TOD_ERR_CNT → t.reg a = s.reg a) ∧
    (m.st ≠ .absent → m.los = true → (16 ≤ k → (s.ethAt (k - 16)).link = true) → (s.trkAt k).reanchor = true → ∀ x,
      ∃ t : State, exec (.losClear k x) s = .next t.settle ∧
        t = { s with mon := t.mon, trk := t.trk, regs := t.regs, cyc := t.cyc, evq := t.evq } ∧
        (t.monAt k).los = false ∧ (t.monAt k).lastEdge = some x ∧ (t.monAt k).edged = true ∧
        (∀ j, j ≠ k → t.monAt j = s.monAt j ∧ t.trkAt j = s.trkAt j) ∧
        (isPulse s k = false → t = { s with mon := t.mon, trk := t.trk } ∧
          t.monAt k = { m with los := false, gustBase := none, lastEdge := some x, edged := true }) ∧
        (isPulse s k = true → (t.monAt k).gustBase = some (x, (t.trkAt k).phase)) ∧
        ((s.trkAt k).active = true →
          (t.trkAt k).anchored = true ∧ (t.trkAt k).newEdge = true ∧ (t.trkAt k).reanchored = true ∧ (t.trkAt k).stamp = x)) ∧
    (m.st = .absent ∨ m.los = false ∨ (16 ≤ k ∧ (s.ethAt (k - 16)).link = false) → ∀ x,
      exec (.losClear k x) s = .next s.settle) ∧
    (wtrDone s k = true →
      ∃ t : State, exec (.wtrExpire k) s = .next t.settle ∧ t = { s with mon := t.mon, evq := t.evq } ∧
        (∀ j, j ≠ k → t.monAt j = s.monAt j) ∧
        t.monAt k = { m with st := if m.warn then .suspect else .valid, firstCause := 0, ripe := false, bootDone := true } ∧
        t.evq = s.evq ++ [⟨32 + k, .info, true, false, 0, (if m.warn then 3 else 2) * 8192 + 1024, 0, []⟩]) ∧
    (wtrDone s k = false → exec (.wtrExpire k) s = .next s.settle)

/-- PULSE_ON_TIME_EDGE, WINDSOCK_SAMPLE and TDC_CALIBRATION_DONE (R56, R58, R65, R81, R105, R562).  The one ppt is the rounding that the
spec does not state (log entry 3). -/
def Obligations.MeasurementRows : Prop :=
  (∀ (s : State) (k stamp : Nat), clocked s = true → k < 24 → (s.monAt k).st ≠ .absent → isPulse s k = true →
    let taken := (s.trkAt k).anchored && !(s.trkAt k).reanchor && decide ((s.trkAt k).stamp = stamp)
    ∃ t : State, exec (.pulseOnTimeEdge k stamp) s = .next t.settle ∧
      t = { s with mon := t.mon, trk := t.trk, regs := t.regs, cyc := t.cyc, evq := t.evq, tod := t.tod, tk := t.tk } ∧
      (taken = true → t.mon = s.mon ∧ t.trk = s.trk) ∧ (∀ j, j ≠ k → t.monAt j = s.monAt j) ∧
      (∀ j, j ≠ k → t.trkAt j = s.trkAt j) ∧
      (taken = false → (t.monAt k).los = false ∧ (t.monAt k).lastEdge = some stamp ∧ (t.monAt k).edged = true ∧
        ((s.trkAt k).active = true → (t.trkAt k).anchored = true ∧ (t.trkAt k).newEdge = true ∧ (t.trkAt k).stamp = stamp))) ∧
  (∀ (s : State) (k : Nat), clocked s = true → k < 24 →
    let m := s.monAt k
    let n : Int := wsInt s k * 2 ^ 40
    (wsDue s k = false → exec (.windsockSample k) s = .next s.settle) ∧
    (wsDue s k = true → ∃ t : State, exec (.windsockSample k) s = .next t.settle ∧ t = { s with mon := t.mon } ∧
      (∀ j, j ≠ k → t.monAt j = s.monAt j) ∧
      t.monAt k = { m with ws := (t.monAt k).ws, wsStart := (t.monAt k).wsStart, wsBad := (t.monAt k).wsBad,
                           wsEnd := (t.monAt k).wsEnd, drift := (t.monAt k).drift, driftOk := (t.monAt k).driftOk } ∧
      (∃ e, (t.monAt k).wsEnd = some e ∧ s.epoch < e ∧ e ≤ s.epoch + wsInt s k * 40000) ∧
      (∀ p, m.wsStart = some p → m.wsBad = false →
        ∃ y : Int, (t.monAt k).ws = (satSigned 40 y :: m.ws).take 64 ∧
          (y * n - (((s.trkAt k).phase - p) * 2 ^ 40 + s.loa.termF * wsInt s k)).natAbs < n.natAbs) ∧
      (m.wsStart = none ∨ m.wsBad = true → (t.monAt k).ws = m.ws) ∧
      (t.monAt k).driftOk = decide (driftN s k ≤ (t.monAt k).ws.length))) ∧
  (∀ (s : State) (k fs : Nat), clocked s = true → k < 25 →
    (5000 < fs → ∃ t : State, exec (.tdcCalibrationDone k fs) s = .next t.settle ∧
      t = { s with trk := t.trk, regs := t.regs, cyc := t.cyc, evq := t.evq, coll := { s.coll with calTrk := k } } ∧
      t.trkAt k = { s.trkAt k with calOk := false, calSwap := false } ∧ (∀ j, j ≠ k → t.trkAt j = s.trkAt j) ∧
      t.bit TRK.EVT_STAT_TDC_CAL = true ∧ t.fld TRK.CNT_CAL_CNT = satNat 8 (s.fld TRK.CNT_CAL_CNT + 1) ∧
      t.evq = s.evq ++ [⟨31, .warn, true, false, 3, k * 256, 0, []⟩] ∧
      ∀ a, a ≠ TRK.EVT_STAT_TDC_CAL.addr → a ≠ TRK.CNT_CAL_CNT.addr → t.reg a = s.reg a) ∧
    (fs ≤ 5000 → ∃ t : State, exec (.tdcCalibrationDone k fs) s = .next t.settle ∧ t = { s with trk := t.trk } ∧
      t.trkAt k = { s.trkAt k with calSwap := true } ∧ ∀ j, j ≠ k → t.trkAt j = s.trkAt j))

/-- TOD_MESSAGE and TOD_LOSS (R93 to R97, R563); the confirmation restarts as log entry 11 says. -/
def Obligations.TimeOfDay : Prop :=
  (∀ (s : State) (m : TodMsg) (x : Nat), clocked s = true → s.bit SYS.TOD_CFG_EN = false ∨ todFormat m = none →
    exec (.todMessage m x) s = .next s.settle) ∧
  (∀ (s : State) (bs : TodMsg) (x : Nat), clocked s = true → s.bit SYS.TOD_CFG_EN = true → ∀ f, todFormat bs = some f →
    fmtTakes s f = true → pairOk s = true →
    ((f = 2 ∧ crc16 (bs.take 14) ≠ natLE (bs.drop 14)) ∨ (f ≠ 2 ∧ nmeaSumOk bs = false) →
      ∃ t : State, exec (.todMessage bs x) s = .next t.settle ∧ t = { s with regs := t.regs, cyc := t.cyc, tod := t.tod } ∧
        t.tod = { s.tod with valid := false, confirmed := 0, lastErr := 1, prevSec := none, next := none } ∧
        t.reg SYS.TOD_ERR_CNT = satNat 16 (s.reg SYS.TOD_ERR_CNT + 1) ∧
        ∀ a, a ≠ SYS.TOD_ERR_CNT → t.reg a = s.reg a) ∧
    (∀ (e sec : Nat),
      (f = 2 ∧ crc16 (bs.take 14) = natLE (bs.drop 14) ∧ bs.length = 16 ∧ (bs.getD 2 0).toNat = 1 ∧
          (bs.getD 3 0).toNat < 16 ∧ (bs.getD 3 0).toNat % 2 = 1 ∧ (bs.getD 13 0).toNat = 0 ∧
          sec = natLE ((bs.drop 4).take 6)) ∨
        (f ≠ 2 ∧ nmeaSumOk bs = true ∧ (f = 1 → rmcActive bs = true) ∧
          ∃ utc, nmeaUtc (f == 1) bs = some utc ∧ sec = ((utc : Int) + todUtc s).toNat) →
      (s.monAt (pairRef s)).lastEdge = some e → (s.monAt (pairRef s)).edged = true →
      e + 1000000000 ≤ x → x + 10000000000 ≤ e + 1000000000000 * nomDen s (pairRef s) / max 1 (nomNum s (pairRef s)) →
      s.bit SYS.TOD_CFG_LABEL = false → (∀ p, s.tod.prevSec = some p → sec = p + 1) →
      let n := min 15 (s.tod.confirmed + 1)
      ∃ t : State, exec (.todMessage bs x) s = .next t.settle ∧
        t = { s with regs := t.regs, cyc := t.cyc, tod := t.tod, tk := t.tk, evq := t.evq } ∧ t.tod.sec = sec ∧
        t.tod.label = some (e, sec) ∧
        t.tod.lastErr = 0 ∧ t.tod.confirmed = n ∧ t.tod.acceptAt = some s.now ∧
        t.tod.valid = (s.tod.valid || decide (max 1 (s.fld SYS.TOD_CFG_CONFIRM) ≤ n)))) ∧
  (∀ s : State, clocked s = true →
    (∀ a, s.tod.acceptAt = some a → a + max 1 (s.fld SYS.TOD_CFG2_LOSS_S) * 1000000000 ≤ s.now →
      ∃ t : State, exec .todLoss s = .next t.settle ∧
        t = { s with tod := { s.tod with valid := false, confirmed := 0, prevSec := none } }) ∧
    ((∀ a, s.tod.acceptAt = some a → s.now < a + max 1 (s.fld SYS.TOD_CFG2_LOSS_S) * 1000000000) →
      exec .todLoss s = .next s.settle))

/-- DOMAIN_SNAPSHOT: the clamp of R162 with the limit of R196, the mode FREERUN of R127, and the hold of R501. -/
def Obligations.DomainSnapshotRow : Prop :=
  ∀ s : State, clocked s = true →
    (2 ≤ s.coll.stage → exec .domainSnapshot s = .next s.settle) ∧
    (s.coll.stage ≤ 1 →
      let u := (s.toDecided).runTo 2000
      (s.coll.stage = 1 → u = s.passTime (2000 - s.now % 25000)) ∧
      ∃ t : State, exec .domainSnapshot s = .next t.settle ∧
        t = { u with dom := t.dom, syn := t.syn, regs := t.regs, cyc := t.cyc, evq := t.evq,
                     coll := { u.coll with stage := 2 } } ∧
        (domsHeld u = true → t = { u with coll := { u.coll with stage := 2 } }) ∧
        (domsHeld u = false →
          ∀ d, d < 6 → (t.domAt d).freqF ≤ freqLim u d * 2 ^ 40 ∧ -(freqLim u d * 2 ^ 40) ≤ (t.domAt d).freqF ∧
            (domMode u d = 3 → (t.domAt d).st = .freerun ∧ (t.domAt d).sel = none)))

/-- HOLDOVER_SECOND and HO_BUDGET_UPDATE (R178, R180, R181). -/
def Obligations.HoldoverRows : Prop :=
  ∀ s : State, clocked s = true →
    (∃ t : State, exec .holdoverSecond s = .next t.settle ∧ t = { s with dom := t.dom, loa := t.loa, regs := t.regs, cyc := t.cyc, evq := t.evq } ∧
      (let l := s.domAt s.loa.learnDom
       let hour := s.loa.learnDom < 6 ∧ l.secNo ≠ s.now / 1000000000 ∧ l.secN = 40000 ∧ l.secBad = false ∧
         learnOk s s.loa.learnDom = true ∧ 3599 ≤ s.loa.learnSecs
       (¬ hour → t = { s with dom := t.dom, loa := t.loa }) ∧
       (hour → t.loa.learnSecs = 0 ∧ t.reg (LOA.BANK_LEARN_HOURS 0) = satNat 16 (s.reg (LOA.BANK_LEARN_HOURS 0) + 1) ∧
         t.bit LOA.LOA_EVT_MODEL_UPD = true ∧ t.reg LOA.MODEL_UPD_CNT = satNat 16 (s.reg LOA.MODEL_UPD_CNT + 1) ∧
         t.evq = s.evq ++ [⟨18, .info, true, false, 0, s.loa.oven.code * 16384 + s.loa.expired, 0, []⟩])) ∧
      (∀ a, a ≠ LOA.BANK_LEARN_HOURS 0 → a ≠ LOA.LOA_EVT_MODEL_UPD.addr → a ≠ LOA.MODEL_UPD_CNT → t.reg a = s.reg a) ∧
      t.loa = { s.loa with resids := t.loa.resids, learnSecs := t.loa.learnSecs, learnDom := t.loa.learnDom } ∧
      ∀ d, d < 6 →
        let x := s.domAt d
        (t.domAt d).secNo = s.now / 1000000000 ∧ (t.domAt d).freqF = x.freqF ∧
        (x.secNo = s.now / 1000000000 → t.domAt d = x) ∧
        (x.secNo ≠ s.now / 1000000000 → (t.domAt d).ho =
          if x.secN = 40000 ∧ x.secBad = false then ((x.secNo, x.secSum.fdiv 40000) :: x.ho).take 3600 else x.ho)) ∧
    ∀ d, d < 6 →
      let x := s.domAt d
      (¬ (x.st = .holdover ∧ x.hoStart + (x.hoTime + 1) * 1000000000 ≤ s.now) →
        exec (.hoBudgetUpdate d) s = .next s.settle) ∧
      (x.st = .holdover → x.hoStart + (x.hoTime + 1) * 1000000000 ≤ s.now →
        ∃ t : State, exec (.hoBudgetUpdate d) s = .next t.settle ∧
          t = { s with dom := t.dom, loa := { s.loa with expired := t.loa.expired }, regs := t.regs, cyc := t.cyc, evq := t.evq } ∧
          (∀ e, e ≠ d → t.domAt e = s.domAt e) ∧
          let y := t.domAt d
          let te := (x.teEntry + y.sigf * y.hoTime + 5000 * y.nCold + 100 * y.nNog) * 172800 +
            s.eff1 (LOA.BANK_SIG_T 0) * x.dtcMax * y.hoTime * 1728 + s.eff1 (LOA.BANK_SIG_A 0) * y.hoTime * y.hoTime
          let lim := s.effWide (DOM.HO_LIMIT d) 2
          y.st = .holdover ∧ y.hoTime = x.hoTime + 1 ∧ te ≤ y.hoTe * 172800000 ∧ y.hoTe * 172800000 < te + 172800000 ∧
          (y.hoExp = true ↔ lim ≠ 0 ∧ lim < y.hoTe) ∧
          (¬ (y.hoExp = true ∧ x.hoExp = false) → t.evq = s.evq ∧ t.regs = s.regs ∧ t.loa = s.loa) ∧
          (y.hoExp = true → x.hoExp = false →
            t.bit (DOM.HO_STAT_EXPIRED d) = true ∧ t.bit LOA.LOA_EVT_HO_EXP = true ∧
            (∀ a, a ≠ (DOM.HO_STAT_EXPIRED d).addr → a ≠ LOA.LOA_EVT_HO_EXP.addr → t.reg a = s.reg a) ∧
            t.evq = s.evq ++ [⟨58 + 3 * d, .warn, true, false, 3, 4 * 8192 + 4 * 1024, 0, []⟩,
              ⟨19, .warn, true, false, 0, s.loa.oven.code * 16384 + t.loa.expired, 0, []⟩]))

/-- OVEN_STATE_CHANGE, ACCELEROMETER_FAULT, ACC_RECOVERY and MODEL_LEARN_UPDATE (R169, R174 to R176). -/
def Obligations.OscillatorRows : Prop :=
  ∀ s : State, clocked s = true →
    (∀ x : Sense, ∃ t : State, exec (.ovenStateChange x) s = .next t.settle ∧
      t = { s with loa := t.loa, thm := t.thm, regs := t.regs, cyc := t.cyc, evq := t.evq } ∧
      (ovenOn s = false ∨ t.loa.tRes < 9200 → t.loa.oven = .cold) ∧
      (t.loa.oven = .settled → ovenOn s = true ∧ 11195 ≤ t.loa.tRes ∧ t.loa.tRes ≤ 11205 ∧
        ∃ a, t.loa.okSince = some a ∧ a + 10000000000 ≤ s.now) ∧
      (∀ r, x.temps = some r → t.loa.tRes = r.res ∧ t.loa.tCase = r.case) ∧ (x.temps = none → t.thm = s.thm) ∧
      (t.loa.oven = s.loa.oven → t.evq = s.evq ∧ t.regs = s.regs) ∧
      (t.loa.oven ≠ s.loa.oven →
        t.evq = s.evq ++ [⟨16, if s.loa.oven = .settled then .warn else .info, true, false, 0,
          t.loa.oven.code * 16384 + s.loa.expired, 0, []⟩] ∧
        (s.loa.oven = .settled → t.bit LOA.LOA_EVT_OVEN_LEFT = true) ∧
        ∀ a, a ≠ LOA.LOA_EVT_OVEN_LEFT.addr ∨ s.loa.oven ≠ .settled → t.reg a = s.reg a)) ∧
    (s.loa.accFaulted = true → exec .accelerometerFault s = .next s.settle) ∧
    (s.loa.accFaulted = false → ∃ t : State, exec .accelerometerFault s = .next t.settle ∧
      t = { s with loa := { s.loa with accOk := false, accFaulted := true }, regs := t.regs, cyc := t.cyc, evq := t.evq } ∧
      t.bit LOA.LOA_EVT_ACC_FAULT = true ∧ t.reg LOA.ACC_FAULT_CNT = satNat 16 (s.reg LOA.ACC_FAULT_CNT + 1) ∧
      (∀ a, a ≠ LOA.LOA_EVT_ACC_FAULT.addr → a ≠ LOA.ACC_FAULT_CNT → t.reg a = s.reg a) ∧
      t.evq = s.evq ++ [⟨17, .warn, true, false, 0, s.loa.oven.code * 16384 + s.loa.expired, 0, []⟩]) ∧
    (∃ t : State, exec .accRecovery s = .next t.settle ∧ t = { s with loa := { s.loa with accOk := true, accFaulted := false } }) ∧
    ∀ ps : List (Nat × Int), s.seq.restarting = false →
      (learnOk s s.loa.learnDom = false →
        exec (.modelLearnUpdate ps) s = .next s.settle) ∧
      (learnOk s s.loa.learnDom = true → s.bit LOA.COMP_CTRL_LEARN_EN = true ∧
        ∃ t : State, exec (.modelLearnUpdate ps) s = .next t.settle ∧ t = { s with regs := t.regs, cyc := t.cyc, evq := t.evq } ∧
          t.evq = s.evq ++ [⟨18, .info, true, false, 0, s.loa.oven.code * 16384 + s.loa.expired, 0, []⟩] ∧
          t.reg (LOA.BANK_SEQ 0) = (s.reg (LOA.BANK_SEQ 0) + 1) % 65536 ∧ t.bit LOA.LOA_EVT_MODEL_UPD = true ∧
          t.reg LOA.MODEL_UPD_CNT = satNat 16 (s.reg LOA.MODEL_UPD_CNT + 1) ∧
          (∀ a, (a < 0x0720 ∨ 0x0740 ≤ a) → a ≠ LOA.LOA_EVT_MODEL_UPD.addr → a ≠ LOA.MODEL_UPD_CNT → t.reg a = s.reg a) ∧
          (s.bit LOA.COMP_CTRL_G_LEARN_EN = false → ∀ a, LOA.BANK_GX 0 ≤ a → a < LOA.BANK_GX 0 + 6 → t.reg a = s.reg a))

/-- LOCK_DECLARED, LOSS_OF_LOCK, RELOCK_OVERRUN and LOCK_TIMEOUT (R198 to R201, R213 to R218, R558). -/
def Obligations.SynthLock : Prop :=
  ∀ (s : State) (k : Nat), clocked s = true → k < 7 →
    let y := s.synAt k
    (∀ (cs : List Nat) (x : Comparator),
      let u := s.synDetect k cs x.low x.held
      let z := u.synAt k
      u = { s with syn := u.syn } ∧ (∀ j, j ≠ k → u.synAt j = s.synAt j) ∧
      z = { y with goodRun := z.goodRun, winAt := z.winAt, cInd := z.cInd, aInd := z.aInd } ∧
      (y.st ≠ .off → cs.length * (ldWin s k * 1000) ≤ s.now - y.winAt → cs ≠ [] →
        z.winAt = y.winAt + cs.length * (ldWin s k * 1000) ∧
        ((∀ c, c ∈ cs → winGood s k c = true) → ldK s k ≤ cs.length → z.cInd = true) ∧
        (∀ c, c = cs.getLastD 0 → winGood s k c = false → z.cInd = false ∧ z.goodRun = 0)) ∧
      (y.st ≠ .off →
        z.aInd = if x.low then y.aInd || decide (kWin s k * 1000 ≤ x.held) else y.aInd && decide (x.held < 1000)) ∧
      (y.st = .locking → y.strobe = false → y.glideLost = false → y.recal = false → lockInd u k = true →
        ∃ t : State, exec (.lockDeclared k cs x) s = .next t.settle ∧
          t = { s with syn := t.syn, dom := t.dom, outs := t.outs, evq := t.evq } ∧
          t.synAt k = { z with st := .locked } ∧ (∀ j, j ≠ k → t.synAt j = s.synAt j) ∧
          (k < 6 → t.domAt k = { s.domAt k with frozen := false }) ∧ (∀ d, d ≠ k → t.domAt d = s.domAt d) ∧
          t.evq = s.evq ++ [⟨74 + 2 * k, .info, true, false, 0, 2 * 8192, 0, []⟩] ∧
          ∀ n, n < 40 →
            (outSyn s n = k → (s.outAt n).st = .gated → isPulseOut s n = true ∨ overLimit s n k (s.outAt n).div = false →
              (t.outAt n).st = .aligning ∧ (t.outAt n).resume = true) ∧
            (outSyn s n ≠ k ∨ ((s.outAt n).st ≠ .gated ∧ (s.outAt n).st ≠ .bypass) → t.outAt n = s.outAt n)) ∧
      ((y.st = .off ∨ y.st = .locked ∨ y.st = .glide) ∨ lockInd u k = false →
        exec (.lockDeclared k cs x) s = .next u.settle) ∧
      (synLocked s k = true → lossInd s k cs x.low x.held = true →
        ∃ t : State, exec (.lossOfLock k cs x) s = .next t.settle ∧
          t = { s with syn := t.syn, dom := t.dom, outs := t.outs, regs := t.regs, cyc := t.cyc, evq := t.evq } ∧
          (t.synAt k).st = .unlocked ∧ (t.synAt k).strobe = (y.strobe || y.update) ∧ (t.synAt k).update = false ∧
          (t.synAt k).glideLost = (y.st == .glide) ∧ (t.synAt k).nNew = y.nNew ∧ (∀ j, j ≠ k → t.synAt j = s.synAt j) ∧
          t.bit (SYN.EVT_LOCK_LOST k) = true ∧ t.reg (SYN.UNLOCK_CNT k) = satNat 16 (s.reg (SYN.UNLOCK_CNT k) + 1) ∧
          ⟨74 + 2 * k, .warn, true, false, 1, 5 * 8192, 0, []⟩ ∈ t.evq ∧ (k < 6 → (t.domAt k).frozen = true) ∧
          ∀ n, n < 40 → k < 6 → outSyn s n = k → (s.outAt n).st = .run →
            (t.outAt n).st = .gated ∧ (t.outAt n).gatedAt = s.now) ∧
      (synLocked s k = false ∨ lossInd s k cs x.low x.held = false →
        exec (.lossOfLock k cs x) s = .next u.settle)) ∧
    (y.st = .relock → y.since + relockBound s k ≤ s.now →
      ∃ t : State, exec (.relockOverrun k) s = .next t.settle ∧
        t = { s with syn := t.syn, dom := t.dom, outs := t.outs, regs := t.regs, cyc := t.cyc, evq := t.evq } ∧
        (t.synAt k).st = .unlocked ∧ t.bit (SYN.EVT_LOCK_LOST k) = true ∧ t.bit (SYN.EVT_BAND_FAULT k) = true ∧
        t.reg (SYN.UNLOCK_CNT k) = satNat 16 (s.reg (SYN.UNLOCK_CNT k) + 1) ∧
        t.reg (SYN.BANDCHG_CNT k) = satNat 16 (s.reg (SYN.BANDCHG_CNT k) + 1) ∧
        ⟨74 + 2 * k, .warn, true, false, 1, 5 * 8192, 0, []⟩ ∈ t.evq ∧
        ⟨75 + 2 * k, .warn, true, false, 4, 5 * 8192, 0, []⟩ ∈ t.evq) ∧
    (¬ (y.st = .relock ∧ y.since + relockBound s k ≤ s.now) → exec (.relockOverrun k) s = .next s.settle) ∧
    (y.st = .locking → y.since + lockTimeout s k ≤ s.now →
      ∃ t : State, exec (.lockTimeout k) s = .next t.settle ∧ t = { s with syn := t.syn, regs := t.regs, cyc := t.cyc, evq := t.evq } ∧
        (t.synAt k).st = .locking ∧ (t.synAt k).since = s.now ∧ t.bit (SYN.EVT_BAND_FAULT k) = true ∧
        t.evq = s.evq ++ [⟨75 + 2 * k, .warn, true, false, 4, 8192, 0, []⟩] ∧
        (∀ j, j ≠ k → t.synAt j = s.synAt j) ∧ ∀ a, a ≠ (SYN.EVT_BAND_FAULT k).addr → t.reg a = s.reg a) ∧
    (¬ (y.st = .locking ∧ y.since + lockTimeout s k ≤ s.now) → exec (.lockTimeout k) s = .next s.settle)

/-- APPLY_INSTANT, GLIDE_COMPLETE and BYPASS_TRANSFER (R205 to R212, R216, R250). -/
def Obligations.PlanRows : Prop :=
  (∀ (s : State) (k : Nat), clocked s = true → k < 7 →
    let y := s.synAt k
    let n := shadowN s k
    let p := shadowPfd s k
    let g := s.cyc.again.contains ((SYN.CTRL_UPDATE k).addr, (SYN.CTRL_UPDATE k).lo)
    (¬ (y.update = true ∧ synLocked s k = true) → exec (.applyInstant k) s = .next s.settle) ∧
    (y.update = true → synLocked s k = true →
      (bandSelect s k p n y.cur = none →
        ∃ t : State, exec (.applyInstant k) s = .next t.settle ∧ t = { s with syn := t.syn, cyc := t.cyc, evq := t.evq } ∧
          t.synAt k = { y with update := g, strobe := false, bandNone := true } ∧ (g = false → t.cyc = s.cyc) ∧
          (∀ j, j ≠ k → t.synAt j = s.synAt j) ∧
          t.evq = s.evq ++ [⟨75 + 2 * k, .warn, true, false, 3, y.st.code * 8192, 0, []⟩]) ∧
      ∀ b, bandSelect s k p n y.cur = some b →
        ∃ t : State, exec (.applyInstant k) s = .next t.settle ∧
          t = { s with syn := t.syn, outs := t.outs, regs := t.regs, cyc := t.cyc, evq := t.evq } ∧
          (∀ j, j ≠ k → t.synAt j = s.synAt j) ∧
          let z := t.synAt k
          z.nNew = n ∧ z.pfd = p ∧ z.cur = some b ∧ z.update = (g && z.st != .relock) ∧ z.strobe = (g && z.st == .relock) ∧ z.lbw = shadowLbw s k ∧
          (sameBand s k b = false ∨ p ≠ y.pfd ∨ (n ≠ y.nCur ∧ s.reg (SYN.GLIDE k) = 0) →
            z.st = .relock ∧ z.nBase = n ∧ z.since = s.now) ∧
          (sameBand s k b = true → p = y.pfd → n ≠ y.nCur → s.reg (SYN.GLIDE k) ≠ 0 → z.st = .glide ∧ z.nBase = y.nCur ∧ z.glAcc = 0) ∧
          (sameBand s k b = true → p = y.pfd → n = y.nCur → z.st = .locked ∧ z.nBase = n)) ∧
    (y.st = .glide → y.nCur = y.nNew →
      ∃ t : State, exec (.glideComplete k) s = .next t.settle ∧ t = { s with syn := t.syn } ∧ (∀ j, j ≠ k → t.synAt j = s.synAt j) ∧
        (t.synAt k).st = .locked ∧ (t.synAt k).nBase = y.nNew ∧ (t.synAt k).nNew = y.nNew) ∧
    (¬ (y.st = .glide ∧ y.nCur = y.nNew) → exec (.glideComplete k) s = .next s.settle)) ∧
  (∀ (s : State) (n : Nat), clocked s = true → n < 40 →
    let o := s.outAt n
    let go := o.st = .gated ∧ o.noByp = false ∧ (synLocked s (outSyn s n) = false ∨ overLimit s n (outSyn s n) o.div = true) ∧
      bypReady s n = true ∧ (o.wasByp = true ∨ o.gatedAt + min 10000 (s.fld (SYN.BYP_WAIT_BYP_WAIT (outSyn s n))) * 1000 ≤ s.now)
    (go → ∃ t : State, exec (.bypassTransfer n) s = .next t.settle ∧ t = { s with outs := t.outs, regs := t.regs, cyc := t.cyc, evq := t.evq } ∧
      t.outAt n = { o with st := .bypass, bypDiv := bypShadow s n } ∧ (∀ j, j ≠ n → t.outAt j = s.outAt j) ∧ t.bit (OUT.EVT_BYP n) = true ∧
      (∀ a, a ≠ (OUT.EVT_BYP n).addr → t.reg a = s.reg a) ∧
      t.evq = s.evq ++ [⟨89, .warn, true, false, 2, n * 256 + 4 * 32, 0, [n]⟩]) ∧
    (¬ go → exec (.bypassTransfer n) s = .next s.settle))

/-- START_EDGE, DRIVER_FAULT and DRIVER_PROBE_END (R235, R238, R245, R248, R264). -/
def Obligations.OutputRows : Prop :=
  ∀ (s : State) (n : Nat), clocked s = true → n < 40 →
    let o := s.outAt n
    let tooFast := o.st = .aligning ∧ synLocked s (outSyn s n) = true ∧ isPulseOut s n = false ∧
      overLimit s n (outSyn s n) o.div = true
    let go := mayStartEdge s n = true ∧ s.now % 25000 + startNs s n < 25000
    (tooFast → ∃ t : State, exec (.startEdge n) s = .next t.settle ∧ t = { s with outs := t.outs, regs := t.regs, cyc := t.cyc, evq := t.evq } ∧
      (∀ j, j ≠ n → t.outAt j = s.outAt j) ∧ (t.outAt n).st = .gated ∧ (t.outAt n).gatedAt = s.now ∧
      t.bit (OUT.EVT_GATE n) = true ∧ t.reg (OUT.GATE_CNT n) = satNat 16 (s.reg (OUT.GATE_CNT n) + 1)) ∧
    (¬ tooFast → ¬ go → exec (.startEdge n) s = .next s.settle) ∧
    (¬ tooFast → go →
      let p := s.runEpoch (s.now % 25000 + startNs s n - 1)
      let u := p.runEpoch (p.now % 25000 + startNs p n)
      let e := u.outAt n
      (¬ (mayStartEdge p n = true ∧ mayStartEdge u n = true) → exec (.startEdge n) s = .next u.settle) ∧
      (mayStartEdge p n = true → mayStartEdge u n = true →
        ∃ t : State, exec (.startEdge n) s = .next t.settle ∧ t = { u with outs := t.outs, regs := t.regs, cyc := t.cyc, evq := t.evq } ∧
          (∀ j, j ≠ n → t.outAt j = u.outAt j) ∧ (t.outAt n).st = .run ∧ (t.outAt n).resume = false ∧
          (t.outAt n).counting = true ∧
          (isPulseOut u n = false → e.counting = false → (t.outAt n).lowAt = lowOf e.div ∧
            (t.outAt n).left = periodOf e.div - (startNs p n * (p.synAt (outSyn p n)).rate - toStart p n)) ∧
          (e.fresh = true → (t.outAt n).due = 0 ∧ (t.outAt n).emit = 0 ∧ (t.outAt n).gated = 0 ∧ (t.outAt n).stepped = 0) ∧
          (e.fresh = false → (t.outAt n).due = e.due ∧ (t.outAt n).emit = e.emit ∧ (t.outAt n).gated = e.gated) ∧
          (e.resume = false → t.regs = u.regs ∧ t.evq = u.evq) ∧
          (e.resume = true → t.bit (OUT.EVT_ALIGNED n) = true ∧ (∀ a, a ≠ (OUT.EVT_ALIGNED n).addr → t.reg a = u.reg a) ∧
            t.evq = u.evq ++ [⟨91, .info, true, false, 4, n * 256 + 2 * 32, 0, [n]⟩]))) ∧
    (o.st ≠ .off → o.drvFault = false →
      ∃ t : State, exec (.driverFault n) s = .next t.settle ∧ t = { s with outs := t.outs, regs := t.regs, cyc := t.cyc, evq := t.evq } ∧
        (∀ j, j ≠ n → t.outAt j = s.outAt j) ∧ (t.outAt n).st = .safe ∧ (t.outAt n).drvFault = true ∧
        (t.outAt n).onTree = false ∧ (t.outAt n).bypLeft = 0 ∧ (t.outAt n).pulse = 0 ∧
        t.bit (OUT.EVT_DRV_FAULT n) = true ∧ t.reg OUTC.DRV_FAULT_CNT = satNat 16 (s.reg OUTC.DRV_FAULT_CNT + 1) ∧
        t.reg (OUT.GATE_CNT n) = (if o.st = .safe then s.reg (OUT.GATE_CNT n) else satNat 16 (s.reg (OUT.GATE_CNT n) + 1)) ∧
        (∀ a, a ≠ (OUT.EVT_DRV_FAULT n).addr → a ≠ OUTC.DRV_FAULT_CNT → a ≠ OUT.GATE_CNT n → t.reg a = s.reg a) ∧
        t.evq = s.evq ++ [⟨90, .warn, true, false, 3, n * 256 + 5 * 32, 0, [n]⟩]) ∧
    (o.st = .off ∨ o.drvFault = true → exec (.driverFault n) s = .next s.settle) ∧
    ∀ p : Bool,
      (o.probing = true → ∃ t : State, exec (.driverProbeEnd n p) s = .next t.settle ∧ t = { s with outs := t.outs, regs := t.regs, cyc := t.cyc } ∧
        (∀ j, j ≠ n → t.outAt j = s.outAt j) ∧
        t.outAt n = { o with probing := false, drvFault := p && o.drvFault } ∧
        (p = true → t.bit (OUT.EVT_CLEAR_REFUSED n) = true) ∧ (p = false → t.bit (OUT.EVT_DRV_FAULT n) = false) ∧
        ∀ a, a ≠ (OUT.EVT_DRV_FAULT n).addr → t.reg a = s.reg a) ∧
      (o.probing = false → exec (.driverProbeEnd n p) s = .next s.settle)

/-- PG_FRAME_EDGE: the balance of R41 and the indices of R258. -/
def Obligations.FrameEdges : Prop :=
  ∀ (s : State) (p : Nat), clocked s = true → p < 8 →
    let g := s.pgAt p
    let k := s.tkAt (pgTk s p)
    let e := g.edge g.nextK
    let go := g.st ≠ .idle ∧ k.st ≠ .stopped ∧ e ≤ k.time ∧ e ≠ g.after
    (go → ∃ t : State, exec (.pgFrameEdge p) s = .next t.settle ∧
      t = { s with pg := t.pg, outs := t.outs, cap := t.cap, acc := t.acc, regs := t.regs, cyc := t.cyc, evq := t.evq } ∧
      (∀ q, q ≠ p → t.pgAt q = s.pgAt q) ∧ (t.pgAt p).after = e ∧ (t.pgAt p).st = g.st ∧
      (∃ i, (t.pgAt p).last = some i ∧ ∀ l, g.last = some l → l < i) ∧
      ∀ n, n < 40 →
        let o := s.outAt n
        let u := t.outAt n
        let mine := isPulseOut s n = true ∧ s.fld (OUT.CTRL_PG_SEL n) = p ∧ o.counting = true ∧ o.st ≠ .test ∧
          o.st ≠ .parked ∧ o.st ≠ .off
        (mine → u.due = o.due + 1) ∧
          (mine → o.st = .run → pgBound s n = true → (∀ x, g.trail = some x → x + 8 * 2 ^ 80 ≤ e) →
            u.emit = o.emit + 1 ∧ u.pulse = (pgWidth s p g).1) ∧ (mine → o.st = .gated ∨ pgBound s n = false → u.emit = o.emit) ∧ (¬ mine → u = o) ∧ u.st = o.st ∧
          (u.due : Int) - u.emit - u.gated = o.due - o.emit - o.gated) ∧
    (¬ go → exec (.pgFrameEdge p) s = .next s.settle) ∧
    (0 < g.num → 0 < g.den → g.after < e)

/-- TK_INPUT_LOSS, TK_CLIP_ALARM and LEAP_SECOND (R279, R280, R284). -/
def Obligations.TimeKeeperEvents : Prop :=
  ∀ (s : State) (t : Nat), clocked s = true → t < 4 →
    let k := s.tkAt t
    (s.seq.restarting = false →
      ((k.st = .acquire ∨ k.st = .track) → k.heard + tkLoss s t ≤ s.now →
        ∃ u : State, exec (.tkInputLoss t) s = .next u.settle ∧ u = { s with tk := u.tk, regs := u.regs, cyc := u.cyc, evq := u.evq } ∧
          (∀ j, j ≠ t → u.tkAt j = s.tkAt j) ∧ (u.tkAt t).st = .holdover ∧ (u.tkAt t).adjF = k.integF ∧ (u.tkAt t).clipped = false ∧ (u.tkAt t).clipDone = false ∧
          (u.tkAt t).time = k.time ∧ u.bit (TK.TK_EVT_LOST t) = true ∧
          u.reg (TK.HO_CNT t) = satNat 16 (s.reg (TK.HO_CNT t) + 1) ∧
          (∀ a, a ≠ (TK.TK_EVT_LOST t).addr → a ≠ TK.HO_CNT t → u.reg a = s.reg a) ∧
          u.evq = s.evq ++ [⟨93 + 2 * t, .warn, true, false, 3, 4 * 8192 + k.st.code * 1024, 0, []⟩]) ∧
      (¬ ((k.st = .acquire ∨ k.st = .track) ∧ k.heard + tkLoss s t ≤ s.now) →
        exec (.tkInputLoss t) s = .next s.settle) ∧
      (∀ a, k.clipped = true → k.clipDone = false → k.clipSince = some a → s.fld (TK.SERVO_CFG_CLIP_S t) ≠ 0 →
        a + s.fld (TK.SERVO_CFG_CLIP_S t) * 1000000000 ≤ s.now →
        ∃ u : State, exec (.tkClipAlarm t) s = .next u.settle ∧ u = { s with tk := u.tk, regs := u.regs, cyc := u.cyc, evq := u.evq } ∧
          (∀ j, j ≠ t → u.tkAt j = s.tkAt j) ∧ u.tkAt t = { k with clipDone := true } ∧
          u.bit (TK.TK_EVT_CLIP t) = true ∧ (∀ a, a ≠ (TK.TK_EVT_CLIP t).addr → u.reg a = s.reg a) ∧
          u.evq = s.evq ++ [⟨93 + 2 * t, .warn, true, false, 5, k.st.code * 8192 + k.st.code * 1024, 0, []⟩]) ∧
      (k.clipped = false ∨ k.clipDone = true ∨ s.fld (TK.SERVO_CFG_CLIP_S t) = 0 ∨ k.clipSince = none →
        exec (.tkClipAlarm t) s = .next s.settle)) ∧
    let l61 := s.bit (TK.LEAP_LEAP61 t)
    let l59 := s.bit (TK.LEAP_LEAP59 t)
    let utc := toSigned 16 (s.reg (TK.UTC_OFS t))
    let sec := tkSec s t
    let quiet := s.softWrote (utcField t) = false ∧ s.softWrote (TK.LEAP_LEAP61 t) = false ∧ s.softWrote (TK.LEAP_LEAP59 t) = false
    (l61 = l59 → ∃ u : State, exec (.leapSecond t) s = .next u.settle ∧ u = { s with tk := u.tk } ∧
      (∀ j, j ≠ t → u.tkAt j = s.tkAt j) ∧ u.tkAt t = { k with leap60 := none }) ∧
    (l61 = true → l59 = false → k.leap60 = none → (sec - utc) % 86400 = 0 →
      ∃ u : State, exec (.leapSecond t) s = .next u.settle ∧ u = { s with tk := u.tk } ∧
        (∀ j, j ≠ t → u.tkAt j = s.tkAt j) ∧ u.tkAt t = { k with leap60 := some sec.toNat }) ∧
    (∀ x : Nat, l61 = true → l59 = false → k.leap60 = some x → (x : Int) < sec → quiet →
      ∃ u : State, exec (.leapSecond t) s = .next u.settle ∧ u = { s with tk := u.tk, regs := u.regs, cyc := u.cyc } ∧
        (∀ j, j ≠ t → u.tkAt j = s.tkAt j) ∧ u.tkAt t = { k with leap60 := none } ∧
        u.reg (TK.UTC_OFS t) = ofSigned 16 (utc + 1) ∧ u.bit (TK.LEAP_LEAP61 t) = false ∧
        ∀ a, a ≠ TK.UTC_OFS t → a ≠ (TK.LEAP_LEAP61 t).addr → u.reg a = s.reg a) ∧
    (l61 = false → l59 = true → (sec - utc) % 86400 = 86399 → quiet →
      ∃ u : State, exec (.leapSecond t) s = .next u.settle ∧ u = { s with regs := u.regs, cyc := u.cyc } ∧
        u.reg (TK.UTC_OFS t) = ofSigned 16 (utc - 1) ∧ u.bit (TK.LEAP_LEAP59 t) = false ∧
        ∀ a, a ≠ TK.UTC_OFS t → a ≠ (TK.LEAP_LEAP59 t).addr → u.reg a = s.reg a)

/-- LINK_UP, LINK_FAILURE, the TC10 rows and FRAME_DISCARD (R290, R292, R294).  The latencies at LINK_UP are free values (log
entry 4). -/
def Obligations.LinkRows : Prop :=
  ∀ (s : State) (n : Nat), clocked s = true → n < 8 →
    let x := s.ethAt n
    let rises := x.link = false ∧ x.tc10 ≠ 2 ∧ s.bit (ETH.ETH_CFG_EN n) = true ∧ s.fld (ETH.ETH_CFG_SPEED n) ≤ 4 ∧
      macOn s = true ∧ s.unitOut (33 + n) = false
    (∀ q, (rises → ∃ t : State, exec (.linkUp n q) s = .next t.settle ∧
        t = { s with eth := t.eth, mon := t.mon, regs := t.regs, cyc := t.cyc, evq := t.evq, free := s.free + 2 } ∧
        (∀ j, j ≠ n → t.ethAt j = s.ethAt j) ∧ (t.ethAt n).link = true ∧ (t.ethAt n).tc10 = 0 ∧
        (t.ethAt n).speedAct = s.fld (ETH.ETH_CFG_SPEED n) ∧ (t.ethAt n).roleAct = s.bit (ETH.ETH_CFG_PHY_ROLE n) ∧
        t.bit (ETH.ETH_EVT_LINK_UP n) = true ∧
        ⟨100 + n, .info, true, false, 1, x.pst.code * 4096, 0, []⟩ ∈ t.evq) ∧
      (¬ rises → exec (.linkUp n q) s = .next s.settle)) ∧
    (x.link = true → ∃ t : State, exec (.linkFailure n) s = .next t.settle ∧
      t = { s with eth := t.eth, mon := t.mon, trk := t.trk, ptp := t.ptp, cap := t.cap, regs := t.regs, cyc := t.cyc, evq := t.evq } ∧
      (t.ethAt n).link = false ∧ (t.ethAt n).sync = none ∧ (t.ethAt n).dreq = none ∧ (t.ethAt n).pdreq = none ∧
      t.bit (ETH.ETH_EVT_LINK_DOWN n) = true ∧
      t.reg (ETH.LINK_DOWN_CNT n) = satNat 16 (s.reg (ETH.LINK_DOWN_CNT n) + 1) ∧
      ⟨100 + n, .warn, true, false, 2, x.pst.code * 4096, 0, []⟩ ∈ t.evq) ∧
    (x.link = false → exec (.linkFailure n) s = .next s.settle) ∧
    (x.tc10 = 1 → ∃ t : State, exec (.tc10SleepAcceptRx n true) s = .next t.settle ∧ (t.ethAt n).tc10 = 2 ∧
      (t.ethAt n).link = false ∧ t.bit (ETH.ETH_EVT_SLEEP n) = true ∧
      t.reg (ETH.TC10_SLEEP_CNT n) = satNat 16 (s.reg (ETH.TC10_SLEEP_CNT n) + 1) ∧
      t = { s with eth := t.eth, mon := t.mon, trk := t.trk, ptp := t.ptp, cap := t.cap, regs := t.regs, cyc := t.cyc, evq := t.evq }) ∧
    (x.tc10 = 1 → ∃ t : State, exec (.tc10SleepAcceptRx n false) s = .next t.settle ∧ t = { s with eth := t.eth } ∧
      t.ethAt n = { x with tc10 := 0 } ∧ ∀ j, j ≠ n → t.ethAt j = s.ethAt j) ∧
    (∀ b, x.tc10 ≠ 1 → exec (.tc10SleepAcceptRx n b) s = .next s.settle) ∧
    (s.bit (ETH.ETH_CFG_TC10_EN n) = true → s.bit (ETH.ETH_CFG_SLEEP_ACCEPT n) = true → x.link = true →
      ∃ t : State, exec (.tc10SleepRx n) s = .next t.settle ∧ (t.ethAt n).tc10 = 2 ∧ (t.ethAt n).link = false ∧
        t.bit (ETH.ETH_EVT_SLEEP n) = true ∧
        t = { s with eth := t.eth, mon := t.mon, trk := t.trk, ptp := t.ptp, cap := t.cap, regs := t.regs, cyc := t.cyc, evq := t.evq }) ∧
    (¬ (s.bit (ETH.ETH_CFG_TC10_EN n) = true ∧ s.bit (ETH.ETH_CFG_SLEEP_ACCEPT n) = true ∧ x.link = true) →
      exec (.tc10SleepRx n) s = .next s.settle) ∧
    (s.bit (ETH.ETH_CFG_TC10_EN n) = true → tc10Wakes s n = false →
      ∃ t : State, exec (.tc10WakeRx n) s = .next t.settle ∧ t = { s with eth := t.eth, regs := t.regs, cyc := t.cyc, evq := t.evq } ∧
        (x.tc10 = 2 → (t.ethAt n).tc10 = 3) ∧ t.bit (ETH.ETH_EVT_WAKE_RX n) = true ∧
        t.reg (ETH.TC10_WAKE_CNT n) = satNat 16 (s.reg (ETH.TC10_WAKE_CNT n) + 1) ∧
        (∀ a, a ≠ (ETH.ETH_EVT_WAKE_RX n).addr → a ≠ ETH.TC10_WAKE_CNT n → t.reg a = s.reg a) ∧
        t.evq = s.evq ++ [⟨100 + n, .info, true, false, 9, x.pst.code * 4096, 0, []⟩]) ∧
    ∀ bs : List Byte,
      let on := x.link = true ∧ macOn s = true
      let cnt := fun (why : Discard) => match why with
        | .outside => ETH.RX_DROP_CNT n
        | .fcs => ETH.FCS_ERR_CNT n
        | .oversize => ETH.OVERSIZE_CNT n
        | .wrongDomain => ETH.WRONG_DOM_CNT n
      (∀ why, on → frameFate s n bs = some why → ∃ t : State, exec (.frameDiscard n bs) s = .next t.settle ∧
        t = { s with regs := t.regs, cyc := t.cyc } ∧ t.reg (cnt why) = satNat 16 (s.reg (cnt why) + 1) ∧
        ∀ a, a ≠ cnt why → t.reg a = s.reg a) ∧
      (¬ on ∨ frameFate s n bs = none → exec (.frameDiscard n bs) s = .next s.settle) ∧
      (fcsOk bs = false → frameFate s n bs = some .fcs) ∧
      (fcsOk bs = true → 1522 < bs.length → frameFate s n bs = some .oversize) ∧
      (fcsOk bs = true → bs.length ≤ 1522 → hildoMine s n bs = true → frameFate s n bs = none)

/-- The ten rows of received PTP messages (R294, R304 to R314, R319, R321).  What an accepted frame can be captured as is in
`cap` (R300). -/
def Obligations.PtpReceives : Prop :=
  ∀ (s : State) (n stamp out : Nat) (h : PtpHdr) (o : Int) (tb ri rp : Nat) (d : Dataset) (g : Bool) (ask : MgmtAsk)
    (tg : Option Nat) (iv : Option (Int × Int × Int)), clocked s = true → n < 8 →
    let x := s.ethAt n
    let i := portInst s n
    let rows : List (Instr × Nat) := [(.ptpSyncReceive n stamp h o, 0), (.ptpFollowUpReceive n h o tb, 8),
      (.ptpDelayReqReceive n stamp h, 1), (.ptpDelayRespReceive n h ri rp o, 9), (.ptpPdelayReqReceive n stamp out h, 2),
      (.ptpPdelayRespReceive n stamp h ri rp o, 3), (.ptpPdelayRespFupReceive n h ri rp o, 10),
      (.ptpAnnounceReceive n h d, 11), (.ptpSignalingReceive n h iv, 12), (.ptpManagementReceive n h g ask tg, 13)]
    let up := x.link = true ∧ macOn s = true ∧ s.bit (ETH.ETH_CFG_EN n) = true
    let dom := h.domain = s.fld (PTI.INST_PORTS_DOMAIN i)
    let whole := h.fcs = true ∧ h.len ≤ 1522
    let taken := fun (kind : Nat) => up ∧ whole ∧ ptpOn s n = true ∧ wrapOk s n kind h = true ∧ dom ∧ h.good = true ∧
      authOk s i h = true ∧ x.pst ≠ .disabled
    let tag := (h.srcId, h.srcPort)
    let mtb := rxMtb s n stamp
    let t0 := stampPs s (portTk s n) mtb
    (∀ r, r ∈ rows →
      let alone := fun (cnt : Nat) => ∃ t : State, exec r.1 s = .next t.settle ∧ t = { s with regs := t.regs, cyc := t.cyc } ∧
        t.reg cnt = satNat 16 (s.reg cnt + 1) ∧ ∀ a, a ≠ cnt → t.reg a = s.reg a
      (¬ up → exec r.1 s = .next s.settle) ∧
      (up → h.fcs = false → alone (ETH.FCS_ERR_CNT n)) ∧
      (up → h.fcs = true → 1522 < h.len → alone (ETH.OVERSIZE_CNT n)) ∧
      (up → whole → ptpOn s n = false ∨ wrapOk s n r.2 h = false → alone (ETH.RX_DROP_CNT n)) ∧
      (up → whole → ptpOn s n = true → wrapOk s n r.2 h = true →
        (¬ dom → alone (ETH.WRONG_DOM_CNT n)) ∧ (dom → h.good = false → alone PTP.MALFORMED_CNT)) ∧
      (taken r.2 → ∃ t : State, exec r.1 s = .next t.settle ∧
        t.reg (ETH.RX_PTP_CNT n) = satNat 16 (s.reg (ETH.RX_PTP_CNT n) + 1) ∧ ∀ j, j ≠ n → t.ethAt j = s.ethAt j)) ∧
    ((x.pst.follows = true → h.twoStep = true → taken 0 →
        ∃ t : State, exec (.ptpSyncReceive n stamp h o) s = .next t.settle ∧
          t = { s with eth := t.eth, regs := t.regs, cyc := t.cyc, cap := t.cap, evq := t.evq } ∧
          (t.ethAt n).sync = some ⟨h.seq, tag, stampOf s (portTk s n) mtb, mtb, h.corr, s.now⟩ ∧ (t.ethAt n).syncAt = s.now ∧
          (t.ethAt n).syncTo = false ∧ t.reg (ETH.SYNC_RX_CNT n) = satNat 16 (s.reg (ETH.SYNC_RX_CNT n) + 1)) ∧
      (∀ p, x.sync = some p → p.seq = h.seq → p.src = tag → s.now ≤ p.came + logNs x.rxSync → x.pdValid = true → taken 8 →
        ∃ t : State, exec (.ptpFollowUpReceive n h o tb) s = .next t.settle ∧
          t = { s with eth := t.eth, ptp := t.ptp, regs := t.regs, cyc := t.cyc, tk := t.tk, evq := t.evq } ∧
          (t.ethAt n).sync = none ∧ (t.ethAt n).qualN = x.qualN + 1 ∧ (t.ethAt n).estNew = true ∧
          (t.ethAt n).meas.length = min 16 (x.meas.length + 1)) ∧
      (x.sync = none → taken 8 → ∃ t : State, exec (.ptpFollowUpReceive n h o tb) s = .next t.settle ∧ t = { s with regs := t.regs, cyc := t.cyc } ∧
        t.reg (ETH.RX_LATE_CNT n) = satNat 16 (s.reg (ETH.RX_LATE_CNT n) + 1)) ∧
      (x.pst = .master → isE2e s i = true → keyMissing s i = false → taken 1 →
        ∃ t : State, exec (.ptpDelayReqReceive n stamp h) s = .next t.settle ∧
          t = { s with eth := t.eth, regs := t.regs, cyc := t.cyc, cap := t.cap, evq := t.evq } ∧
          (∃ m, (t.ethAt n).sent = [m] ∧ m.kind = 9 ∧ m.seq = h.seq ∧ m.time = nsOf t0 ∧ m.corr = h.corr - subNs t0) ∧
          t.reg (ETH.TX_PTP_CNT n) = satNat 16 (s.reg (ETH.TX_PTP_CNT n) + 1)) ∧
      (∀ q, x.pst.follows = true → isE2e s i = true → x.dreq = some q → q.seq = h.seq → ri = clockIdentity s → rp = n + 1 →
        s.now ≤ q.came + reqNs s n → taken 9 →
        ∃ t : State, exec (.ptpDelayRespReceive n h ri rp o) s = .next t.settle ∧
          t = { s with eth := t.eth, regs := t.regs, cyc := t.cyc, evq := t.evq } ∧ (t.ethAt n).dreq = none ∧ (t.ethAt n).pdMiss = 0 ∧
          (x.lastSync.isSome = true → q.sent.isSome = true → (t.ethAt n).pdValid = true)) ∧
      (isE2e s i = false → keyMissing s i = false → taken 2 →
        ∃ t : State, exec (.ptpPdelayReqReceive n stamp out h) s = .next t.settle ∧
          t = { s with eth := t.eth, regs := t.regs, cyc := t.cyc, cap := t.cap, evq := t.evq } ∧
          (t.ethAt n).sent.map (fun m => (m.kind, m.seq, m.twoStep)) =
            (if oneStep s i = true then [(3, h.seq, false)] else [(3, h.seq, true), (10, h.seq, false)]) ∧
          t.reg (ETH.TX_PTP_CNT n) = satNat 16 (s.reg (ETH.TX_PTP_CNT n) + if oneStep s i = true then 1 else 2)) ∧
      (∀ q, isE2e s i = false → x.pdreq = some q → q.seq = h.seq → s.now ≤ q.came + reqNs s n → ri = clockIdentity s →
        rp = n + 1 → h.twoStep = true → taken 3 →
        ∃ t : State, exec (.ptpPdelayRespReceive n stamp h ri rp o) s = .next t.settle ∧
          t = { s with eth := t.eth, regs := t.regs, cyc := t.cyc, cap := t.cap, evq := t.evq } ∧
          (t.ethAt n).pdresp = some ⟨h.seq, tag, o, stampOf s (portTk s n) mtb, h.corr⟩ ∧ (t.ethAt n).peerOk = true) ∧
      (∀ q p, isE2e s i = false → x.pdreq = some q → x.pdresp = some p → p.seq = h.seq → p.src = tag →
        ri = clockIdentity s → rp = n + 1 → s.now ≤ q.came + reqNs s n → taken 10 →
        ∃ t : State, exec (.ptpPdelayRespFupReceive n h ri rp o) s = .next t.settle ∧
          t = { s with eth := t.eth, regs := t.regs, cyc := t.cyc, evq := t.evq } ∧ (t.ethAt n).pdreq = none ∧
          (t.ethAt n).pdresp = none ∧ (t.ethAt n).pdMiss = 0 ∧
          (q.sent.isSome = true → p.t4.isSome = true → (t.ethAt n).pdValid = true)) ∧
      (h.srcId ≠ clockIdentity s → d.steps < 255 → x.foreign.length < 8 → taken 11 →
        ∃ t : State, exec (.ptpAnnounceReceive n h d) s = .next t.settle ∧
          t = { s with eth := t.eth, ptp := t.ptp, regs := t.regs, cyc := t.cyc, evq := t.evq } ∧ (t.ethAt n).annAt = s.now ∧
          (t.ethAt n).annTo = false ∧
          (∃ f, f ∈ (t.ethAt n).foreign ∧ f.ds = { d with senderId := h.srcId, senderPort := h.srcPort } ∧
            f.seen.head? = some s.now) ∧
          t.reg (ETH.ANN_RX_CNT n) = satNat 16 (s.reg (ETH.ANN_RX_CNT n) + 1)) ∧
      (∀ a b c : Int, isGptp s i = true → iv = some (a, b, c) → taken 12 →
        ∃ t : State, exec (.ptpSignalingReceive n h iv) s = .next t.settle ∧ t = { s with eth := t.eth, regs := t.regs, cyc := t.cyc } ∧
          (b = 126 → (t.ethAt n).txSync = none) ∧ (-7 ≤ b → b ≤ 1 → (t.ethAt n).txSync = some b) ∧
          (b = -128 → (t.ethAt n).txSync = x.txSync)) ∧
      (iv = none ∨ isGptp s i = false → taken 12 →
        ∃ t : State, exec (.ptpSignalingReceive n h iv) s = .next t.settle ∧ t = { s with regs := t.regs, cyc := t.cyc } ∧
          t.reg PTP.SIG_DROP_CNT = satNat 16 (s.reg PTP.SIG_DROP_CNT + 1)) ∧
      (ask ≠ .other → tg = none → isGptp s i = false → s.bit (PTI.INST_CTRL_MGMT_EN i) = true → (s.ptpAt i).mgmt = [] →
        keyMissing s i = false → taken 13 →
        ∃ t : State, exec (.ptpManagementReceive n h true ask tg) s = .next t.settle ∧
          t = { s with eth := t.eth, ptp := t.ptp, regs := t.regs, cyc := t.cyc } ∧
          (∃ m, (t.ethAt n).sent = [m] ∧ m.kind = 13 ∧ m.seq = h.seq) ∧
          t.reg PTP.MGMT_RESP_CNT = satNat 16 (s.reg PTP.MGMT_RESP_CNT + 1)) ∧
      (taken 13 → ∃ t : State, exec (.ptpManagementReceive n h false ask tg) s = .next t.settle ∧ t = { s with regs := t.regs, cyc := t.cyc } ∧
        t.reg PTP.MGMT_DROP_CNT = satNat 16 (s.reg PTP.MGMT_DROP_CNT + 1) ∧
        t.reg (ETH.MGMT_RX_CNT n) = satNat 16 (s.reg (ETH.MGMT_RX_CNT n) + 1)))

/-- SYNC_TX, ANNOUNCE_TX, DELAY_REQ_TX and PDELAY_REQ_TX (R303 to R306). -/
def Obligations.PtpSends : Prop :=
  ∀ (s : State) (n stamp : Nat), clocked s = true → n < 8 → macOn s = true → ptpOn s n = true →
    let x := s.ethAt n
    let i := x.inst
    let q := stampPs s (portTk s n) (txMtb s n stamp)
    (x.pst = .master →
      (dueSince x.syncTxAt (syncNs s n) s.now = true →
        ∃ t : State, exec (.syncTx n stamp) s = .next t.settle ∧
          t = { s with eth := t.eth, regs := t.regs, cyc := t.cyc, cap := t.cap, evq := t.evq } ∧ (t.ethAt n).syncTxAt = some s.now ∧
          (t.ethAt n).seqSync = (x.seqSync + 1) % 65536 ∧ (∀ j, j ≠ n → t.ethAt j = s.ethAt j) ∧
          (canSend s n = true →
            (t.ethAt n).sent.map (fun m => (m.kind, m.seq)) =
              (if oneStep s i = true then [(0, x.seqSync)] else [(0, x.seqSync), (8, x.seqSync)]) ∧
            ((t.ethAt n).sent.getLast?.map (·.time)) = some (nsOf q) ∧ ((t.ethAt n).sent.getLast?.map (·.corr)) = some (subNs q) ∧
            (t.ethAt n).heads = (t.ethAt n).sent.map (fun m => txHead s n m.kind) ∧
            t.reg (ETH.TX_PTP_CNT n) = satNat 16 (s.reg (ETH.TX_PTP_CNT n) + if oneStep s i = true then 1 else 2)) ∧
          (x.link = false →
            t.reg PTP.TX_SKIP_CNT = satNat 16 (s.reg PTP.TX_SKIP_CNT + if oneStep s i = true then 1 else 2))) ∧
      (dueSince x.syncTxAt (syncNs s n) s.now = false → exec (.syncTx n stamp) s = .next s.settle) ∧
      (dueSince x.annTxAt (annNs s n) s.now = true →
        ∃ t : State, exec (.announceTx n) s = .next t.settle ∧ t = { s with eth := t.eth, ptp := t.ptp, regs := t.regs, cyc := t.cyc } ∧
          (t.ethAt n).annTxAt = some s.now ∧ (t.ethAt n).seqAnn = (x.seqAnn + 1) % 65536 ∧
          (canSend s n = true → (∃ m ds, (t.ethAt n).sent = [m] ∧ m.kind = 11 ∧ m.seq = x.seqAnn ∧ m.ds = some ds) ∧
            t.reg (ETH.TX_PTP_CNT n) = satNat 16 (s.reg (ETH.TX_PTP_CNT n) + 1))) ∧
      (dueSince x.annTxAt (annNs s n) s.now = false → exec (.announceTx n) s = .next s.settle)) ∧
    (isE2e s i = true → x.pst.follows = true →
      (dueSince x.reqTxAt (reqNs s n) s.now = true → canSend s n = true → x.dreq = none →
        ∃ t : State, exec (.delayReqTx n stamp) s = .next t.settle ∧
          t = { s with eth := t.eth, regs := t.regs, cyc := t.cyc, cap := t.cap, evq := t.evq } ∧
          (t.ethAt n).dreq = some ⟨x.seqReq, stampOf s (portTk s n) (txMtb s n stamp), s.now⟩ ∧ (t.ethAt n).seqReq = (x.seqReq + 1) % 65536 ∧
          t.reg (ETH.TX_PTP_CNT n) = satNat 16 (s.reg (ETH.TX_PTP_CNT n) + 1)) ∧
      (dueSince x.reqTxAt (reqNs s n) s.now = false → exec (.delayReqTx n stamp) s = .next s.settle)) ∧
    (isE2e s i = false → x.pst ≠ .disabled →
      (dueSince x.reqTxAt (reqNs s n) s.now = true → canSend s n = true → x.pdreq = none →
        ∃ t : State, exec (.pdelayReqTx n stamp) s = .next t.settle ∧
          t = { s with eth := t.eth, regs := t.regs, cyc := t.cyc, cap := t.cap, evq := t.evq } ∧
          (t.ethAt n).pdreq = some ⟨x.seqReq, stampOf s (portTk s n) (txMtb s n stamp), s.now⟩ ∧ (t.ethAt n).pdresp = none ∧
          (t.ethAt n).seqReq = (x.seqReq + 1) % 65536 ∧
          t.reg (ETH.TX_PTP_CNT n) = satNat 16 (s.reg (ETH.TX_PTP_CNT n) + 1)) ∧
      (dueSince x.reqTxAt (reqNs s n) s.now = false → exec (.pdelayReqTx n stamp) s = .next s.settle))

/-- The receipt timeouts, missing answers and BMCA_RUN (R307, R308, R311, R314). -/
def Obligations.PtpTimeouts : Prop :=
  (∀ (s : State) (n : Nat), clocked s = true → n < 8 →
    let x := s.ethAt n
    let syncDue := ptpOn s n = true ∧ x.pst.follows = true ∧ x.syncTo = false ∧
      x.syncAt + syncTimeouts s x.inst * logNs x.rxSync ≤ s.now
    (syncDue → ∃ t : State, exec (.syncReceiptTimeout n) s = .next t.settle ∧ t = { s with eth := t.eth, regs := t.regs, cyc := t.cyc, evq := t.evq } ∧
      (∀ j, j ≠ n → t.ethAt j = s.ethAt j) ∧ (t.ethAt n).syncTo = true ∧ (t.ethAt n).qualN = 0 ∧
      t.bit (ETH.PORT_EVT_SYNC_TO n) = true ∧ t.reg (ETH.SYNC_TO_CNT n) = satNat 16 (s.reg (ETH.SYNC_TO_CNT n) + 1) ∧
      ⟨100 + n, .warn, true, false, 4, x.pst.code * 4096, 0, []⟩ ∈ t.evq) ∧
    (¬ syncDue → exec (.syncReceiptTimeout n) s = .next s.settle) ∧
    (ptpOn s n = true → bmcaOn s x.inst = true → x.link = true → x.annTo = false →
      (x.pst.follows = true ∨ x.pst = .listening ∨ x.pst = .passive) →
      x.annAt + annTimeouts s x.inst * logNs x.rxAnn ≤ s.now →
      ∃ t : State, exec (.announceReceiptTimeout n) s = .next t.settle ∧ t = { s with eth := t.eth, regs := t.regs, cyc := t.cyc, evq := t.evq } ∧
        (∀ j, j ≠ n → t.ethAt j = s.ethAt j) ∧ (t.ethAt n).annTo = true ∧ (t.ethAt n).foreign = [] ∧
        t.bit (ETH.PORT_EVT_ANN_TO n) = true ∧ t.reg (ETH.ANN_TO_CNT n) = satNat 16 (s.reg (ETH.ANN_TO_CNT n) + 1) ∧
        ⟨100 + n, .warn, true, false, 5, x.pst.code * 4096, 0, []⟩ ∈ t.evq) ∧
    (s.now < x.annAt + annTimeouts s x.inst * logNs x.rxAnn → exec (.announceReceiptTimeout n) s = .next s.settle) ∧
    (∀ p, x.sync = some p → p.came + logNs x.rxSync ≤ s.now →
      ∃ t : State, exec (.followUpMissing n) s = .next t.settle ∧ t = { s with eth := t.eth, regs := t.regs, cyc := t.cyc, evq := t.evq } ∧
        (∀ j, j ≠ n → t.ethAt j = s.ethAt j) ∧ (t.ethAt n).sync = none ∧ (t.ethAt n).qualN = 0 ∧
        t.reg (ETH.FUP_MISS_CNT n) = satNat 16 (s.reg (ETH.FUP_MISS_CNT n) + 1)) ∧
    (x.sync = none → exec (.followUpMissing n) s = .next s.settle) ∧
    (∀ q, x.dreq.or x.pdreq = some q → q.came + reqNs s n ≤ s.now →
      ∃ t : State, exec (.delayRespMissing n) s = .next t.settle ∧ t = { s with eth := t.eth, regs := t.regs, cyc := t.cyc, evq := t.evq } ∧
        (t.ethAt n).dreq = none ∧ (t.ethAt n).pdreq = none ∧ (t.ethAt n).pdMiss = x.pdMiss + 1 ∧
        t.reg (ETH.DRESP_MISS_CNT n) = satNat 16 (s.reg (ETH.DRESP_MISS_CNT n) + 1) ∧
        (2 ≤ x.pdMiss → x.pdValid = true → (t.ethAt n).pdValid = false ∧ t.bit (ETH.PORT_EVT_PD_FAIL n) = true ∧
          t.reg (ETH.PD_FAIL_CNT n) = satNat 16 (s.reg (ETH.PD_FAIL_CNT n) + 1) ∧
          ⟨100 + n, .warn, true, false, 6, x.pst.code * 4096, 0, []⟩ ∈ t.evq)) ∧
    (∀ q, x.dreq.or x.pdreq = some q → s.now < q.came + reqNs s n → exec (.delayRespMissing n) s = .next s.settle) ∧
    (x.dreq = none → x.pdreq = none → exec (.delayRespMissing n) s = .next s.settle)) ∧
  (∀ (s : State) (i us : Nat), clocked s = true → i < 4 → s.seq.restarting = false →
    ((s.ptpAt i).en = true → bmcaOn s i = true → macOn s = true →
      ∃ t : State, exec (.bmcaRun i us) s = .next t.settle ∧
        t = { s with eth := t.eth, ptp := t.ptp, ptpc := { s.ptpc with lat := t.ptpc.lat, latMax := t.ptpc.latMax },
                     regs := t.regs, cyc := t.cyc, evq := t.evq } ∧
        t.reg PTP.BMCA_RUN_CNT = satNat 16 (s.reg PTP.BMCA_RUN_CNT + 1) ∧ t.ptpc.lat = satNat 16 us ∧
        t.ptpc.latMax = max s.ptpc.latMax (satNat 16 us) ∧ (∀ j, j ≠ i → t.ptpAt j = s.ptpAt j) ∧
        (∀ n, n < 8 → (s.ethAt n).inst ≠ i → t.ethAt n = s.ethAt n) ∧
        ∀ p, (t.ptpAt i).parent = some p → instBest s i = some p) ∧
    ((s.ptpAt i).en = false ∨ bmcaOn s i = false ∨ macOn s = false → exec (.bmcaRun i us) s = .next s.settle))

/-- EDGE_CAPTURE and RING_WRITE (R328 to R338). -/
def Obligations.CaptureRows : Prop :=
  (∀ (s : State) (i stamp : Nat) (rising : Bool), clocked s = true → i < 16 →
    let c := capSrc s i
    let go := srcEn s i = true ∧ capOn s = true ∧ noInput s i = false ∧ edgeSeen c.cfg rising = true
    let near := ∃ l, c.last = some l ∧ stamp < l + 40000
    let kept := c.kept % max 1 c.dec = 0
    (¬ go → exec (.edgeCapture i rising stamp) s = .next s.settle) ∧
    (go → ∃ t : State, exec (.edgeCapture i rising stamp) s = .next t.settle ∧
      t = { s with cap := t.cap, pg := t.pg, regs := t.regs, cyc := t.cyc, evq := t.evq } ∧
      (∀ j, j ≠ i → capSrc t j = capSrc s j) ∧
      let u := capSrc t i
      u.edges = c.edges + 1 ∧ u.kept = (c.kept + 1) % max 1 c.dec ∧
      (¬ kept → u = { c with edges := u.edges, kept := u.kept } ∧ t.cap.buf = s.cap.buf) ∧
      (kept → near → u = { c with edges := u.edges, kept := u.kept, skip := satNat 16 (c.skip + 1) } ∧
        t.cap.buf = s.cap.buf) ∧
      (kept → ¬ near → u.last = some stamp ∧ u.seq = (c.seq + 1) % 2 ^ 32 ∧ u.captured = c.captured + 1 ∧ u.skip = c.skip ∧
        t.cap.buf.length + u.overrun + u.dropDis = s.cap.buf.length + c.overrun + c.dropDis + 1))) ∧
  (∀ (s : State) (k : Nat) (bad : Bool), clocked s = true → k < 16 →
    let g := ringAt s k
    (s.cap.buf.find? (fun r => r.ring == k) = none → exec (.ringWrite k bad) s = .next s.settle) ∧
    ∀ r, s.cap.buf.find? (fun r => r.ring == k) = some r →
      (g.next = none → g.size ≠ 0 → g.size ≤ g.recs.length → exec (.ringWrite k bad) s = .next s.settle) ∧
      (g.next = none → g.recs.length < g.size →
        ∃ t : State, exec (.ringWrite k bad) s = .next t.settle ∧ t = { s with cap := t.cap, regs := t.regs, cyc := t.cyc, evq := t.evq } ∧
          t.cap.buf = s.cap.buf.erase r ∧ (∀ j, j ≠ k → ringAt t j = ringAt s j) ∧
          (∀ j, j ≠ r.src → capSrc t j = capSrc s j) ∧
          (bad = false → (ringAt t k).recs = g.recs ++ [r.words] ∧ (ringAt t k).written = (g.written + 1) % 2 ^ 32 ∧
            (r.src < 50 → (capSrc t r.src).delivered = (capSrc s r.src).delivered + if r.counted = true then 1 else 0)) ∧
          (bad = true → ringAt t k = g ∧ t.bit CAP.CAP_EVT_DROP_INT = true ∧
            (r.src < 50 → (capSrc t r.src).dropInt = (capSrc s r.src).dropInt + if r.counted = true then 1 else 0))))

/-- RING_READ, EXPORT_TAKE and EXPORT_FLUSH_TIMEOUT (R347, R349 to R351). -/
def Obligations.DrainRows : Prop :=
  (∀ (s : State) (c : Ctx) (k : Nat), reach s c = true → k < 16 →
    let b := rdBuf s c k
    let g := ringAt s k
    (∀ w rest, b.pos = 0 → g.recs = w :: rest →
      ∃ t : State, exec (.ringRead c k) s = .next t.settle ∧ t = { s with cap := t.cap, regs := t.regs, cyc := t.cyc, evq := t.evq } ∧
        rdBuf t c k = ⟨1, w⟩ ∧ (ringAt t k).recs = rest ∧ (ringAt t k).taken = (g.taken + 1) % 2 ^ 32 ∧
        (∀ j, j ≠ k → ringAt t j = ringAt s j) ∧ t.cap.src = s.cap.src ∧ t.cap.buf = s.cap.buf) ∧
    (b.pos = 0 → g.recs = [] →
      ∃ t : State, exec (.ringRead c k) s = .next t.settle ∧ t = { s with regs := t.regs, cyc := t.cyc } ∧
        t.bit (RING.REVT_EMPTY_READ k) = true ∧ ∀ a, a ≠ (RING.REVT_EMPTY_READ k).addr → t.reg a = s.reg a) ∧
    (b.pos ≠ 0 →
      ∃ t : State, exec (.ringRead c k) s = .next t.settle ∧ t = { s with cap := { s.cap with rd := t.cap.rd } } ∧
        rdBuf t c k = if b.pos = 15 then ⟨0, []⟩ else { b with pos := b.pos + 1 })) ∧
  (∀ (s : State) (x : Nat), clocked s = true → x < 2 → s.seq.restarting = false →
    let e := vat s.cap.exp x
    (expRuns s x = false ∨ expNext s x = none → exec (.exportTake x) s = .next s.settle) ∧
    (∀ k w rest, expRuns s x = true → expNext s x = some k → (ringAt s k).recs = w :: rest →
      ∃ t : State, exec (.exportTake x) s = .next t.settle ∧ t = { s with cap := t.cap, regs := t.regs, cyc := t.cyc, evq := t.evq } ∧
        (ringAt t k).recs = rest ∧ (∀ j, j ≠ k → ringAt t j = ringAt s j) ∧ (vat t.cap.exp x).last = k ∧
        (e.recs.length < 45 → (vat t.cap.exp x).recs = e.recs ++ [w] ∧ (vat t.cap.exp x).seq = e.seq) ∧
        (45 ≤ e.recs.length → (vat t.cap.exp x).recs = [] ∧ (vat t.cap.exp x).seq = (e.seq + 1) % 2 ^ 32 ∧
          t.reg (ETH.TX_HILDO_CNT (expPort s x)) = satNat 16 (s.reg (ETH.TX_HILDO_CNT (expPort s x)) + 1))) ∧
    let due := e.recs ≠ [] ∧ e.firstAt + min 1000 (max 1 (s.fld (CAP.EXP_CFG_FLUSH_US x))) * 1000 ≤ s.now ∧ expRuns s x = true
    (due → ∃ t : State, exec (.exportFlushTimeout x) s = .next t.settle ∧ t = { s with cap := { s.cap with exp := t.cap.exp }, regs := t.regs, cyc := t.cyc } ∧
      (vat t.cap.exp x).recs = [] ∧ (vat t.cap.exp x).seq = (e.seq + 1) % 2 ^ 32 ∧
      t.reg (ETH.TX_HILDO_CNT (expPort s x)) = satNat 16 (s.reg (ETH.TX_HILDO_CNT (expPort s x)) + 1) ∧
      ∀ a, a ≠ ETH.TX_HILDO_CNT (expPort s x) → t.reg a = s.reg a) ∧
    (¬ due → exec (.exportFlushTimeout x) s = .next s.settle))

/-- CAS_CHAIN_INSTANT, CAS_FORWARD_FRAME and CAS_RETURN_FRAME (R361 to R368). -/
def Obligations.CascadeFrames : Prop :=
  ∀ (s : State) (x : Nat) (bs : List Byte), clocked s = true →
    (dnOn s = false → exec (.casChainInstant x) s = .next s.settle ∧ exec (.casReturnFrame x bs) s = .next s.settle) ∧
    (upOn s = false → exec (.casForwardFrame x bs) s = .next s.settle) ∧
    (dnOn s = true →
      (∃ t : State, exec (.casChainInstant x) s = .next t.settle ∧
        t = { s with cas := t.cas, acc := t.acc, regs := t.regs, cyc := t.cyc, evq := t.evq } ∧ t.cas.frameNo = chainNo s x ∧
        t.cas.gone.head? = some (chainNo s x, x)) ∧
      (frameGood bs = false → ∃ t : State, exec (.casReturnFrame x bs) s = .next t.settle ∧
        t = { s with cas := t.cas, regs := t.regs, cyc := t.cyc } ∧
        t.cas = { s.cas with dnAt := s.now, dn := max 1 s.cas.dn, dnGood := 0, dnBad := s.cas.dnBad + 1 } ∧
        t.reg CAS.FRAME_ERR_CNT = satNat 16 (s.reg CAS.FRAME_ERR_CNT + 1) ∧
        ∀ a, a ≠ CAS.FRAME_ERR_CNT → t.reg a = s.reg a) ∧
      (frameGood bs = true → ∃ t : State, exec (.casReturnFrame x bs) s = .next t.settle ∧
        t = { s with cas := t.cas, regs := t.regs, cyc := t.cyc, evq := t.evq } ∧ t.cas.dnAt = s.now ∧
        t.cas.dnGood = s.cas.dnGood + 1 ∧ t.cas.dnBad = 0 ∧
        (s.cas.dn ≤ 1 → 15 ≤ s.cas.dnGood → t.cas.dn = 2 ∧ ⟨28, .info, true, false, 2, s.cas.pos % 8 * 8192, 0, []⟩ ∈ t.evq) ∧
        (s.cas.dn = 2 → natLE ((bs.drop 1).take 4) < frameMod → t.cas.below = (bs.getD 24 0).toNat))) ∧
    (upOn s = true →
      (frameGood bs = false → ∃ t : State, exec (.casForwardFrame x bs) s = .next t.settle ∧
        t = { s with cas := t.cas, trk := t.trk, regs := t.regs, cyc := t.cyc, evq := t.evq } ∧ t.cas.upAt = s.now ∧
        t.cas.upGood = 0 ∧ t.cas.upBad = s.cas.upBad + 1 ∧ t.cas.crcEp = s.cas.crcEp + 1 ∧
        t.reg CAS.FRAME_ERR_CNT = satNat 16 (s.reg CAS.FRAME_ERR_CNT + 1) ∧
        ∀ a, a ≠ CAS.FRAME_ERR_CNT → t.reg a = s.reg a) ∧
      (frameGood bs = true → ∃ t : State, exec (.casForwardFrame x bs) s = .next t.settle ∧
        t = { s with cas := t.cas, trk := t.trk, tk := t.tk, acc := t.acc, regs := t.regs, cyc := t.cyc, evq := t.evq } ∧
        t.cas.upAt = s.now ∧ t.cas.upGood = s.cas.upGood + 1 ∧ t.cas.upBad = 0 ∧
        (s.cas.up ≤ 1 → 15 ≤ s.cas.upGood → t.cas.up = 2 ∧ t.cas.upEver = true) ∧
        (s.cas.up = 2 → s.cas.role = 2 → natLE ((bs.drop 1).take 4) < frameMod →
          t.cas.pos = min 7 ((bs.getD 6 0).toNat + 1) ∧ t.cas.rxFrame = some (natLE ((bs.drop 1).take 4), x))))

/-- CAS_LINK_DOWN, CAS_TAKEOVER, BCAST_DEADLINE, BCAST_APPLY and CAS_REF_WTR_EXPIRE (R368, R374 to R383). -/
def Obligations.CascadeEvents : Prop :=
  ∀ s : State, clocked s = true →
    let c := s.cas
    let w := c.pos % 8 * 8192
    (c.up ≠ 0 → c.upAt + 3000 ≤ s.now ∨ 16 ≤ c.upBad → ∃ t : State, exec (.casLinkDown true) s = .next t.settle ∧
      t = { s with cas := t.cas, trk := t.trk, regs := t.regs, cyc := t.cyc, evq := t.evq } ∧ t.cas.up = 0 ∧
      t.bit CAS.CAS_EVT_UP_DOWN = true ∧ t.reg CAS.UP_DOWN_CNT = satNat 16 (s.reg CAS.UP_DOWN_CNT + 1) ∧
      ⟨28, .warn, true, false, 1, w, 0, []⟩ ∈ t.evq ∧
      (c.role = 2 → t.cas.lost = true ∧ t.bit CAS.CAS_EVT_MASTER_LOST = true ∧
        t.reg CAS.MLOSS_CNT = satNat 16 (s.reg CAS.MLOSS_CNT + 1) ∧ ⟨29, .warn, true, false, 4, w, 0, []⟩ ∈ t.evq)) ∧
    (c.up = 0 ∨ (s.now < c.upAt + 3000 ∧ c.upBad < 16) → exec (.casLinkDown true) s = .next s.settle) ∧
    (c.dn ≠ 0 → c.dnAt + 3000 ≤ s.now ∨ 16 ≤ c.dnBad → ∃ t : State, exec (.casLinkDown false) s = .next t.settle ∧
      t = { s with cas := { c with dn := 0, dnGood := 0, dnBad := 0, below := 0, gone := [] }, regs := t.regs, cyc := t.cyc, evq := t.evq } ∧
      t.bit CAS.CAS_EVT_DN_DOWN = true ∧ t.reg CAS.DN_DOWN_CNT = satNat 16 (s.reg CAS.DN_DOWN_CNT + 1) ∧
      t.evq = s.evq ++ [⟨28, .warn, true, false, 2, w, 0, []⟩]) ∧
    (c.dn = 0 ∨ (s.now < c.dnAt + 3000 ∧ c.dnBad < 16) → exec (.casLinkDown false) s = .next s.settle) ∧
    (takeoverDue s = true → ∃ t : State, exec .casTakeover s = .next t.settle ∧
      t = { s with cas := t.cas, acc := t.acc, regs := t.regs, cyc := t.cyc, evq := t.evq } ∧ t.cas.role = 3 ∧ t.cas.pos = 0 ∧
      t.cas.gen = (c.gen + 1) % 256 ∧ t.bit CAS.CAS_EVT_TAKEOVER = true ∧
      t.reg CAS.TAKEOVER_CNT = satNat 16 (s.reg CAS.TAKEOVER_CNT + 1) ∧ ⟨29, .warn, true, false, 5, 0, 0, []⟩ ∈ t.evq) ∧
    (takeoverDue s = false → exec .casTakeover s = .next s.settle) ∧
    (let late := fun i : Instr => ∃ t : State, exec i s = .next t.settle ∧
        t = { s with cas := t.cas, acc := t.acc, regs := t.regs, cyc := t.cyc, evq := t.evq } ∧ t.cas.bc.st = 0 ∧ t.cas.bc.result = 2 ∧
        t.bit CAS.CAS_EVT_BCAST_ABORT = true ∧ t.reg CAS.BCAST_ABORT_CNT = satNat 16 (s.reg CAS.BCAST_ABORT_CNT + 1) ∧
        ⟨29, .warn, true, false, 6, w, 0, []⟩ ∈ t.evq
     let past := c.bc.st = 1 ∧ frameAhead ((c.bc.fa + frameMod - 20) % frameMod) c.frameNo = true
     (past → late .bcastDeadline) ∧ (¬ past → exec .bcastDeadline s = .next s.settle) ∧
     (c.bc.st = 1 ∨ c.bc.st = 2 → bcDue s = true → late .bcastApply) ∧
     (c.bc.st = 0 ∨ bcDue s = false → exec .bcastApply s = .next s.settle) ∧
     (c.bc.st = 3 → bcDue s = true →
       applyCheck s (slotOf s c.bc.slot).ctx (slotOf s c.bc.slot).entries 0 0 = none →
       ∃ t : State, exec .bcastApply s = .next t.settle ∧ t.cas.bc.st = 0 ∧ t.cas.bc.result = 1)) ∧
    let done := c.ref = .wait ∧ casFail s = 0 ∧ casWaited s = true
    (done → ∃ t : State, exec .casRefWtrExpire s = .next t.settle ∧
      t = { s with cas := { c with ref := if c.rxHold then .suspect else .valid, cause := 0 }, evq := t.evq } ∧
      t.evq = s.evq ++ [⟨29, .info, true, false, 8, w, 0, []⟩]) ∧
    (¬ done → exec .casRefWtrExpire s = .next s.settle)

/-- SAFE_N, WATCHDOG_EXPIRE, SEQUENCER_RESTART_DONE, CLOCK_FAULT, MTB_RESTART and CLOCK_FAULT_END (R480, R481, R484). -/
def Obligations.Supervision : Prop :=
  (∀ s : State, alive s = true →
    exec .safeNFall s = .next { s with pads := { s.pads with safeLow := true } }.settle ∧
    exec .safeNRise s = .next { s with pads := { s.pads with safeLow := false } }.settle ∧
    exec .clockFaultEnd s = .next { s with pwr := { s.pwr with clkFault := false } }.settle ∧
    (s.clockStop = false → exec .mtbRestart s = .next s.settle) ∧
    (s.clockStop = true → ∃ t : State, exec .mtbRestart s = .next t.settle ∧
      t = { s with clockStop := false, regs := t.regs, cyc := t.cyc, evq := s.evq ++ [⟨3, .warn, true, false, 2, 0, 0, []⟩] } ∧
      t.bit SYS.SYS_EVT_CLK_FAULT = true ∧ ∀ a, a ≠ SYS.SYS_EVT_CLK_FAULT.addr → t.reg a = s.reg a)) ∧
  ∀ s : State, clocked s = true →
    (∃ t : State, exec .watchdogExpire s = .next t.settle ∧
      t = { s with pwr := { s.pwr with wdog := true }, nvs := t.nvs, seq := ⟨true⟩,
                   acc := t.acc, regs := t.regs, cyc := t.cyc, evq := t.evq } ∧
      t.nvs = { s.nvs with incs := if s.pwr.holdup = true then s.nvs.incs else s.nvs.incs ++ [8] } ∧
      t.bit SYS.SYS_EVT_WDOG = true ∧ ⟨2, .warn, true, false, 0, 0, 0, []⟩ ∈ t.evq ∧ t.acc.slots = s.acc.slots ∧
      (∀ c, ctxIdx c ≠ ctxIdx .seq → txnAt t c = txnAt s c) ∧
      let x := txnAt s .seq
      (x.isOpen = false → t.acc = s.acc) ∧
      (x.isOpen = true → (txnAt t .seq).isOpen = false ∧ (txnAt t .seq).entries = [] ∧ (txnAt t .seq).res = 8 ∧
        (txnAt t .seq).lastId = x.id)) ∧
    exec .sequencerRestartDone s = .next { s with seq := ⟨false⟩ }.settle ∧
    (∃ t : State, exec (.clockFault false) s = .next t.settle ∧
      t = { s with pwr := { s.pwr with clkFault := true, clkSeen := true }, regs := t.regs, cyc := t.cyc,
                   evq := s.evq ++ [⟨3, .warn, true, false, 1, 0, 0, []⟩] } ∧
      t.bit SYS.SYS_EVT_CLK_FAULT = true ∧ ∀ a, a ≠ SYS.SYS_EVT_CLK_FAULT.addr → t.reg a = s.reg a) ∧
    exec (.clockFault true) s =
      .next { s with pwr := { s.pwr with clkFault := true, clkSeen := true }, clockStop := true }.settle

/-- BACKGROUND_PASS and BIST_TEST_END (R502 to R508). -/
def Obligations.SelfTestRows : Prop :=
  (∀ s : State, clocked s = true →
    let due := bgMay s = true ∧ s.bist.hoursLeft = 0 ∧ s.bist.bgLeft = []
    let us := (List.range 43).filter fun u => bitsOf (s.reg (BIST.BG_MASK (u / 16))) (u % 16) (u % 16) == 1
    let skipped := fun (t : State) (n : Nat) =>
      t.reg BIST.BG_SKIP_CNT = (if n = 0 then s.reg BIST.BG_SKIP_CNT else satNat 16 (s.reg BIST.BG_SKIP_CNT + n))
    (¬ due → exec .backgroundPass s = .next s.settle) ∧
    (due → s.bist.active = [] → s.bist.queued = none →
      ((∀ u ∈ us, isIdle s u = false) → ∃ t : State, exec .backgroundPass s = .next t.settle ∧
        t = { s with bist := { s.bist with bgLeft := [], hoursLeft := bgPeriod s }, regs := t.regs, cyc := t.cyc } ∧
        skipped t us.length ∧ ∀ a, a ≠ BIST.BG_SKIP_CNT → t.reg a = s.reg a) ∧
      (∀ pre u post, us = pre ++ u :: post → (∀ v ∈ pre, isIdle s v = false) → isIdle s u = true → u < 13 →
        ∃ t : State, exec .backgroundPass s = .next t.settle ∧
          t = { s with bist := { s.bist with bgLeft := post, hoursLeft := bgPeriod s, active := [(u, bgOrigin s u, s.now)] },
                       regs := t.regs, cyc := t.cyc } ∧
          skipped t pre.length ∧ ∀ a, a ≠ BIST.BG_SKIP_CNT → t.reg a = s.reg a))) ∧
  ∀ (s : State) (r : TestResult), clocked s = true →
    let u := r.unit
    let v := verdictOf u r
    (∀ o b, s.bist.active.find? (fun x => x.1 == u) = some (u, o, b) → u < 13 → s.bist.queued = none → s.bist.bgLeft = [] →
      ∃ t : State, exec (.bistTestEnd r) s = .next t.settle ∧
        t = { s with bist := { s.bist with active := s.bist.active.filter (fun x => x.1 != u), units := t.bist.units },
                     mem := { s.mem with soft := t.mem.soft, stallMax := max s.mem.stallMax (min 12 r.longest) },
                     nvs := { s.nvs with incs := t.nvs.incs }, regs := t.regs, cyc := t.cyc, evq := t.evq } ∧
        (∀ w, w ≠ u → unitAt t w = unitAt s w) ∧ (unitAt t u).applied = r.applied ∧
        (v ≠ .fail → (unitAt t u).verdict = v ∧ (unitAt t u).repaired = false ∧ t.mem.soft = s.mem.soft) ∧
        (v = .fail → 0 < sparesLeft s u → sparesLeft t u = sparesLeft s u - 1 ∧ (unitAt t u).repaired = r.repairOk ∧
          (unitAt t u).verdict = if r.repairOk = true then .pass else .fail) ∧
        (v = .fail → sparesLeft s u = 0 → (unitAt t u).verdict = .fail ∧ t.mem.soft = s.mem.soft ∧
          t.bit MEM.MEM_EVT_NO_SPARE = true) ∧
        ((unitAt t u).verdict = .pass → t.bit BIST.BIST_EVT_DONE = true ∧ t.nvs.incs = s.nvs.incs ∧
          t.reg BIST.PASS_CNT = satNat 16 (s.reg BIST.PASS_CNT + 1)) ∧
        ((unitAt t u).verdict = .fail → t.bit BIST.BIST_EVT_FAIL = true ∧ t.nvs.incs = (if s.pwr.holdup = true then s.nvs.incs else s.nvs.incs ++ [11]) ∧
          t.reg BIST.FAIL_CNT = satNat 16 (s.reg BIST.FAIL_CNT + 1))) ∧
    (s.bist.active.find? (fun x => x.1 == u) = none →
      (s.bist.full = true → s.bist.done = false → u < 43 → u ≠ 12 →
        ∃ t : State, exec (.bistTestEnd r) s = .next t.settle ∧
          t = { s with bist := { s.bist with units := t.bist.units }, mem := { s.mem with ringCap := ringCapOf t },
                       nvs := { s.nvs with incs := t.nvs.incs }, regs := t.regs, cyc := t.cyc, evq := t.evq } ∧
          (∀ w, w ≠ u → unitAt t w = unitAt s w) ∧ (unitAt t u).verdict = v ∧ (unitAt t u).applied = r.applied ∧
          (v = .pass → (unitAt t u).unusable = false) ∧ (v = .fail → (unitAt t u).unusable = true) ∧
          (v = .incomplete → (unitAt t u).unusable =
            if (unitAt s u).verdict = .incomplete then true else (unitAt s u).unusable)) ∧
      (s.bist.full = false ∨ s.bist.done = true ∨ 43 ≤ u → exec (.bistTestEnd r) s = .next s.settle))

/-- LC_TRANSITION_DONE, SEALING_WINDOW_EXPIRE and TAMPER (R513 to R518). -/
def Obligations.LifeCycleRows : Prop :=
  (∀ (s : State) (ok : Bool), alive s = true →
    (s.lc.busy = none → exec (.lcTransitionDone ok) s = .next s.settle) ∧
    ∀ q, s.lc.busy = some q →
      exec (.lcTransitionDone false) s = .next { s with lc := { s.lc with busy := none, fuseErr := true } }.settle ∧
      (s.bist.active = [] → ∃ t : State, exec (.lcTransitionDone true) s = .next t.settle ∧
        t = { s with lc := Lc.blow { s.lc with busy := none, fuseErr := false } q,
                     nvs := { s.nvs with incs := if s.pwr.holdup = true then s.nvs.incs else s.nvs.incs ++ [6], bpWritten := false },
                     bist := { s.bist with bgLeft := if lcState t = .ended then [] else s.bist.bgLeft },
                     ptp := t.ptp, eth := t.eth, regs := t.regs, cyc := t.cyc, evq := t.evq } ∧
        (lcMoves (lcState s) q = true → q ≠ .sealed → (q = .field → s.nvs.sealFlag = false) → lcState t = q) ∧
        t.bit SYS.LC_EVT_CHANGE = true ∧ t.bit SYS.SYS_EVT_LC_CHANGE = true ∧
        ⟨1, .info, true, false, 0, (lcState t).code * 8192 + (lcState s).code * 1024, 0, []⟩ ∈ t.evq)) ∧
  (∀ s : State, clocked s = true →
    (∀ d, s.lc.sealing = some d → d ≤ s.now → ∃ t : State, exec .sealingWindowExpire s = .next t.settle ∧
      t = { s with lc := { s.lc with sealing := none }, regs := t.regs, cyc := t.cyc } ∧ t.bit SYS.LC_EVT_SEAL_ABANDON = true ∧
      ∀ a, a ≠ SYS.LC_EVT_SEAL_ABANDON.addr → t.reg a = s.reg a) ∧
    (∀ d, s.lc.sealing = some d → s.now < d → exec .sealingWindowExpire s = .next s.settle) ∧
    (s.lc.sealing = none → exec .sealingWindowExpire s = .next s.settle)) ∧
  ∀ s : State, alive s = true →
    ∃ t : State, exec .tamper s = .next t.settle ∧
      t = { s with lc := { s.lc with sealing := none }, mem := t.mem,
                   nvs := { s.nvs with shadow := none, incs := s.nvs.incs ++ [5] }, ptp := t.ptp, eth := t.eth,
                   regs := t.regs, cyc := t.cyc, evq := t.evq } ∧
      t.mem = { s.mem with keys := Vector.replicate 16 none, half := (none, none), wipe := 1 } ∧
      t.bit SYS.LC_EVT_TAMPER = true ∧
      ⟨1, .info, true, false, 0, (lcState s).code * 8192 + (lcState s).code * 1024 + 1, 0, []⟩ ∈ t.evq ∧
      (s.lc.sealing.isSome = true → t.bit SYS.LC_EVT_SEAL_ABANDON = true)

/-- SRAM_SCRUB_PASS, PHY_FAULT and POWERED_HOUR (R324, R439, R447, R508, R519). -/
def Obligations.MemoryRows : Prop :=
  (∀ (s : State) (ms corr : Nat) (shares : List Nat), clocked s = true →
    let kept := fun (t : State) => t.mem.scrubMs = satNat 16 ms ∧
      (∀ b, b < 8 → vat t.mem.share b = max (vat s.mem.share b) (min 50 (shares.getD b 0))) ∧
      t.reg MEM.ECC_CORR_CNT = satNat 16 (s.reg MEM.ECC_CORR_CNT + corr)
    (∃ t : State, exec (.sramScrubPass ms corr [] shares) s = .next t.settle ∧
      t = { s with mem := { s.mem with scrubMs := t.mem.scrubMs, share := t.mem.share }, regs := t.regs, cyc := t.cyc } ∧ kept t ∧
      ∀ a, a ≠ MEM.ECC_CORR_CNT → t.reg a = s.reg a) ∧
    (∀ b w, ∃ t : State, exec (.sramScrubPass ms corr [(b, w)] shares) s = .next t.settle ∧
      t = { s with mem := { s.mem with scrubMs := t.mem.scrubMs, share := t.mem.share, uncorr := t.mem.uncorr },
                   seq := t.seq, acc := t.acc, regs := t.regs, cyc := t.cyc, evq := t.evq } ∧ kept t ∧
      t.mem.uncorr = b % 16 * 2 ^ 28 + w % 8192 ∧ t.bit MEM.MEM_EVT_UNCORR = true ∧
      t.reg MEM.ECC_UNCORR_CNT = satNat 16 (s.reg MEM.ECC_UNCORR_CNT + 1) ∧
      ⟨23, .warn, true, false, 2, b * 4096, 0, []⟩ ∈ t.evq ∧
      (b < 4 → t.seq.restarting = true) ∧ (4 ≤ b → t.seq = s.seq ∧ t.acc = s.acc))) ∧
  (∀ (s : State) (n : Nat) (on : Bool), clocked s = true → n < 8 →
    let x := s.ethAt n
    ∃ t : State, exec (.phyFault n on) s = .next t.settle ∧ t = { s with eth := t.eth, regs := t.regs, cyc := t.cyc, evq := t.evq } ∧
      t.ethAt n = { x with phyFault := on } ∧ (∀ m, m ≠ n → t.ethAt m = s.ethAt m) ∧
      (on = true → x.phyFault = false → t.bit (ETH.ETH_EVT_PHY_FAULT n) = true ∧ t.evq.length = s.evq.length + 1 ∧
        ∀ a, a ≠ (ETH.ETH_EVT_PHY_FAULT n).addr → t.reg a = s.reg a) ∧
      (on = false ∨ x.phyFault = true → t.regs = s.regs ∧ t.evq = s.evq)) ∧
  ∀ s : State, s.pwr.st ≠ .off →
    ∃ t : State, exec .poweredHour s = .next t.settle ∧
      t = { s with nvs := { s.nvs with ctr := t.nvs.ctr, hoursLeft := s.nvs.hoursLeft - 1 },
                   bist := { s.bist with hoursLeft := s.bist.hoursLeft - 1 }, regs := t.regs, cyc := t.cyc, evq := t.evq } ∧
      ctrOf t 9 = (ctrOf s 9 + 1) % 2 ^ 32 ∧ ∀ k, k ≠ 9 → ctrOf t k = ctrOf s k

/-- UV_WARNING, OVERVOLTAGE, RAIL_FAULT and the rows that end them (R534, R539, R555). -/
def Obligations.SupplyRows : Prop :=
  ∀ (s : State) (v r : Nat), alive s = true →
    let p := { s.pwr with vin := v, vinMin := min s.pwr.vinMin v }
    let raised := fun (i : Instr) (q : Power) (f : Field) (cnt : Nat) (e : Event) =>
      ∃ t : State, exec i s = .next t.settle ∧ t = { s with pwr := q, regs := t.regs, cyc := t.cyc, evq := s.evq ++ [e] } ∧ t.bit f = true ∧
        t.reg cnt = satNat 16 (s.reg cnt + 1) ∧ ∀ a, a ≠ f.addr → a ≠ cnt → t.reg a = s.reg a
    (v < uvwTh s → s.pwr.uvWarn = false →
      raised (.uvWarning v) { p with uvWarn := true } PWR.PWR_EVT_UV_WARN PWR.UVW_CNT ⟨4, .warn, true, false, 1, 0, 0, []⟩) ∧
    (uvwTh s ≤ v ∨ s.pwr.uvWarn = true → exec (.uvWarning v) s = .next { s with pwr := p }.settle) ∧
    exec (.uvWarnClear v) s =
      .next { s with pwr := { p with uvWarn := s.pwr.uvWarn && decide (v < uvwTh s + 100) } }.settle ∧
    (7700 < v → s.pwr.ov = false →
      raised (.overvoltage v) { p with ov := true } PWR.PWR_EVT_OV PWR.OV_CNT ⟨5, .warn, true, false, 3, 0, 0, []⟩) ∧
    (v ≤ 7700 ∨ s.pwr.ov = true → exec (.overvoltage v) s = .next { s with pwr := p }.settle) ∧
    exec (.ovClear v) s = .next { s with pwr := { p with ov := s.pwr.ov && decide (7600 < v) } }.settle ∧
    exec (.inputUvArm v) s = .next { s with pwr := { p with armed := s.pwr.armed || decide (3600 ≤ v) } }.settle ∧
    (r < 8 → bitsOf s.pwr.railBad r r = 0 →
      raised (.railFault r) { s.pwr with railBad := setBits s.pwr.railBad r r 1 } PWR.PWR_EVT_RAIL PWR.RAIL_CNT
        ⟨7, .warn, true, false, 5, r * 256, 0, []⟩) ∧
    (8 ≤ r ∨ bitsOf s.pwr.railBad r r = 1 → exec (.railFault r) s = .next s.settle) ∧
    (r < 8 → exec (.railRecovery r) s =
      .next { s with pwr := { s.pwr with railBad := setBits s.pwr.railBad r r 0 } }.settle) ∧
    (8 ≤ r → exec (.railRecovery r) s = .next s.settle)

/-- INPUT_UV, TURN_OFF and HOLDUP_END (R442, R534, R537 to R539). -/
def Obligations.HoldUpRows : Prop :=
  (∀ (s : State) (v : Nat), alive s = true →
    let p := { s.pwr with vin := v, vinMin := min s.pwr.vinMin v }
    let engaged := fun i : Instr => ∃ t : State, exec i s = .next t.settle ∧
      t.pwr.holdup = true ∧ t.pwr.uv = true ∧ t.pwr.vin = v ∧ t.pwr.st = s.pwr.st ∧ t.mtb = s.mtb ∧ t.mem = s.mem ∧
      t.nvs = { s.nvs with incs := s.nvs.incs ++ [1], pend := none,
                           pageRes := if s.nvs.pend.isSome = true then 5 else s.nvs.pageRes } ∧
      t.bit PWR.PWR_EVT_UV = true ∧ ⟨5, .warn, true, false, 2, 0, 0, []⟩ ∈ t.evq ∧ ⟨6, .warn, true, false, 4, 0, 0, []⟩ ∈ t.evq ∧
      (∀ n, n < 40 → (t.outAt n).st = .off) ∧ (∀ k, k < 7 → (t.synAt k).st = .off) ∧
      (∀ n, n < 8 → (t.ethAt n).link = false) ∧ ∀ b ∈ t.pwr.brz.toList, b.active = true → b.stopping = true
    (v < 3500 → s.pwr.armed = true → s.pwr.holdup = false → engaged (.inputUv v)) ∧
    (3500 ≤ v ∨ s.pwr.armed = false ∨ s.pwr.holdup = true → exec (.inputUv v) s = .next { s with pwr := p }.settle) ∧
    (v < 3200 → s.pwr.holdup = false → engaged (.turnOff v)) ∧
    (v < 3200 → s.pwr.holdup = true → exec (.turnOff v) s = .next { s with pwr := { p with pg := false } }.settle) ∧
    (3200 ≤ v → exec (.turnOff v) s = .next { s with pwr := p }.settle)) ∧
  ∀ (s : State) (collapsed torn : Bool), alive s = true →
    let off := ∃ t : State, exec (.holdupEnd collapsed torn) s = .next t.settle ∧ t.pwr.st = .off ∧ t.mtb = s.mtb ∧
      t.nvs.ctr = s.nvs.ctr ∧ t.mem.keys = Vector.replicate 16 none ∧ t.outs = Vector.replicate 40 Output.reset ∧
      (collapsed = false ∨ torn = false ∨ opPage s = none → t.nvs.slots = s.nvs.slots) ∧
      ∀ q d, collapsed = true → torn = true → opPage s = some (q, d) → q < 256 →
        (∀ k, k ≠ q → pageData t k = pageData s k) ∧
        vat t.nvs.slots (2 * q + (pageNext s q).1) = some ⟨(pageNext s q).2, crc16 d, false, d⟩
    (s.pwr.holdup = false → exec (.holdupEnd collapsed torn) s = .next s.settle) ∧
    (s.pwr.holdup = true → collapsed = true ∨ (s.nvs.op = .idle ∧ s.nvs.incs = []) → off) ∧
    (s.pwr.holdup = true → collapsed = false → s.nvs.op ≠ .idle ∨ s.nvs.incs ≠ [] →
      exec (.holdupEnd collapsed torn) s = .next s.settle)

/-- TEMP_WARNING, TEMP_LIMIT, TEMP_RECOVERY, THERMAL_TRIP and TRIP_CLEAR (R543, R555). -/
def Obligations.TemperatureRows : Prop :=
  ∀ (s : State) (x : Temps), clocked s = true →
    let r := s.sense ⟨none, some x, none⟩
    let read := { s with loa := r.loa, thm := r.thm }
    let warm := (List.range 8).filter fun i => decide (warnTh s i ≤ tempOf r i) && bitsOf s.thm.warn i i == 0
    let hot := (List.range 8).filter fun i => decide (limitTh s i ≤ tempOf r i) && bitsOf s.thm.limit i i == 0
    let h := hotDie r
    (∃ t : State, exec (.tempWarning x) s = .next t.settle ∧
      t = { read with thm := { r.thm with warn := t.thm.warn }, regs := t.regs, cyc := t.cyc,
                      evq := s.evq ++ warm.map fun i => ⟨20, .warn, true, false, 1, i * 256, 0, []⟩ } ∧
      (∀ i, i < 8 → bitsOf t.thm.warn i i = if warnTh s i ≤ tempOf r i then 1 else bitsOf s.thm.warn i i) ∧
      (warm = [] → t.regs = s.regs) ∧
      (warm ≠ [] → t.bit THM.THM_EVT_WARN = true ∧ t.reg THM.WARN_CNT = satNat 16 (s.reg THM.WARN_CNT + warm.length) ∧
        ∀ a, a ≠ THM.THM_EVT_WARN.addr → a ≠ THM.WARN_CNT → t.reg a = s.reg a)) ∧
    (∃ t : State, exec (.tempLimit x) s = .next t.settle ∧
      t = { read with thm := { r.thm with limit := t.thm.limit }, regs := t.regs, cyc := t.cyc,
                      evq := s.evq ++ hot.map fun i => ⟨21, .warn, true, false, 2, i * 256, 0, []⟩ } ∧
      (∀ i, i < 8 → bitsOf t.thm.limit i i = if limitTh s i ≤ tempOf r i then 1 else bitsOf s.thm.limit i i) ∧
      (hot = [] → t.regs = s.regs) ∧
      (hot ≠ [] → t.bit THM.THM_EVT_LIMIT = true ∧ ∀ a, a ≠ THM.THM_EVT_LIMIT.addr → t.reg a = s.reg a)) ∧
    (∃ t : State, exec (.tempRecovery x) s = .next t.settle ∧
      t = { read with thm := { r.thm with warn := t.thm.warn, limit := t.thm.limit } } ∧
      ∀ i, i < 8 →
        bitsOf t.thm.warn i i = (if tempOf r i ≤ warnTh s i - 200 then 0 else bitsOf s.thm.warn i i) ∧
        bitsOf t.thm.limit i i = if tempOf r i < limitTh s i then 0 else bitsOf s.thm.limit i i) ∧
    (tempOf r h < 15500 ∨ s.thm.trip = true → exec (.thermalTrip x) s = .next read.settle) ∧
    (15500 ≤ tempOf r h → s.thm.trip = false → ∃ t : State, exec (.thermalTrip x) s = .next t.settle ∧
      t.thm = { r.thm with trip := true } ∧
      t.pwr.st = (if s.pwr.st = .run ∨ s.pwr.st = .park then .keep else s.pwr.st) ∧
      (s.pwr.st = .keep ∨ s.pwr.st = .boot →
        t = { read with thm := t.thm, regs := t.regs, cyc := t.cyc, evq := s.evq ++ [⟨21, .warn, true, false, 3, h * 256, 0, []⟩] } ∧
        t.bit THM.THM_EVT_TRIP = true ∧ t.reg THM.TRIP_CNT = satNat 16 (s.reg THM.TRIP_CNT + 1) ∧
        ∀ a, a ≠ THM.THM_EVT_TRIP.addr → a ≠ THM.TRIP_CNT → t.reg a = s.reg a)) ∧
    (s.thm.trip = true → tempOf r h < 14000 →
      let u := { read with thm := { r.thm with trip := false } }
      exec (.tripClear x) s = .next (if s.pwr.deferred = true then u.goMove else u).settle) ∧
    (s.thm.trip = false ∨ 14000 ≤ tempOf r h → exec (.tripClear x) s = .next read.settle)

/-- POWER_UP, HOLDUP_RESTART, RESET_N_ASSERT and RESET_N_RELEASE (R14, R424, R453, R454, R539, R555). -/
def Obligations.StartRows : Prop :=
  (∀ (s : State) (fl : Flash) (id role : Nat), s.pwr.st = .off →
    let started := fun i : Instr => ∃ t : State, exec i s = .next t.settle ∧
      t = ({ s with cfg := { s.cfg with flash := fl }, pads := { s.pads with id := id % 8, casRole := role % 4 } }).start 1 ∧
      ∀ e, imageError fl.pass1 = some e → seqDead s = false →
        t.pwr.st = .boot ∧ t.pwr.cause = 1 ∧ t.mtb = 0 ∧ t.pads.id = id % 8 ∧ t.nvs.ctr = s.nvs.ctr ∧
        t.nvs.incs.head? = some 0 ∧ t.cfg.lst = .error ∧ t.cfg.err = e.1 ∧ t.cfg.errOfs = e.2 ∧ t.cfg.loaded = false ∧
        ⟨0, .info, true, false, 1, 0, 0, []⟩ ∈ t.evq
    started (.powerUp fl id role) ∧ started (.holdupRestart fl id role)) ∧
  (∀ s : State, alive s = true →
    (s.pwr.holdup = true → exec .resetNAssert s = .next s.settle) ∧
    (s.pwr.holdup = false → ∃ t : State, exec .resetNAssert s = .next t.settle ∧
      t.pads = { s.pads with resetLow := true } ∧ t.mtb = s.mtb ∧
      (∀ a, ¬ (0x0720 ≤ a ∧ a < 0x0760) → a ≠ NVS.PROTECT → t.reg a = (resetWord a).toNat) ∧
      (∀ a, 0x0740 ≤ a → a < 0x0760 → t.reg a = s.reg a) ∧
      t.mon = Vector.replicate 24 Monitor.reset ∧ t.dom = Vector.replicate 6 Domain.reset ∧
      t.syn = Vector.replicate 7 Synth.reset ∧ t.outs = Vector.replicate 40 Output.reset ∧
      t.tk = Vector.replicate 4 TimeKeeper.reset ∧ t.eth = Vector.replicate 8 EthPort.reset ∧ t.cas = Cas.reset ∧
      t.acc = Access.reset ∧ t.flt = Vector.replicate 128 SrcState.reset ∧ t.hist = Vector.replicate 64 [] ∧ t.evq = [] ∧
      t.nvs.slots = s.nvs.slots ∧ t.nvs.ctr = s.nvs.ctr ∧ t.nvs.faultLog = s.nvs.faultLog ∧ lcState t = lcState s)) ∧
  ∀ (s : State) (fl : Flash) (id role : Nat), s.pwr.st ≠ .off → s.pads.resetLow = true →
    (s.pwr.holdup = true →
      exec (.resetNRelease fl id role) s = .next { s with pads := { s.pads with resetLow := false } }.settle) ∧
    (s.pwr.holdup = false → ∃ t : State, exec (.resetNRelease fl id role) s = .next t.settle ∧
      t = ({ s with cfg := { s.cfg with flash := fl },
                    pads := { s.pads with resetLow := false, id := id % 8, casRole := role % 4 } }).start 2 ∧
      ∀ e, imageError fl.pass1 = some e → seqDead s = false → storing s = false →
        t.pwr.st = .boot ∧ t.pwr.cause = 2 ∧ t.mtb = s.mtb ∧ t.pads.resetLow = false ∧ t.nvs.ctr = s.nvs.ctr ∧
        t.cfg.lst = .error ∧ t.cfg.err = e.1 ∧ ⟨0, .info, true, false, 2, 0, 0, []⟩ ∈ t.evq)

/-- RECORD_WAIT_EXPIRE, IMAGE_LOAD_DONE and STARTUP_BIST_DONE (R429 to R434, R454, R499). -/
def Obligations.LoadRows : Prop :=
  (∀ s : State, clocked s = true →
    let due := fun r : Nat => s.cfg.next = some r ∧ s.cfg.lst = .apply ∧ s.cfg.waitTo ≤ s.now
    ((∀ r, ¬ due r) → exec .recordWaitExpire s = .next s.settle) ∧
    ∀ r, due r → ∃ t : State, exec .recordWaitExpire s = .next t.settle ∧ t = s.recordsFrom r ∧
      (regSection s ≠ [] →
        (∀ n, recAt (regSection s) r = (n, .stop) → t = { s with cfg := { s.cfg with next := none } }) ∧
        (∀ n us, recAt (regSection s) r = (n, .wait us) →
          t = { s with cfg := { s.cfg with recs := s.cfg.recs + 1, next := some (r + n), waitTo := s.now + us * 1000 } }) ∧
        (∀ n, recAt (regSection s) r = (n, .bad) → t.cfg.lst = .error ∧ t.cfg.err = 6 ∧ t.cfg.next = none ∧
          t.cfg.errOfs = imgLE s.cfg.flash.pass2 16 4 + r ∧ t.bit CFG.CFG_EVT_LOAD_ERR = true))) ∧
  (∀ s : State, clocked s = true →
    let bs := s.cfg.flash.pass2
    (s.cfg.lst ≠ .idle → s.cfg.lst ≠ .apply → s.pwr.st ≠ .boot → exec .imageLoadDone s = .next s.settle) ∧
    (s.cfg.lst = .apply → s.cfg.next = none → s.bist.done = false →
      (∀ o, pmapError bs = some o → ∃ t : State, exec .imageLoadDone s = .next t.settle ∧ t.cfg.lst = .error ∧ t.cfg.err = 7 ∧
        t.cfg.errOfs = o ∧ t.pwr = s.pwr ∧ t.bit CFG.CFG_EVT_LOAD_ERR = true ∧ t.nvs.incs = (if s.pwr.holdup = true then s.nvs.incs else s.nvs.incs ++ [7])) ∧
      (pmapError bs = none → imgLE bs 36 4 = 0 →
        crc32c (imgPart bs 0 (s.cfg.len - 4)) = crc32c (imgPart s.cfg.flash.pass1 0 (s.cfg.len - 4)) →
        storedEntries s = [] → hasModel s = false →
        ∃ t : State, exec .imageLoadDone s = .next t.settle ∧
          t = { s with cfg := t.cfg, nvs := t.nvs, bist := t.bist, regs := t.regs, cyc := t.cyc, evq := t.evq } ∧
          t.cfg.lst = .done ∧ t.cfg.loaded = true ∧ t.cfg.released = true ∧ t.bit CFG.CFG_EVT_LOAD_DONE = true ∧
          t.nvs.slots = s.nvs.slots ∧ t.bist = { s.bist with locked := s.bist.locked || lcLocked s }))) ∧
  ∀ s : State, clocked s = true →
    (s.pwr.st ≠ .boot ∨ s.bist.done = true → ∀ rs, exec (.startupBistDone rs) s = .next s.settle) ∧
    (s.pwr.st = .boot → s.bist.done = false → ∃ t : State, exec (.startupBistDone []) s = .next t.settle ∧
      t.bist.done = true ∧ t.bist.startUs = (s.now - s.bist.startAt) / 1000 ∧
      (s.cfg.lst ≠ .done → s.cfg.lst ≠ .error → seqDead s = false → t.pwr = s.pwr) ∧
      (s.cfg.lst = .done ∨ s.cfg.lst = .error → s.pwr.deferred = false → s.thm.trip = false → t.pwr.st = .run) ∧
      (∀ k, (unitAt s 12).unusable = false → s.nvs.shadow = some k → shadowOk s = true →
        t.mem.keys = k.keys ∧ t.mem.half = k.half))

/-- PAGE_WRITE_DONE, STORE_DONE, COUNTER_INCREMENT_ACK and MARGIN_SCRUB (R436 to R448). -/
def Obligations.StorageRows : Prop :=
  (∀ (s : State) (ok : Bool), alive s = true →
    let same := fun t : State => ∀ q, q < 256 → pageData t q = pageData s q
    (s.nvs.op = .idle → exec (.pageWriteDone ok) s = .next s.settle) ∧
    (∀ p d, s.nvs.op = .page p d → s.nvs.pend = none → s.nvs.storeNext = none → p < 256 →
      ∃ t : State, exec (.pageWriteDone ok) s = .next t.settle ∧
        t = { s with nvs := { s.nvs with op := .idle, pageRes := if ok = true then 0 else 4, slots := t.nvs.slots },
                     regs := t.regs, cyc := t.cyc, evq := t.evq } ∧
        (ok = true → pageData t p = d ∧ (pageFind t p).2 = 0 ∧ (∀ q, q ≠ p → pageData t q = pageData s q) ∧
          t.regs = s.regs ∧ t.evq = s.evq) ∧
        (ok = false → t.nvs.slots = s.nvs.slots ∧ t.bit NVS.NVS_EVT_VERIFY_FAIL = true ∧
          t.reg NVS.VERIFY_FAIL_CNT = satNat 16 (s.reg NVS.VERIFY_FAIL_CNT + 1) ∧
          t.evq = s.evq ++ [⟨25, .warn, true, false, 5, p * 256, 0, []⟩])) ∧
    (∀ p d rest n pr f t0, s.nvs.op = .store ((p, d) :: rest) n pr f t0 → p < 256 →
      ∃ t : State, exec (.pageWriteDone ok) s = .next t.settle ∧
        t.nvs.op = .store rest (n + 1) pr (f || !ok) t0 ∧ (ok = true → pageData t p = d) ∧
        (ok = false → same t) ∧ ∀ q, q ≠ p → pageData t q = pageData s q) ∧
    (∀ n pr f t0, s.nvs.op = .store [] n pr f t0 → s.nvs.pend = none → s.cyc.again = [] →
      s.pwr.st ≠ .boot ∨ s.cfg.lst ≠ .idle →
      let res := if f = true then 3 else if pr = true then 2 else 1
      ∃ t : State, exec .storeDone s = .next t.settle ∧
        t = { s with nvs := { s.nvs with op := .idle, storePages := n, storeTime := satNat 16 ((s.now - t0) / 100000),
                                         storeRes := res, incs := if f = true then s.nvs.incs else s.nvs.incs ++ [2] },
                     regs := t.regs, cyc := t.cyc,
                     evq := s.evq ++ [⟨11, if res = 1 then .info else .warn, true, false, res, s.cfg.err * 4096, 0, []⟩] } ∧
        t.bit CFG.CFG_EVT_STORE_DONE = true ∧
        (res = 1 → t.reg CFG.STORE_FAIL_CNT = s.reg CFG.STORE_FAIL_CNT) ∧
        (res ≠ 1 → t.bit CFG.CFG_EVT_STORE_FAIL = true ∧
          t.reg CFG.STORE_FAIL_CNT = satNat 16 (s.reg CFG.STORE_FAIL_CNT + 1))) ∧
    ((∀ n pr f t0, s.nvs.op ≠ .store [] n pr f t0) → exec .storeDone s = .next s.settle) ∧
    (s.nvs.incs = [] → exec (.counterIncrementAck ok) s = .next s.settle) ∧
    (∀ k rest, s.nvs.incs = k :: rest → k < 16 →
      ∃ t : State, exec (.counterIncrementAck ok) s = .next t.settle ∧
        t = { s with nvs := { s.nvs with incs := rest, ctr := t.nvs.ctr, userInc := t.nvs.userInc }, regs := t.regs, cyc := t.cyc,
                     evq := t.evq } ∧
        (∀ j, j ≠ k → ctrOf t j = ctrOf s j) ∧
        (ok = true → ctrOf t k = (ctrOf s k + 1) % 2 ^ 32 ∧
          t.nvs.userInc = if s.nvs.userInc = some k then none else s.nvs.userInc) ∧
        (ok = false → ctrOf t k = ctrOf s k ∧ t.nvs.userInc = s.nvs.userInc ∧ t.bit NVS.NVS_EVT_VERIFY_FAIL = true))) ∧
  ∀ (s : State) (ps cs : List Nat), alive s = true →
    let due := (s.nvs.scrubReq = true ∨ s.nvs.hoursLeft = 0) ∧ s.nvs.op = .idle ∧ s.pwr.holdup = false
    let n := (ps.filter fun p => (pageFind s p).1.isSome).length + (cs.filter (· < 16)).length
    (¬ due → exec (.marginScrub ps cs) s = .next s.settle) ∧
    (due → s.cyc.again = [] →
      let u := s.pagesRead (List.range 256)
      ∃ t : State, exec (.marginScrub ps cs) s = .next t.settle ∧
        t = { u with nvs := { u.nvs with scrubReq := false, hoursLeft := 168, incs := s.nvs.incs ++ List.replicate n 10,
                                         slots := t.nvs.slots }, regs := t.regs, cyc := t.cyc, evq := t.evq } ∧
        (∀ q, q < 256 → pageData t q = pageData s q) ∧ t.evq.length = u.evq.length + n ∧
        (n = 0 → t.regs = u.regs) ∧
        (n ≠ 0 → t.bit NVS.NVS_EVT_MARGIN_FIX = true ∧ t.reg NVS.MARGIN_FIX_CNT = satNat 16 (s.reg NVS.MARGIN_FIX_CNT + n)))

/-- WAKE_PAD, RTC_ALARM and RTC_TICK (R33, R468). -/
def Obligations.WakeRows : Prop :=
  ∀ (s : State) (high : Bool), alive s = true →
    let low := satNat 32 ((s.now - s.pwr.lowSince) / 1000000000)
    let woken := fun (i : Instr) (cause : Nat) =>
      (s.pwr.st = .park ∨ s.pwr.st = .keep ∨ s.pwr.st = .nap → ∃ t : State, exec i s = .next t.settle ∧
        t.pwr = { s.pwr with st := .run, wakeCause := cause, wakePort := 0, lowTime := low,
                             lowSince := if s.pwr.st = .park then s.pwr.lowSince else s.now } ∧
        t.bit PWR.PS_EVT_WOKE = true ∧ t.mtb = s.mtb ∧ t.nvs = s.nvs ∧ t.cfg = s.cfg ∧ t.lc = s.lc ∧
        (s.bist.queued = none → t.bist = s.bist ∧ t.mem = s.mem ∧ t.thm = s.thm)) ∧
      (s.pwr.st = .dormant → ∃ t : State, exec i s = .next t.settle ∧ t.bit PWR.PS_EVT_WOKE = true ∧
        let u := s.start 3
        t = { u with pwr := { u.pwr with wakeCause := cause, wakePort := 0, lowTime := low }, regs := t.regs, cyc := t.cyc })
    (padWakes s high = false → exec (.wakePad high) s = .next s) ∧
    (padWakes s high = true → woken (.wakePad high) 1) ∧
    (rtcWakes s = false → exec .rtcAlarm s = .next s) ∧
    (rtcWakes s = true → woken .rtcAlarm 3) ∧
    (s.pwr.st ≠ .nap → s.pwr.st ≠ .dormant → exec .rtcTick s = .next s.settle) ∧
    (s.pwr.st = .nap ∨ s.pwr.st = .dormant → ∃ t : State, exec .rtcTick s = .next t.settle ∧
      t = { s with mtb := s.mtb + BitVec.ofNat 64 ((30517 * 64 + 37 + s.pwr.rtcFrac) / 64),
                   pwr := { s.pwr with rtcFrac := (37 + s.pwr.rtcFrac) % 64, brz := t.pwr.brz, brzT := t.pwr.brzT },
                   found := t.found, cyc := t.cyc } ∧
      ∀ e, e < 4 → (vat t.pwr.brz e).active = true → vat t.pwr.brz e = vat s.pwr.brz e)

/-- R477: only WARN events are counted, and the window decides. -/
def Obligations.WarnWindow : Prop :=
  ∀ (s : State) (e : Event), e.src < 128 →
    let old := (s.fltAt e.src).warns
    let new := ((s.classify e).fltAt e.src).warns
    let counted := s.now :: old
    let w := windowNow s e.src
    let thr := threshNow s e.src
    let inside := counted.filter fun x => decide (w = 0) || decide (s.now < x + w * 1000000)
    (e.sev = .info → finalSev s e = .info ∧ new = old) ∧
    (e.sev = .severe → new = old) ∧
    (e.sev = .warn → new = counted.take 255 ∧
      (finalSev s e = .severe ↔ thr ≠ 0 ∧ thr ≤ inside.length) ∧
      (finalSev s e ≠ .severe → finalSev s e = .warn) ∧
      (thr = 1 → finalSev s e = .severe) ∧ (thr = 0 → finalSev s e = .warn) ∧
      thr < 256) ∧
    ((∀ a ∈ s.cyc.wrote, a.addr ≠ clsAddr e.src ∧ a.addr ≠ clsAddr e.src + 1) →
      thr = clsThresh s e.src ∧ w = clsWindow s e.src)

/-- One event at its classifier (R474, R478, R479, R482, R485). -/
def Obligations.EventRecorded : Prop :=
  ∀ (s : State) (e : Event), e.src < 128 →
    let t := s.classify e
    let sev := finalSev s e
    let c := s.fltAt e.src
    let u := t.fltAt e.src
    t = { s with flt := t.flt, hist := t.hist, nvs := t.nvs, dom := t.dom, cyc := t.cyc } ∧
    (e.sev = .severe → sev = .severe ∧ u.warns = c.warns) ∧
    u.pend = true ∧ (∀ k, k ≠ e.src → t.fltAt k = s.fltAt k) ∧
    vat t.hist (histOf e.src) = (entryOf s e sev :: vat s.hist (histOf e.src)).take 4 ∧
    (∀ b, b ≠ histOf e.src → vat t.hist b = vat s.hist b) ∧
    (entryOf s e sev).time = s.now ∧ (entryOf s e sev).real = e.real ∧ (entryOf s e sev).inj = e.inj ∧
    (entryOf s e sev).sev = sev ∧ (entryOf s e sev).src = e.src ∧ (entryOf s e sev).word6 = e.word6 ∧
    (sev = .severe → u.sev = true ∧ (∃ f, t.nvs.faultLog = (f :: s.nvs.faultLog).take 256 ∧ f.e = entryOf s e sev) ∧
      (c.sev = false → u.real = e.real ∧ u.cause = e.cause ∧ u.cover = coverOf s e.src e.outs ∧
        u.direct = decide (e.sev = .severe)) ∧
      (c.sev = true → u.real = (c.real || e.real) ∧ u.cause = c.cause ∧ u.cover = c.cover)) ∧
    (sev ≠ .severe → u.sev = c.sev ∧ u.real = c.real ∧ u.cause = c.cause ∧ u.cover = c.cover ∧ u.direct = c.direct ∧ t.nvs = s.nvs ∧
      t.cyc = s.cyc) ∧
    (e.src ≠ 30 → e.src ≠ 31 → t.dom = s.dom)

/-- The invariant of the safe states (R248, R260, R262, R263, R484), kept by every step from every state, reached or not. -/
def Obligations.SafeStatesInvariant : Prop :=
  let inv := fun s : State => ∀ n, n < 40 →
    (covered s n = true → outSafe s n ≠ 2 →
      (s.outAt n).st ≠ .run ∧ (s.outAt n).st ≠ .aligning ∧ (s.outAt n).st ≠ .gated ∧ (s.outAt n).st ≠ .bypass) ∧
    ((s.outAt n).st = .safe → covered s n = true ∨ (s.outAt n).drvFault = true)
  ∀ s t : State, inv s → step s = .next t → inv t

/-- SAFE_N over the outputs (R248, R260, R263, R484). -/
def Obligations.SafeNCovers : Prop :=
  ∀ s : State, alive s = true → s.bist.active = [] →
    (∃ r, exec .safeNFall s = .next r ∧ ∀ n, n < 40 →
      let o := s.outAt n
      let moves := o.st = .run ∨ o.st = .aligning ∨ o.st = .gated ∨ o.st = .bypass
      (moves → outSafe s n ≠ 2 →
        r.outAt n = { o with st := .safe, wasByp := o.onByp, hot := decide (o.st = .run), coveredAt := s.now } ∧
        r.reg (OUT.GATE_CNT n) = satNat 16 (s.reg (OUT.GATE_CNT n) + 1)) ∧
      (¬ moves ∨ outSafe s n = 2 → r.outAt n = o ∧ r.reg (OUT.GATE_CNT n) = s.reg (OUT.GATE_CNT n))) ∧
    ∃ r, exec .safeNRise s = .next r ∧ ∀ n, n < 40 → covered r n = false → (s.outAt n).st = .safe →
      (s.outAt n).drvFault = false → (r.outAt n).st = .aligning

/-- SEVERE_LATCH_CLEAR, PEND_CLEAR, PEND_CLR and FAULT_COUNT_CLEAR (R479, R482, R487). -/
def Obligations.LatchWrites : Prop :=
  ∀ (s : State) (c : Ctx) (m d : Nat),
    let g := Nat.land m d
    let src := s.fld SYS.FLT_SEL_SRC
    let one := goes g SYS.FLT_SRC_CLEAR_REFUSED = false
    (DirectWrite s c SYS.FLT_CTRL m d →
      ∃ t : State, exec (.pendClr c m d) s = .next t.settle ∧ exec (.faultCountClear c m d) s = .next t.settle ∧
        t = { s with flt := t.flt, regs := t.regs, cyc := t.cyc } ∧ ∀ k, k < 128 →
          t.fltAt k = { s.fltAt k with
            pend := (s.fltAt k).pend && !goes g SYS.FLT_CTRL_PEND_CLR,
            warns := if goes g SYS.FLT_CTRL_CNT_CLR = true then [] else (s.fltAt k).warns }) ∧
    (DirectWrite s c SYS.FLT_SRC m d → one → goes g SYS.FLT_SRC_SEVERE = true → goes g SYS.FLT_SRC_PEND = false →
      ∃ t : State, exec (.severeLatchClear c m d) s = .next t.settle ∧ t = { s with flt := t.flt, regs := t.regs, cyc := t.cyc } ∧
        (∀ k, k ≠ src → t.fltAt k = s.fltAt k) ∧
        ((s.fltAt src).sev = false → t.fltAt src = s.fltAt src) ∧
        ((s.fltAt src).sev = true → latchHeld s src = true → t.fltAt src = { s.fltAt src with refused := true }) ∧
        ((s.fltAt src).sev = true → latchHeld s src = false →
          t.fltAt src = { s.fltAt src with sev := false, real := false, cover := .none, cause := 0, warns := [] })) ∧
    (DirectWrite s c SYS.FLT_SRC m d → one → goes g SYS.FLT_SRC_PEND = true → goes g SYS.FLT_SRC_SEVERE = false →
      ∃ t : State, exec (.pendClear c m d) s = .next t.settle ∧ t = { s with flt := t.flt, regs := t.regs, cyc := t.cyc } ∧
        (∀ k, k ≠ src → t.fltAt k = s.fltAt k) ∧ (src < 128 → t.fltAt src = { s.fltAt src with pend := false }))

/-- Write rows of the monitors, the trackers, the domains and the time keepers (R81, R90, R112, R120, R127, R129, R130, R144,
R272, R274, R275, R281). -/
def Obligations.TimingWrites : Prop :=
  ∀ (s : State) (c : Ctx) (m d : Nat),
    let g := Nat.land m d
    (∀ k, k < 24 → DirectWrite s c (INM.QUAL_CTRL k) m d → goes g (INM.QUAL_CTRL_CNT_CLR k) = false →
      let u := s.storeWord (INM.QUAL_CTRL k) m d
      let x := s.monAt k
      (goes g (INM.QUAL_CTRL_REQUAL k) = true → forceFail u k = forceFail s k →
        ∃ t : State, exec (.requal c k m d) s = .next t.settle ∧ t = { u with mon := t.mon, regs := t.regs, cyc := t.cyc, evq := t.evq } ∧
          (∀ j, j ≠ k → t.monAt j = s.monAt j) ∧
          (x.st = .absent → t.monAt k = x ∧ t.evq = s.evq) ∧
          (x.st ≠ .absent → forceFail s k = false → (t.monAt k).st = .wait ∧ (t.monAt k).waited = 0)) ∧
      (goes g (INM.QUAL_CTRL_REQUAL k) = false → forceFail u k ≠ forceFail s k →
        ∃ t : State, exec (.forceFailWrite c k m d) s = .next t.settle ∧ t = { u with mon := t.mon, regs := t.regs, cyc := t.cyc, evq := t.evq } ∧
          (∀ j, j ≠ k → t.monAt j = s.monAt j) ∧
          (x.st = .absent → t.monAt k = x) ∧
          (x.st ≠ .absent → forceFail u k = true → (t.monAt k).st = .failed ∧ t.bit (INM.CAUSE_C_SW k) = true ∧
            (t.monAt k).firstCause = if x.st = .failed then x.firstCause else if x.los = true then 1 else 6) ∧
          (x.st = .failed → failing u k x = false → (t.monAt k).st = .wait ∧ (t.monAt k).waited = 0))) ∧
    (DirectWrite s c TRK.CTRL m d → goes g TRK.CTRL_CNT_CLR = false →
      ∃ t : State, exec (.snapshotArm c m d) s = .next t.settle ∧ exec (.peakClr c TRK.CTRL m d) s = .next t.settle ∧
        t = { s.storeWord TRK.CTRL m d with coll := t.coll, cyc := t.cyc } ∧
        t.coll = { s.coll with peak := if goes g TRK.CTRL_PEAK_CLR = true then 0 else s.coll.peak,
                               armed := s.coll.armed || goes g TRK.CTRL_ARM }) ∧
    (DirectWrite s c TRK.CTRL m d → goes g TRK.CTRL_CNT_CLR = true →
      ∃ t : State, exec (.cntClr c TRK.CTRL m d) s = .next t.settle ∧ t.reg TRK.CNT = 0 ∧ t = { s with regs := t.regs, cyc := t.cyc, coll := t.coll }) ∧
    (∀ k, k < 24 → DirectWrite s c (TRK.IN_DELAY k) m d →
      let u := s.storeWord (TRK.IN_DELAY k) m d
      ∃ t : State, exec (.inDelayWrite c k m d) s = .next t.settle ∧ t = { u with trk := t.trk, cyc := t.cyc } ∧
        (∀ j, j ≠ k → t.trkAt j = s.trkAt j) ∧
        t.trkAt k = { s.trkAt k with delayNext := toSigned 16 (u.reg (TRK.IN_DELAY k)), delayAt := s.now }) ∧
    (∀ q, q < 6 → DirectWrite s c (DOM.SEL_CTRL q) m d → goes g (DOM.SEL_CTRL_CNT_CLR q) = false →
      let u := s.storeWord (DOM.SEL_CTRL q) m d
      let x := s.domAt q
      let kept := domPref u q = domPref s q ∧ u.fld (DOM.SEL_CTRL_PREF_SLOT q) = s.fld (DOM.SEL_CTRL_PREF_SLOT q)
      (goes g (DOM.SEL_CTRL_BO_RESET q) = true → domMode u q = domMode s q → kept →
        ∃ t : State, exec (.boReset c q m d) s = .next t.settle ∧ t = { u with dom := t.dom, cyc := t.cyc } ∧
          (∀ j, j ≠ q → t.domAt j = s.domAt j) ∧
          t.domAt q = if x.boF = 0 then x else { x with boSlew := true, boReset := true }) ∧
      (goes g (DOM.SEL_CTRL_BO_RESET q) = false → domMode u q ≠ domMode s q → kept →
        ∃ t : State, exec (.modeWrite c q m d) s = .next t.settle ∧ t = { u with dom := t.dom, cyc := t.cyc } ∧
          (∀ j, j ≠ q → t.domAt j = s.domAt j) ∧
          t.domAt q = if 2 ≤ domMode u q then { x with manPend := false, manReq := false } else x) ∧
      (goes g (DOM.SEL_CTRL_BO_RESET q) = false → domMode u q = domMode s q →
        u.fld (DOM.SEL_CTRL_PREF_SLOT q) ≠ s.fld (DOM.SEL_CTRL_PREF_SLOT q) →
        ∃ t : State, exec (.manualSelection c q m d) s = .next t.settle ∧ t = { u with dom := t.dom, cyc := t.cyc } ∧
          (∀ j, j ≠ q → t.domAt j = s.domAt j) ∧
          (2 ≤ domMode u q → t.domAt q = x) ∧
          (domMode u q < 2 → domPref u q = none ∨ domPref u q = x.sel →
            t.domAt q = { x with manPend := false, manReq := false }) ∧
          (∀ p, domMode u q < 2 → domPref u q = some p → x.sel ≠ some p →
            (isCand u q p && (candOf u q p).usable) = (t.domAt q).manReq ∧ (t.domAt q).manPend = !(t.domAt q).manReq ∧
            t.domAt q = { x with manPend := (t.domAt q).manPend, manReq := (t.domAt q).manReq }))) ∧
    (∀ q i, q < 6 → i < 8 → DirectWrite s c (DOM.SLOT q i) m d →
      let u := s.storeWord (DOM.SLOT q i) m d
      let x := s.domAt q
      ∃ t : State, exec (.slotWrite c q i m d) s = .next t.settle ∧ t = { u with dom := t.dom, cyc := t.cyc } ∧
        (∀ j, j ≠ q → t.domAt j = s.domAt j) ∧
        (x.sel = some i → slotEn u q i = false ∨ slotRef u q i ≠ x.selRef → t.domAt q = { x with resel := true }) ∧
        (x.sel ≠ some i ∨ (slotEn u q i = true ∧ slotRef u q i = x.selRef) → t.domAt q = x)) ∧
    (∀ k, k < 4 → DirectWrite s c (TK.TK_CTRL k) m d → goes g (TK.TK_CTRL_CNT_CLR k) = false →
      goes g (TK.TK_CTRL_CAPTURE k) = false →
      let u := s.storeWord (TK.TK_CTRL k) m d
      let x := s.tkAt k
      let en := hits m (TK.TK_CTRL_EN k)
      let rearm := goes g (TK.TK_CTRL_REARM k)
      let load := goes g (TK.TK_CTRL_LOAD k)
      let others := fun t : State => ∀ j, j ≠ k → t.tkAt j = s.tkAt j
      (tkSrc u k = tkSrc s k → en = true → rearm = false → load = false → u.bit (TK.TK_CTRL_EN k) = true →
        ∃ t : State, exec (.tkEnable c k m d) s = .next t.settle ∧ t = { u with tk := t.tk, cyc := t.cyc } ∧ others t ∧
          (x.st ≠ .stopped ∨ s.pwr.st = .boot → t.tkAt k = x) ∧
          (x.st = .stopped → s.pwr.st ≠ .boot → 6 ≤ u.fld (TK.TK_CTRL_DOM k) → t.tkAt k = { x with enErr := true }) ∧
          (x.st = .stopped → s.pwr.st ≠ .boot → u.fld (TK.TK_CTRL_DOM k) < 6 →
            (t.tkAt k).st = .free ∧ (t.tkAt k).budget = true ∧ (t.tkAt k).enErr = false ∧
            (t.tkAt k).dom = u.fld (TK.TK_CTRL_DOM k) ∧ (t.tkAt k).time = x.time)) ∧
      (tkSrc u k = tkSrc s k → en = true → rearm = false → load = false → u.bit (TK.TK_CTRL_EN k) = false →
        ∃ t : State, exec (.tkDisable c k m d) s = .next t.settle ∧ t = { u with tk := t.tk, cyc := t.cyc } ∧ others t ∧
          (t.tkAt k).st = .stopped ∧ (t.tkAt k).integF = 0 ∧ (t.tkAt k).adjF = 0 ∧ (t.tkAt k).time = x.time) ∧
      (tkSrc u k = tkSrc s k → en = false → rearm = true → load = false →
        ∃ t : State, exec (.tkRearm c k m d) s = .next t.settle ∧ t = { u with tk := t.tk, cyc := t.cyc } ∧ others t ∧
          (x.st = .stopped → t.tkAt k = x) ∧ (x.st ≠ .stopped → (t.tkAt k).budget = true) ∧
          (t.tkAt k).time = x.time) ∧
      (tkSrc u k = tkSrc s k → en = false → rearm = false → load = true →
        let ns := s.effWide (TK.LD_NS k) 2
        ∃ t : State, exec (.tkLoad c k m d) s = .next t.settle ∧
          t = { u with tk := t.tk, pg := t.pg, regs := t.regs, cyc := t.cyc, evq := t.evq } ∧ others t ∧
          ((x.st = .stopped ∨ x.st = .free) ∧ ns < 1000000000 →
            (t.tkAt k).time = (s.effWide (TK.LD_SEC k) 3 * 1000000000 + ns : Nat) * 2 ^ 80 ∧ (t.tkAt k).st = x.st ∧
            t.evq = s.evq ++ [⟨92 + 2 * k, .info, true, false, 2, x.st.code * 8192 + x.st.code * 1024, 0, []⟩]) ∧
          (¬ ((x.st = .stopped ∨ x.st = .free) ∧ ns < 1000000000) →
            t.tk = s.tk ∧ t.evq = s.evq ∧ t.bit (TK.TK_EVT_LOAD_REFUSED k) = true)) ∧
      (tkSrc u k ≠ tkSrc s k → tkSrc u k = 0 → en = false → rearm = false → load = false →
        ∃ t : State, exec (.tkSrcWrite c k m d) s = .next t.settle ∧ t = { u with tk := t.tk, cyc := t.cyc } ∧ others t ∧
          (t.tkAt k).st = (if x.st = .stopped then .stopped else .free) ∧ (t.tkAt k).time = x.time)) ∧
    (∀ k, k < 4 → DirectWrite s c (TK.INC_FRAC k + 2) m d →
      let u := s.storeWord (TK.INC_FRAC k + 2) m d
      ∃ t : State, exec (.tkIncrementWrite c k m d) s = .next t.settle ∧ t = { u with tk := t.tk, cyc := t.cyc } ∧
        (∀ j, j ≠ k → t.tkAt j = s.tkAt j) ∧ t.tkAt k = { s.tkAt k with
          incNew := some (u.fld (TK.INC_NS_INC_NS k) * 2 ^ 40 + u.wide (TK.INC_FRAC k) 3 % 2 ^ 40) })

/-- Write rows of the synthesisers, the outputs and the pulse generators (R193, R205, R211, R214, R234, R238, R240, R255, R257,
R258, R264, R558). -/
def Obligations.OutputWrites : Prop :=
  ∀ (s : State) (c : Ctx) (m d : Nat),
    let g := Nat.land m d
    (∀ n, n < 40 → DirectWrite s c (OUT.CTRL n) m d → hits m (OUT.CTRL_EN n) = true → goes g (OUT.CTRL_CNT_CLR n) = false →
      let u := s.storeWord (OUT.CTRL n) m d
      let x := s.outAt n
      ∃ t : State, exec (.outputEnable c n m d) s = .next t.settle ∧ exec (.outputDisable c n m d) s = .next t.settle ∧
        t = { u with outs := t.outs, regs := t.regs, cyc := t.cyc } ∧ (∀ j, j ≠ n → t.outAt j = s.outAt j) ∧
        (x.drvFault = false ∨ x.st ≠ .off ∨ outEn u n = false → t.regs = u.regs) ∧
        (∀ a, a ≠ OUT.GATE_CNT n → t.reg a = u.reg a) ∧
        (outEn u n = false → (t.outAt n).st = .off ∧ (t.outAt n).cfgErr = false) ∧
        (outEn u n = true → x.st ≠ .off → t.outAt n = x) ∧
        (outEn u n = true → x.st = .off → outValid u n = false → t.outAt n = { x with cfgErr := true }) ∧
        (outEn u n = true → x.st = .off → outValid u n = true →
          (s.pwr.st ≠ .run ∨ s.pwr.holdup = true → t.outAt n = { x with cfgErr := false }) ∧
          (s.pwr.st = .run → s.pwr.holdup = false →
            (isPulseOut u n = true ∨ x.div ≠ 0 → (t.outAt n).cfgErr = false ∧
              (t.outAt n).st = if treeTesting u n = true then .test else if x.drvFault = true then .safe else .aligning) ∧
            (isPulseOut u n = false → x.div = 0 → t.outAt n = x)))) ∧
    (∀ n, n < 40 → DirectWrite s c (OUT.STEP n) 65535 d →
      let u := s.storeWord (OUT.STEP n) 65535 d
      ∃ t : State, exec (.stepWrite c n 65535 d) s = .next t.settle ∧ t = { u with outs := t.outs, regs := t.regs, cyc := t.cyc } ∧
        (∀ j, j ≠ n → t.outAt j = s.outAt j) ∧ (∀ b, b ≠ OUT.STEP n → t.reg b = u.reg b) ∧
        t.outAt n = if isPulseOut u n = true then s.outAt n else { s.outAt n with stepPend := toSigned 16 d }) ∧
    (∀ n, n < 40 → DirectWrite s c (OUT.DIV n + 1) m d →
      let u := s.storeWord (OUT.DIV n + 1) m d
      ∃ t : State, exec (.divWrite c n m d) s = .next t.settle ∧ t = { s with regs := t.regs, cyc := t.cyc, eff := t.eff } ∧
        (u.wide (OUT.DIV n) 2 = 1 → t.eff = s.eff ∧ t.wide (OUT.DIV n) 2 = s.effWide (OUT.DIV n) 2 ∧
          t.bit (OUT.EVT_DIV_REFUSED n) = true) ∧
        (u.wide (OUT.DIV n) 2 ≠ 1 → t.regs = u.regs ∧ t.effWide (OUT.DIV n) 2 = u.wide (OUT.DIV n) 2)) ∧
    (∀ n, n < 40 → DirectWrite s c (OUT.EVT n) m d → goes g (OUT.EVT_DRV_FAULT n) = true →
      ∃ t : State, exec (.driverProbe c n m d) s = .next t.settle ∧ t = { s.storeWord (OUT.EVT n) m d with outs := t.outs, cyc := t.cyc } ∧
        (∀ j, j ≠ n → t.outAt j = s.outAt j) ∧
        t.outAt n = if (s.outAt n).drvFault = true then { s.outAt n with probing := true } else s.outAt n) ∧
    (∀ p, p < 8 → DirectWrite s c (PG.PG_CTRL p) m d →
      let u := s.storeWord (PG.PG_CTRL p) m d
      let x := s.pgAt p
      (hits m (PG.PG_CTRL_EN p) = true → goes g (PG.PG_CTRL_ALIGN p) = false →
        ∃ t : State, exec (.pgEnable c p m d) s = .next t.settle ∧ t = { u with pg := t.pg, cyc := t.cyc } ∧
          (∀ j, j ≠ p → t.pgAt j = s.pgAt j) ∧
          (u.bit (PG.PG_CTRL_EN p) = false → t.pgAt p = { x with st := .idle, cfgErr := false }) ∧
          (u.bit (PG.PG_CTRL_EN p) = true → x.st ≠ .idle ∨ s.pwr.st = .boot → t.pgAt p = x) ∧
          (u.bit (PG.PG_CTRL_EN p) = true → x.st = .idle → s.pwr.st ≠ .boot →
            (periodOk (pgNum s p) (pgDen s p) = true → (t.pgAt p).st = .running ∧ (t.pgAt p).cfgErr = false ∧
              (t.pgAt p).num = pgNum s p ∧ (t.pgAt p).den = pgDen s p) ∧
            (periodOk (pgNum s p) (pgDen s p) = false → t.pgAt p = { x with cfgErr := true }))) ∧
      (hits m (PG.PG_CTRL_EN p) = false → goes g (PG.PG_CTRL_ALIGN p) = true →
        let i := u.fld (PG.PG_CTRL_ALIGN_SRC p)
        let ok := srcEn u i = true ∧ srcTk u i = pgTk u p ∧ x.st ≠ .idle
        ∃ t : State, exec (.pgAlign c p m d) s = .next t.settle ∧ t = { u with pg := t.pg, regs := t.regs, cyc := t.cyc } ∧
          (∀ j, j ≠ p → t.pgAt j = s.pgAt j) ∧
          (ok → t.pgAt p = { x with st := .armed } ∧ t.regs = u.regs) ∧
          (¬ ok → t.pgAt p = x ∧ t.bit (PG.PG_EVT_ALIGN_ERR p) = true))) ∧
    (∀ p, p < 8 → DirectWrite s c (PG.OFFSET p + 2) m d →
      let u := s.storeWord (PG.OFFSET p + 2) m d
      ∃ t : State, exec (.pgOffsetWrite c p m d) s = .next t.settle ∧ t = { u with pg := t.pg, cyc := t.cyc } ∧
        (∀ j, j ≠ p → t.pgAt j = s.pgAt j) ∧
        t.pgAt p = { s.pgAt p with ofs := toSigned 40 (u.wide (PG.OFFSET p) 3), after := (s.tkAt (pgTk s p)).time }) ∧
    (∀ k, k < 7 → DirectWrite s c (SYN.CTRL k) m d → goes g (SYN.CTRL_CNT_CLR k) = false →
      let u := s.storeWord (SYN.CTRL k) m d
      let x := s.synAt k
      let en := hits m (SYN.CTRL_EN k)
      let upd := goes g (SYN.CTRL_UPDATE k)
      let recal := goes g (SYN.CTRL_RECAL k)
      (en = true → upd = false → recal = false → u.bit (SYN.CTRL_EN k) = false →
        ∃ t : State, exec (.synDisable c k m d) s = .next t.settle ∧
          t = { u with syn := t.syn, outs := t.outs, dom := t.dom, regs := t.regs, cyc := t.cyc, evq := t.evq } ∧
          (∀ j, j ≠ k → t.synAt j = s.synAt j) ∧ (t.synAt k).st = .off ∧
          (x.st ≠ .off → (t.synAt k).cur = none ∧ (t.synAt k).strobe = false)) ∧
      (en = true → upd = false → recal = false → u.bit (SYN.CTRL_EN k) = true → x.st = .off → synPowered u k = true →
        bandCount u k = 0 →
        ∃ t : State, exec (.synEnable c k m d) s = .next t.settle ∧ (t.synAt k).st = .off ∧ (t.synAt k).btEmpty = true ∧
          ⟨75 + 2 * k, .warn, true, false, 2, 0, 0, []⟩ ∈ t.evq) ∧
      (en = false → upd = true → recal = false → x.st ≠ .off →
        ∃ t : State, exec (.update c k m d) s = .next t.settle ∧ t = { u with syn := t.syn, cyc := t.cyc } ∧
          (∀ j, j ≠ k → t.synAt j = s.synAt j) ∧
          t.synAt k = if x.st = .locked ∨ x.st = .glide then { x with update := true } else { x with strobe := true }) ∧
      (en = false → upd = false → recal = true → synLocked s k = false →
        ∃ t : State, exec (.recal c k m d) s = .next t.settle ∧ t = { u with cyc := t.cyc })) ∧
    (∀ k, k < 7 → DirectWrite s c (SYN.BT_DATA2 k) m d →
      let u := s.storeWord (SYN.BT_DATA2 k) m d
      ∃ t : State, exec (.bandTableStore c k m d) s = .next t.settle ∧ t = { u with syn := t.syn, cyc := t.cyc } ∧
        (∀ j, j ≠ k → t.synAt j = s.synAt j) ∧
        t.synAt k = { s.synAt k with table := vup (s.synAt k).table (u.fld (SYN.BT_CTRL_INDEX k)) fun _ =>
          { code := u.fld (SYN.BT_DATA1_CODE k),
            fcal := u.reg (SYN.BT_DATA0 k) + u.fld (SYN.BT_DATA1_FCAL_23_16 k) * 65536,
            slope := toSigned 16 (u.reg (SYN.BT_DATA2 k)), written := true } })

/-- Write rows of the ports, the keys, capture, the rings and the cascade (R292, R311, R322, R332, R338, R342, R344, R347, R371,
R377). -/
def Obligations.NetworkWrites : Prop :=
  ∀ (s : State) (c : Ctx) (m d : Nat),
    let g := Nat.land m d
    (∀ n, n < 8 → DirectWrite s c (ETH.PORT_CTRL n) m d → goes g (ETH.PORT_CTRL_CNT_CLR n) = false →
      let u := s.storeWord (ETH.PORT_CTRL n) m d
      let x := s.ethAt n
      let restart := goes g (ETH.PORT_CTRL_PD_RESTART n)
      let sleep := goes g (ETH.PORT_CTRL_SLEEP_REQ n)
      let wake := goes g (ETH.PORT_CTRL_WAKE_REQ n)
      let tc10 := u.bit (ETH.ETH_CFG_TC10_EN n)
      ∃ t : State, exec (.pdRestart c n m d) s = .next t.settle ∧ exec (.tc10SleepReq c n m d) s = .next t.settle ∧
        exec (.tc10WakeReq c n m d) s = .next t.settle ∧ t = { u with eth := t.eth, cyc := t.cyc } ∧
        (∀ j, j ≠ n → t.ethAt j = s.ethAt j) ∧
        (restart = true → (t.ethAt n).mpds = [] ∧ (t.ethAt n).pdPairs = []) ∧
        (restart = false → (t.ethAt n).mpds = x.mpds ∧ (t.ethAt n).pdPairs = x.pdPairs) ∧
        (sleep = true → wake = false → (t.ethAt n).tc10 = if tc10 = true ∧ x.link = true then 1 else x.tc10) ∧
        (sleep = false → wake = true → (t.ethAt n).tc10 = if tc10 = true ∧ x.tc10 = 2 then 3 else x.tc10) ∧
        (sleep = false → wake = false → (t.ethAt n).tc10 = x.tc10)) ∧
    (DirectWrite s c PTP.KEY_DATA 65535 d →
      let u := s.storeWord PTP.KEY_DATA 65535 d
      ∃ t : State, exec (.keyDataWrite c 65535 d) s = .next t.settle ∧ t = { u with ptpc := t.ptpc, regs := t.regs, cyc := t.cyc } ∧
        (∀ b, b ≠ PTP.KEY_DATA → t.reg b = u.reg b) ∧
        t.ptpc = if s.ptpc.keyBuf.length < 16 then { s.ptpc with keyBuf := s.ptpc.keyBuf ++ [d] } else s.ptpc) ∧
    (DirectWrite s c PTP.KEY_CTRL m d →
      let k := (s.storeWord PTP.KEY_CTRL m d).fld PTP.KEY_CTRL_SLOT
      let commit := goes g PTP.KEY_CTRL_COMMIT
      let erase := goes g PTP.KEY_CTRL_ERASE
      ∃ t : State, exec (.keyCommit c m d) s = .next t.settle ∧ exec (.keyErase c m d) s = .next t.settle ∧
        exec (.keySlotSelect c m d) s = .next t.settle ∧
        t.ptpc.keyBuf = (if hits m PTP.KEY_CTRL_SLOT = true then [] else s.ptpc.keyBuf) ∧
        (∀ j, j ≠ k → vat t.mem.keys j = vat s.mem.keys j) ∧
        (erase = true → vat t.mem.keys k = none) ∧
        (erase = false → commit = true → s.ptpc.keyBuf.length = 16 →
          vat t.mem.keys k = some (s.ptpc.keyBuf.foldl (fun a w => a * 65536 + w) 0)) ∧
        (erase = false → commit = false ∨ s.ptpc.keyBuf.length ≠ 16 → t.mem.keys = s.mem.keys)) ∧
    (∀ k, k < 16 → DirectWrite s c (RING.RCFG k) m d → hits m (RING.RCFG_SIZE k) = false →
      hits m (RING.RCFG_BASE k) = false →
      let u := s.storeWord (RING.RCFG k) m d
      let flush := goes g (RING.RCFG_FLUSH k)
      let clr := goes g (RING.RCFG_CNT_CLR k)
      ∃ t : State, exec (.ringFlush c k m d) s = .next t.settle ∧ exec (.ringCntClr c k m d) s = .next t.settle ∧
        t = { u with cap := t.cap, regs := t.regs, cyc := t.cyc, evq := t.evq } ∧ (∀ j, j ≠ k → ringAt t j = ringAt s j) ∧
        t.cap.src = s.cap.src ∧ t.cap.buf = s.cap.buf ∧
        (flush = true → (ringAt t k).recs = []) ∧
        (flush = true → clr = false →
          (ringAt t k).flushed = ((ringAt s k).flushed + (ringAt s k).used) % 2 ^ 32 ∧
          (ringAt t k).written = (ringAt s k).written ∧ (ringAt t k).taken = (ringAt s k).taken) ∧
        (flush = false → (ringAt t k).recs = (ringAt s k).recs) ∧
        (clr = true → (ringAt t k).written = (ringAt t k).used ∧ (ringAt t k).taken = 0 ∧ (ringAt t k).flushed = 0)) ∧
    (∀ k, k < 16 → DirectWrite s c (RING.RD_CTRL k) m d → goes g (RING.RD_CTRL_RD_RESTART k) = true →
      ∃ t : State, exec (.ringReadRestart c k m d) s = .next t.settle ∧
        t = { s.storeWord (RING.RD_CTRL k) m d with cap := t.cap, cyc := t.cyc } ∧
        t.cap = { s.cap with rd := vup s.cap.rd (ctxIdx c) fun v => vup v k fun _ => ⟨0, []⟩ }) ∧
    (DirectWrite s c CAP.CAP_CTRL m d →
      let clr := goes g CAP.CAP_CTRL_CNT_CLR
      let seq := goes g CAP.CAP_CTRL_SEQ_CLR
      ∃ t : State, exec (.captureCntClr c m d) s = .next t.settle ∧ exec (.seqClr c m d) s = .next t.settle ∧
        t = { s.storeWord CAP.CAP_CTRL m d with cap := t.cap, cyc := t.cyc } ∧
        (∀ i, i < 50 → let x := capSrc s i; let y := capSrc t i
          y = { x with seq := if seq = true then 0 else x.seq,
                       captured := if clr = true then 0 else x.captured,
                       delivered := if clr = true then 0 else x.delivered,
                       overrun := if clr = true then 0 else x.overrun,
                       dropDis := if clr = true then 0 else x.dropDis,
                       dropInt := if clr = true then 0 else x.dropInt }) ∧
        t.cap.buf.map (·.words) = s.cap.buf.map (·.words) ∧
        (goes g CAP.CAP_CTRL_PEAK_CLR = true → t.cap.peak = 0) ∧
        (goes g CAP.CAP_CTRL_PEAK_CLR = false → t.cap.peak = s.cap.peak ∧ t.cap.ring = s.cap.ring)) ∧
    (DirectWrite s c CAS.CAS_CTRL m d → goes g CAS.CAS_CTRL_CNT_CLR = false →
      let u := s.storeWord CAS.CAS_CTRL m d
      (goes g CAS.CAS_CTRL_YIELD = true → goes g CAS.CAS_CTRL_RECAL = false →
        ∃ t : State, exec (.casYield c m d) s = .next t.settle ∧
          (s.cas.role = 3 → t.cas.role = 2 ∧ t.cas.pos = 1 ∧ t.cas.conflict = false) ∧
          (s.cas.role ≠ 3 → t = { u with cyc := t.cyc })) ∧
      (goes g CAS.CAS_CTRL_YIELD = false → goes g CAS.CAS_CTRL_RECAL = true →
        ∃ t : State, exec (.casRecal c m d) s = .next t.settle ∧ t = { u with cas := t.cas, regs := t.regs, cyc := t.cyc, evq := t.evq } ∧
          t.cas = { s.cas with ds := [], calValid := false } ∧
          t.evq = if s.cas.calValid = true then s.evq ++ [⟨28, .warn, true, false, 3, s.cas.pos % 8 * 8192, 0, []⟩]
            else s.evq))

/-- Write rows of fault classification, self-test, the life cycle, storage and power (R173, R440, R443, R444, R448, R459, R464,
R479, R492, R507, R514 to R517). -/
def Obligations.SystemWrites : Prop :=
  ∀ (s : State) (c : Ctx) (m d : Nat),
    let g := Nat.land m d
    (∀ k, k < 128 → DirectWrite s c (clsAddr k) m d →
      let u := s.storeWord (clsAddr k) m d
      ∃ t : State, exec (.evtClassWrite c k 0 m d) s = .next t.settle ∧ exec (.forceInject c k m d) s = .next t.settle ∧
        t = { u with flt := t.flt, evq := t.evq, cyc := t.cyc } ∧ (∀ j, j ≠ k → t.fltAt j = s.fltAt j) ∧
        t.fltAt k = { s.fltAt k with warns := if clsThresh u k = clsThresh s k then (s.fltAt k).warns else [] } ∧
        t.evq = if bitsOf g 2 2 = 1 then s.evq ++ [⟨k, .warn, false, true, 0, restNow u k, 0, []⟩] else s.evq) ∧
    (∀ k, k < 128 → DirectWrite s c (clsAddr k + 1) m d →
      let u := s.storeWord (clsAddr k + 1) m d
      ∃ t : State, exec (.evtClassWrite c k 1 m d) s = .next t.settle ∧ t = { u with flt := t.flt, cyc := t.cyc } ∧
        (∀ j, j ≠ k → t.fltAt j = s.fltAt j) ∧
        t.fltAt k = { s.fltAt k with warns := if clsWindow u k = clsWindow s k then (s.fltAt k).warns else [] }) ∧
    (DirectWrite s c BIST.BIST_CTRL m d → goes g BIST.BIST_CTRL_CNT_CLR = false → goes g BIST.BIST_CTRL_ABORT = false →
      goes g BIST.BIST_CTRL_RUN = true → s.bist.queued.isSome = true →
      ∃ t : State, exec (.bistRequest c m d) s = .next t.settle ∧ t = { s with regs := t.regs, cyc := t.cyc } ∧
        t.bit BIST.BIST_EVT_REFUSED = true) ∧
    (DirectWrite s c SYS.LC_CTRL m d →
      let u := s.storeWord SYS.LC_CTRL m d
      let go := goes g SYS.LC_CTRL_GO
      let close := goes g SYS.LC_CTRL_CLOSE
      let key := goes g SYS.LC_CTRL_KEY_COMMIT
      let req := goes g SYS.LC_CTRL_UNSEAL_REQ
      let ugo := goes g SYS.LC_CTRL_UNSEAL_GO
      let q := LcState.ofCode (u.fld SYS.LC_CTRL_TARGET)
      let sure := s.reg SYS.LC_CONFIRM = 0xA500 + u.fld SYS.LC_CTRL_TARGET
      (go = true → close = false → key = false → req = false → ugo = false → s.lc.busy = none →
        (¬ sure ∨ (∀ p, q = some p → lcMoves (lcState s) p = false) →
          ∃ t : State, exec (.lcGo c m d) s = .next t.settle ∧ t = { s with regs := t.regs, cyc := t.cyc } ∧ t.reg SYS.LC_CONFIRM = 0 ∧
            t.bit SYS.LC_EVT_BAD_REQ = true) ∧
        (sure → q = some .sealed → lcState s = .field → (unitAt s 12).unusable = false →
          ∃ t : State, exec (.lcGo c m d) s = .next t.settle ∧ t.reg SYS.LC_CONFIRM = 0 ∧ t.lc.busy = none ∧
            t.lc.sealing = some (s.now + 60000000000) ∧ (∀ i, vat t.mem.keys i = none) ∧ t.mem.half = (none, none) ∧
            t.nvs.shadow = none)) ∧
      (go = true → close = false → key = false → req = false → ugo = false → s.lc.busy ≠ none →
        ∃ t : State, exec (.lcGo c m d) s = .next t.settle ∧ t = { u with cyc := t.cyc }) ∧
      (go = false → close = true → key = false → req = false → ugo = false → s.lc.sealing = none ∨ keyOk s = false →
        ∃ t : State, exec (.sealClose c m d) s = .next t.settle ∧ t = { s with regs := t.regs, cyc := t.cyc } ∧
          t.bit SYS.LC_EVT_BAD_REQ = true) ∧
      (go = false → close = false → key = true → req = false → ugo = false →
        (s.lc.sealing = none → ∃ t : State, exec (.unsealKeyCommit c m d) s = .next t.settle ∧ t = { u with cyc := t.cyc }) ∧
        (s.lc.sealing ≠ none →
          ∃ t : State, exec (.unsealKeyCommit c m d) s = .next t.settle ∧ t = { s with regs := t.regs, cyc := t.cyc, mem := t.mem, nvs := t.nvs } ∧
            (∀ i, i < 8 → t.reg (SYS.LC_KEY i) = 0) ∧
            (u.bit SYS.LC_CTRL_KEY_HALF = true → t.mem.half = (s.mem.half.1, some (wordsBE16 u (SYS.LC_KEY 0)))) ∧
            (u.bit SYS.LC_CTRL_KEY_HALF = false → t.mem.half = (some (wordsBE16 u (SYS.LC_KEY 0)), s.mem.half.2)))) ∧
      (go = false → close = false → key = false → req = true → ugo = false →
        (∀ x, s.lc.nonceAt = some x → s.now < x + 1000000000 → ∃ t : State, exec (.unsealReq c m d) s = .next t.settle ∧ t = { u with cyc := t.cyc }) ∧
        ((∀ x, s.lc.nonceAt = some x → x + 1000000000 ≤ s.now) →
          ∃ t : State, exec (.unsealReq c m d) s = .next t.settle ∧ t = { u with lc := t.lc, free := t.free, cyc := t.cyc } ∧
            t.lc = { s.lc with nonce := t.lc.nonce, nonceOk := true, nonceAt := some s.now })) ∧
      (go = false → close = false → key = false → req = false → ugo = true → lcState s ≠ .sealed →
        ∃ t : State, exec (.unsealGo c m d) s = .next t.settle ∧ t = { s with regs := t.regs, cyc := t.cyc, lc := { s.lc with nonceOk := false } } ∧
          t.bit SYS.LC_EVT_BAD_REQ = true)) ∧
    (DirectWrite s c MEM.WIPE_CTRL m d → goes g MEM.WIPE_CTRL_WIPE = true →
      ∃ t : State, exec (.wipe c m d) s = .next t.settle ∧ (∀ i, vat t.mem.keys i = none) ∧ t.mem.half = (none, none) ∧
        t.mem.wipe = 3 ∧ t.nvs.shadow = none) ∧
    (DirectWrite s c CFG.CFG_CTRL m d → goes g CFG.CFG_CTRL_CNT_CLR = false → goes g CFG.CFG_CTRL_STORE = true →
      let u := s.storeWord CFG.CFG_CTRL m d
      (storing s = true → ∃ t : State, exec (.store c m d) s = .next t.settle ∧ t = { u with cyc := t.cyc }) ∧
      (storing s = false → lcState s = .ended ∨ s.pwr.holdup = true ∨ s.cfg.loaded = false →
        ∃ t : State, exec (.store c m d) s = .next t.settle ∧ t = { s with regs := t.regs, cyc := t.cyc, nvs := t.nvs } ∧
          t.nvs = { s.nvs with
            storeRes := if lcState s = .ended then 6 else if s.pwr.holdup = true then 5 else 4 })) ∧
    (DirectWrite s c NVS.NVS_CTRL m d → goes g NVS.NVS_CTRL_CNT_CLR = false → goes g NVS.NVS_CTRL_PAGE_READ = false →
      goes g NVS.NVS_CTRL_SCRUB_NOW = false →
      let u := s.storeWord NVS.NVS_CTRL m d
      let p := s.fld NVS.PAGE_SEL_PAGE
      (goes g NVS.NVS_CTRL_PAGE_WRITE = true → goes g NVS.NVS_CTRL_CNT_INC = false → s.nvs.op = .idle →
        ∃ t : State, exec (.pageWrite c m d) s = .next t.settle ∧ t = { u with nvs := t.nvs, regs := t.regs, cyc := t.cyc, evq := t.evq } ∧
          (s.pwr.holdup = true → t.nvs = { s.nvs with pageRes := 5 }) ∧
          (s.pwr.holdup = false → p < 19 ∨ 191 < p → t.nvs = { s.nvs with pageRes := 3 }) ∧
          (s.pwr.holdup = false → 19 ≤ p → p ≤ 191 → protOf s p = true →
            t.nvs = { s.nvs with pageRes := 2 } ∧ t.bit NVS.NVS_EVT_PROT_REFUSED = true) ∧
          (s.pwr.holdup = false → 19 ≤ p → p ≤ 191 → protOf s p = false →
            t.nvs = { s.nvs with op := .page p s.nvs.buf })) ∧
      (goes g NVS.NVS_CTRL_PAGE_WRITE = false → goes g NVS.NVS_CTRL_CNT_INC = true →
        ∃ t : State, exec (.cntInc c m d) s = .next t.settle ∧ t = { u with nvs := t.nvs, cyc := t.cyc } ∧
          (s.nvs.userInc.isSome = true ∨ s.pwr.holdup = true → t.nvs = s.nvs) ∧
          (s.nvs.userInc = none → s.pwr.holdup = false →
            t.nvs = { s.nvs with userInc := some (12 + u.fld NVS.NVS_CTRL_USR_SEL),
                                 incs := s.nvs.incs ++ [12 + u.fld NVS.NVS_CTRL_USR_SEL] }))) ∧
    (DirectWrite s c NVS.PROTECT m d → hits m NVS.PROTECT_BP = true →
      let u := s.storeWord NVS.PROTECT m d
      ∃ t : State, exec (.protectWrite c m d) s = .next t.settle ∧ t = { u with nvs := t.nvs, cyc := t.cyc } ∧
        t.nvs = if s.pwr.holdup = true then s.nvs else { s.nvs with bp := u.fld NVS.PROTECT_BP, bpWritten := true }) ∧
    (DirectWrite s c PWR.PS_CTRL m d → goes g PWR.PS_CTRL_GO = true →
      let u := s.storeWord PWR.PS_CTRL m d
      ∃ t : State, exec (.powerGo c m d) s = .next t.settle ∧
        (s.pwr.st = pTarget u → s.pwr.st.rung.isSome = true →
          t = { u with pwr := { s.pwr with deferred := false }, cyc := t.cyc }) ∧
        (s.pwr.st ≠ pTarget u → s.bist.done = false → t = { u with pwr := { s.pwr with deferred := true }, cyc := t.cyc })) ∧
    (DirectWrite s c LOA.COMP_CTRL m d → goes g LOA.COMP_CTRL_CNT_CLR = false →
      let bank := if goes g LOA.COMP_CTRL_LOAD_FACTORY = true then 1 else 2
      goes g LOA.COMP_CTRL_LOAD_FACTORY = true ∨ goes g LOA.COMP_CTRL_APPLY_STAGED = true →
      s.bit (LOA.BANK_STAT_VALID bank) = true →
      ∃ t : State, exec (.loadFactory c m d) s = .next t.settle ∧ exec (.applyStaged c m d) s = .next t.settle ∧
        t = { s with regs := t.regs, cyc := t.cyc, evq := t.evq } ∧
        (∀ i, i < 32 → t.reg (0x0720 + i) = if bank = 2 then s.eff1 (0x0760 + i) else s.reg (0x0740 + i)) ∧
        t.evq = s.evq ++ [⟨18, .info, true, false, 0, s.loa.oven.code * 16384 + s.loa.expired, 0, []⟩]) ∧
    (DirectWrite s c SYS.BRZ_CTRL m d → goes g SYS.BRZ_CTRL_STOP = true →
      ∃ t : State, exec (.breezeStop c m d) s = .next t.settle ∧ t = { s.storeWord SYS.BRZ_CTRL m d with pwr := t.pwr, cyc := t.cyc } ∧
        t.pwr = { s.pwr with brz := s.pwr.brz.map fun b => b.stop s.pwr.brzT } ∧
        ∀ b : Breeze, ∀ x : Nat, (b.stop x).active = true → (b.stop x).stopping = true)
end

