-- ==== Sys2Proof/Laws/Frames.lean ====
section
/-! SUPPORT. What settling leaves as it was, said once for each of its parts. -/
namespace Sys2Proof.Machine

/-- The blocks that settling never changes while no unit is under test. -/
def keptPart (s : State) :=
  (s.pending, s.mtb, s.shadows, s.eff, s.tod, s.coll, s.good, s.loa, s.mon, s.trk, s.pg, s.tk, s.eth, s.ptp, s.ptpc, s.cfg,
    s.thm, s.lc, s.mem, s.seq, s.bist, s.clockStop, s.free)

theorem kept_setReg (s : State) (a n : Nat) : keptPart (s.setReg a n) = keptPart s := rfl
theorem kept_flag (s : State) (f : Field) : keptPart (s.flag f) = keptPart s := rfl
theorem kept_bump (s : State) (a k : Nat) : keptPart (s.bump a k) = keptPart s := rfl
theorem kept_raise (s : State) (src : Nat) (sev : Severity) (c r w : Nat) (o : List Nat) :
    keptPart (s.raise src sev c r w o) = keptPart s := rfl

theorem kept_accUp (s : State) (f : Access → Access) : keptPart (s.accUp f) = keptPart s := rfl
theorem kept_txnUp (s : State) (c : Ctx) (f : TxnCtx → TxnCtx) : keptPart (s.txnUp c f) = keptPart s := rfl
theorem kept_slotUp (s : State) (w : Nat) (f : WaitSlot → WaitSlot) : keptPart (s.slotUp w f) = keptPart s := rfl
theorem kept_casUp (s : State) (f : Cas → Cas) : keptPart (s.casUp f) = keptPart s := rfl
theorem kept_casEvent (s : State) (src : Nat) (sev : Severity) (c : Nat) : keptPart (s.casEvent src sev c) = keptPart s := rfl
theorem kept_capUp (s : State) (f : Capture → Capture) : keptPart (s.capUp f) = keptPart s := rfl
theorem kept_srcUp (s : State) (i : Nat) (f : CapSrc → CapSrc) : keptPart (s.srcUp i f) = keptPart s := rfl
theorem kept_ringUp (s : State) (k : Nat) (f : Ring → Ring) : keptPart (s.ringUp k f) = keptPart s := rfl
theorem kept_pwrUp (s : State) (f : Power → Power) : keptPart (s.pwrUp f) = keptPart s := rfl
theorem kept_holdAll (s : State) : keptPart s.holdAll = keptPart s := rfl
theorem kept_logFault (s : State) (e : HistEntry) : keptPart (s.logFault e) = keptPart s := rfl
theorem kept_fltHist (s : State) (f : Vector SrcState 128) (h : Vector (List HistEntry) 64) :
    keptPart { s with flt := f, hist := h } = keptPart s := rfl

theorem kept_txnEnd (s : State) (c : Ctx) (id res slot n : Nat) : keptPart (s.txnEnd c id res slot n) = keptPart s := by
  unfold State.txnEnd
  dsimp only
  split <;> simp only [kept_raise, kept_bump, kept_flag, kept_accUp, kept_txnUp]

theorem kept_slotAbort (s : State) (w res : Nat) : keptPart (s.slotAbort w res) = keptPart s := by
  unfold State.slotAbort
  dsimp only
  split
  · rw [kept_txnEnd, kept_slotUp]
  · rfl

theorem kept_bcEnd (s : State) (r : Nat) : keptPart (s.bcEnd r) = keptPart s := by
  unfold State.bcEnd
  dsimp only
  split <;> simp only [kept_casEvent, kept_bump, kept_flag, kept_casUp]

theorem kept_bcAbort (s : State) (r res : Nat) : keptPart (s.bcAbort r res) = keptPart s := by
  unfold State.bcAbort
  split
  · rfl
  · rw [kept_bcEnd, kept_slotAbort]

theorem kept_sendDown (s : State) (t : Nat) (bs : List Byte) : keptPart (s.sendDown t bs) = keptPart s := rfl

theorem kept_slotEnd (s : State) (w res : Nat) : keptPart (s.slotEnd w res) = keptPart s := by
  unfold State.slotEnd
  split
  · dsimp only
    split <;> split <;> simp only [kept_flag, State.bcRefuse, kept_bcAbort, kept_sendDown]
  · exact kept_slotAbort _ _ _

theorem kept_txnSweep (s : State) : keptPart s.txnSweep = keptPart s := by
  refine foldl_keeps keptPart _ (fun t w => ?_) _ s
  dsimp only
  split
  · split
    · rw [State.synAbort, kept_bump, kept_flag, kept_slotEnd]
    · rfl
  · rfl

theorem kept_ringOverrun (s : State) (k : Nat) : keptPart (s.ringOverrun k) = keptPart s := by
  unfold State.ringOverrun
  split
  · rfl
  · simp only [kept_raise, kept_flag]

theorem kept_steer (s : State) (t : Nat) : keptPart (steer s t).2 = keptPart s := by
  unfold steer
  split
  · rfl
  · split
    · dsimp only
      split <;> simp only [kept_capUp]
    · rfl

theorem kept_capture (s : State) (i type : Nat) (time : Int) (a b : Nat) :
    keptPart (s.capture i type time a b) = keptPart s := by
  unfold State.capture
  split
  · rfl
  · dsimp only
    split
    · rw [kept_flag, kept_srcUp, kept_steer, kept_srcUp]
    · split
      · rw [kept_ringOverrun, kept_srcUp, kept_steer, kept_srcUp]
      · simp only [kept_ringUp, kept_capUp, kept_steer, kept_srcUp]

theorem kept_ite {c : Prop} [Decidable c] {a b s : State} (ha : keptPart a = keptPart s) (hb : keptPart b = keptPart s) :
    keptPart (if c then a else b) = keptPart s := by
  split <;> assumption

theorem kept_capDomEvents (s : State) : keptPart s.capDomEvents = keptPart s := by
  unfold State.capDomEvents
  rw [foldl_keeps keptPart]
  intro t e
  exact kept_ite (kept_ite rfl (kept_capture _ _ _ _ _ _)) rfl

theorem kept_capTk (s : State) (t c : Nat) : keptPart (s.capTk t c) = keptPart s := by
  unfold State.capTk
  split
  · exact kept_capture _ _ _ _ _ _
  · rfl

theorem kept_capEvents (s : State) : keptPart s.capEvents = keptPart s := by
  unfold State.capEvents
  rw [foldl_keeps keptPart, kept_capDomEvents]
  intro t e
  exact kept_ite (kept_capTk _ _ _) rfl

/-- With no unit under test the sweep of background tests has nothing to abort. -/
theorem bgSweep_idle (s : State) (h : s.bist.active = []) : s.bgSweep = s := by
  simp [State.bgSweep, State.abortTests, h]

theorem kept_brzSweep (s : State) : keptPart s.brzSweep = keptPart s := rfl

theorem kept_gradeSweep (s : State) : keptPart s.gradeSweep = keptPart s := by
  unfold State.gradeSweep
  dsimp only
  split
  · rfl
  · split <;> simp only [kept_flag, kept_pwrUp]

theorem kept_classify (s : State) (e : Event) : keptPart (s.classify e) = keptPart s := by
  unfold State.classify
  dsimp only
  split <;> split <;> simp only [kept_holdAll, kept_logFault, kept_fltHist]

theorem kept_evq (s : State) (q : List Event) : keptPart { s with evq := q } = keptPart s := rfl
theorem kept_outs (s : State) (o : Vector Output 40) : keptPart { s with outs := o } = keptPart s := rfl
theorem kept_pads (s : State) (p : Pads) : keptPart { s with pads := p } = keptPart s := rfl

theorem kept_rewind (s : State) : keptPart s.rewind = keptPart s := rfl
theorem kept_reclear (s : State) (srcs sevs : List Nat) : keptPart (s.reclear srcs sevs) = keptPart s := by
  unfold State.reclear
  refine foldl_keeps keptPart _ (fun t c => ?_) _ s
  refine foldl_keeps keptPart _ (fun v k => ?_) _ t
  rfl

theorem kept_cyc (s : State) (c : Cycle) : keptPart { s with cyc := c } = keptPart s := rfl

theorem kept_classifyAll (s : State) : keptPart s.classifyAll = keptPart s := by
  unfold State.classifyAll
  dsimp only
  split
  · exact kept_evq _ _
  · rw [kept_reclear]
    refine (kept_cyc _ _).trans ((foldl_keeps keptPart _ kept_classify _ _).trans ?_)
    exact (kept_rewind _).trans (kept_evq _ _)

theorem kept_coverOutputs (s : State) : keptPart s.coverOutputs = keptPart s := by
  unfold State.coverOutputs
  dsimp only
  refine (foldl_keeps keptPart _ (fun u n => ?_) _ _).trans (kept_outs s _)
  split
  · exact kept_bump _ _ _
  · rfl

theorem kept_flagIf (s : State) (c : Bool) (f : Field) : keptPart (s.flagIf c f) = keptPart s := by
  unfold State.flagIf
  split
  · exact kept_flag _ _
  · rfl

theorem kept_lostSweep (s : State) : keptPart s.lostSweep = keptPart s := by
  unfold State.lostSweep State.noteLost
  exact foldl_keeps keptPart _ (fun t w => kept_flagIf _ _ _) _ s

/-- With no write waiting for a rejoin there is none to land. -/
theorem lateSweep_idle (s : State) (h : s.acc.late = []) : s.lateSweep = s := by
  have e : { s.acc with late := [] } = s.acc := by rw [← h]
  unfold State.lateSweep
  rw [h, List.foldl_nil, e]

theorem kept_drivePads (s : State) : keptPart s.drivePads = keptPart s := by
  unfold State.drivePads
  exact kept_pads _ _

end Sys2Proof.Machine
end

