-- ==== Sys2Proof/Laws/Regs.lean ====
section
/-! SUPPORT. Flags, counters and events as changes of the registers: the word that changes, and every other one. -/
namespace Sys2Proof.Machine

theorem reg_lt (s : State) (a : Nat) : s.reg a < 65536 := (s.regs.get a).isLt

@[simp] theorem reg_raise (s : State) (src : Nat) (sev : Severity) (c r w : Nat) (o : List Nat) (a : Nat) :
    (s.raise src sev c r w o).reg a = s.reg a := rfl
@[simp] theorem evq_raise (s : State) (src : Nat) (sev : Severity) (c r w : Nat) (o : List Nat) :
    (s.raise src sev c r w o).evq = s.evq ++ [⟨src, sev, true, false, c, r, w, o⟩] := rfl
@[simp] theorem evq_setReg (s : State) (a n : Nat) : (s.setReg a n).evq = s.evq := rfl
@[simp] theorem evq_flag (s : State) (f : Field) : (s.flag f).evq = s.evq := rfl
@[simp] theorem evq_bump (s : State) (a k : Nat) : (s.bump a k).evq = s.evq := rfl

/-- A counter moves by k and saturates (R45); no other register moves. -/
@[simp] theorem reg_bump_same (s : State) (a k : Nat) : (s.bump a k).reg a = satNat 16 (s.reg a + k) := by
  show (s.setReg a (satNat 16 (s.reg a + k))).reg a = _
  rw [reg_setReg_same]
  refine Nat.mod_eq_of_lt ?_
  have : satNat 16 (s.reg a + k) ≤ 65535 := Nat.min_le_right _ _
  omega
theorem reg_bump_ne (s : State) {a b : Nat} (k : Nat) (h : b ≠ a) : (s.bump a k).reg b = s.reg b :=
  reg_setReg_ne (s := s) (n := satNat 16 (s.reg a + k)) h

theorem bitsOf_setBits_one (n l : Nat) (hl : l < 16) : bitsOf (setBits n l l 1 % 65536) l l = 1 := by
  unfold setBits bitsOf
  obtain rfl | rfl | rfl | rfl | rfl | rfl | rfl | rfl | rfl | rfl | rfl | rfl | rfl | rfl | rfl | rfl :
      l = 0 ∨ l = 1 ∨ l = 2 ∨ l = 3 ∨ l = 4 ∨ l = 5 ∨ l = 6 ∨ l = 7 ∨ l = 8 ∨ l = 9 ∨ l = 10 ∨ l = 11 ∨ l = 12 ∨ l = 13 ∨ l = 14 ∨ l = 15 := by omega
  all_goals omega

/-- A one-bit flag is set; no other register moves. -/
theorem bit_flag_same (s : State) (a l : Nat) (hl : l < 16) : (s.flag ⟨a, l, l⟩).bit ⟨a, l, l⟩ = true := by
  have e : (s.flag ⟨a, l, l⟩).reg a = setBits (s.reg a) l l 1 % 65536 :=
    reg_setReg_same (s := s) (a := a) (n := setBits (s.reg a) l l 1)
  simp [State.bit, State.fld, e, bitsOf_setBits_one _ _ hl]
theorem reg_flag_ne (s : State) (f : Field) {b : Nat} (h : b ≠ f.addr) : (s.flag f).reg b = s.reg b :=
  reg_setReg_ne (s := s) (n := setBits (s.reg f.addr) f.hi f.lo 1) h

end Sys2Proof.Machine
end

