-- ==== Sys2Proof/Laws/Hooks.lean ====
section
/-! SUPPORT. Which hook of which page a write that goes through reaches: one lemma per page, for an address that belongs to no
classification register (R479). -/
namespace Sys2Proof.Machine

/-- A write row that meets no obstacle ends in its write's effect, settled. -/
theorem took_write {s : State} {c : Ctx} {a m d : Nat} (h : DirectWrite s c a m d) :
    took (reach s c) s (s.write c a m d) = .next (s.wrote c a m d).settle := by
  simp [took, h.reaches, write_direct h]

/-- No classification register stands at a. -/
def plainAddr (a : Nat) : Prop := ∀ k, k < 128 → clsAddr k ≠ a ∧ clsAddr k + 1 ≠ a

theorem clsSrc_none {a : Nat} (h : ∀ k, k < 128 → clsAddr k ≠ a) : clsSrc a = none := by
  simp only [clsSrc, List.find?_eq_none, List.mem_range]
  intro k hk
  simpa using h k hk

theorem hookClass_plain {o s : State} {a g : Nat} (h : plainAddr a) : hookClass o s a g = s := by
  have h1 := clsSrc_none fun k hk => (h k hk).1
  simp only [hookClass, h1]
  split
  · rfl
  · have h2 : clsSrc (a - 1) = none := clsSrc_none fun k hk => by have := (h k hk).2; omega
    simp [h2]

variable {s : State} {c : Ctx} {m d : Nat}

/-- Pages 0x00 to 0x07, the page buffer and the own-context window apart. -/
theorem through_low {a : Nat} (hp : plainAddr a) (hs : outOfService s a = false) (ho : inOwn a = false) (h1 : ¬ (0x0420 ≤ a ∧ a < 0x0460)) (h2 : a < 0x0800) :
    s.writeThrough c a m d = hookLow s (s.storeWord a m d) a m (Nat.land m d) := by
  simp only [State.writeThrough, State.reachBlock, hs, ho, h1, h2, if_true, if_false, hookClass_plain hp, Bool.false_eq_true]

theorem through_mid {a : Nat} (hp : plainAddr a) (hs : outOfService s a = false) (h1 : 0x0800 ≤ a) (h2 : ¬ (0x0E30 ≤ a ∧ a < 0x0E49)) (h3 : a < 0x2000) :
    s.writeThrough c a m d = hookMid s (s.storeWord a m d) a m (Nat.land m d) := by
  have ho : inOwn a = false := by simp only [inOwn, Bool.and_eq_false_iff, decide_eq_false_iff_not]; omega
  have e1 : ¬ (0x0420 ≤ a ∧ a < 0x0460) := by omega
  have e2 : ¬ a < 0x0800 := by omega
  simp only [State.writeThrough, State.reachBlock, hs, ho, e1, e2, h2, h3, if_true, if_false, hookClass_plain hp, Bool.false_eq_true]

theorem through_high {a : Nat} (hp : plainAddr a) (hs : outOfService s a = false) (h1 : 0x2000 ≤ a) :
    s.writeThrough c a m d = hookHigh s (s.storeWord a m d) c a m (Nat.land m d)
      (Nat.lor (without (readPlain s c a) (Nat.land m (writeMask s a))) (Nat.land d (Nat.land m (writeMask s a)))) := by
  have ho : inOwn a = false := by simp only [inOwn, Bool.and_eq_false_iff, decide_eq_false_iff_not]; omega
  have e1 : ¬ (0x0420 ≤ a ∧ a < 0x0460) := by omega
  have e2 : ¬ a < 0x0800 := by omega
  have e3 : ¬ (0x0E30 ≤ a ∧ a < 0x0E49) := by omega
  have e4 : ¬ a < 0x2000 := by omega
  simp only [State.writeThrough, State.reachBlock, hs, ho, e1, e2, e3, e4, if_false, hookClass_plain hp, Bool.false_eq_true]

/-- The reference monitors, 64 registers each. -/
theorem through_inm {k f : Nat} (hk : k < 24) (hf : f < 64) (hp : plainAddr (0x0800 + 64 * k + f)) (hs : outOfService s (0x0800 + 64 * k + f) = false) :
    s.writeThrough c (0x0800 + 64 * k + f) m d =
      hookInm s (s.storeWord (0x0800 + 64 * k + f) m d) k f m (Nat.land m d) := by
  rw [through_mid hp hs (by omega) (by omega) (by omega)]
  have e1 : 0x0800 + 64 * k + f < 0x0E00 := by omega
  have e2 : (0x0800 + 64 * k + f - 0x0800) / 64 = k := by omega
  have e3 : (0x0800 + 64 * k + f) % 64 = f := by omega
  simp only [hookMid, e1, e2, e3, if_true]

theorem through_dom {k f : Nat} (hk : k < 6) (hf : f < 256) (hp : plainAddr (0x1000 + 256 * k + f)) (hs : outOfService s (0x1000 + 256 * k + f) = false) :
    s.writeThrough c (0x1000 + 256 * k + f) m d =
      hookDom s (s.storeWord (0x1000 + 256 * k + f) m d) k f (Nat.land m d) := by
  rw [through_mid hp hs (by omega) (by omega) (by omega)]
  have e1 : ¬ 0x1000 + 256 * k + f < 0x0E00 := by omega
  have e2 : ¬ 0x1000 + 256 * k + f < 0x0F00 := by omega
  have e3 : ¬ 0x1000 + 256 * k + f < 0x1000 := by omega
  have e4 : 0x1000 + 256 * k + f < 0x1800 := by omega
  have e5 : (0x1000 + 256 * k + f - 0x1000) / 256 = k := by omega
  have e6 : (0x1000 + 256 * k + f) % 256 = f := by omega
  simp only [hookMid, e1, e2, e3, e4, e5, e6, if_true, if_false]

theorem through_syn {k f : Nat} (hk : k < 7) (hf : f < 256) (hp : plainAddr (0x1800 + 256 * k + f)) (hs : outOfService s (0x1800 + 256 * k + f) = false) :
    s.writeThrough c (0x1800 + 256 * k + f) m d =
      hookSyn s (s.storeWord (0x1800 + 256 * k + f) m d) k f m (Nat.land m d) := by
  rw [through_mid hp hs (by omega) (by omega) (by omega)]
  have e1 : ¬ 0x1800 + 256 * k + f < 0x0E00 := by omega
  have e2 : ¬ 0x1800 + 256 * k + f < 0x0F00 := by omega
  have e3 : ¬ 0x1800 + 256 * k + f < 0x1000 := by omega
  have e4 : ¬ 0x1800 + 256 * k + f < 0x1800 := by omega
  have e5 : (0x1800 + 256 * k + f - 0x1800) / 256 = k := by omega
  have e6 : (0x1800 + 256 * k + f) % 256 = f := by omega
  simp only [hookMid, e1, e2, e3, e4, e5, e6, if_false]

theorem through_out {n f : Nat} (hn : n < 40) (hf : f < 32) (hp : plainAddr (0x2000 + 32 * n + f)) (hs : outOfService s (0x2000 + 32 * n + f) = false) :
    s.writeThrough c (0x2000 + 32 * n + f) m d =
      hookOut s (s.storeWord (0x2000 + 32 * n + f) m d) n f m (Nat.land m d)
        (Nat.lor (without (readPlain s c (0x2000 + 32 * n + f)) (Nat.land m (writeMask s (0x2000 + 32 * n + f))))
          (Nat.land d (Nat.land m (writeMask s (0x2000 + 32 * n + f))))) := by
  rw [through_high hp hs (by omega)]
  have e1 : 0x2000 + 32 * n + f < 0x2500 := by omega
  have e2 : (0x2000 + 32 * n + f - 0x2000) / 32 = n := by omega
  have e3 : (0x2000 + 32 * n + f) % 32 = f := by omega
  simp only [hookHigh, e1, e2, e3, if_true]

theorem through_pg {p f : Nat} (hn : p < 8) (hf : f < 16) (hp : plainAddr (0x2510 + 16 * p + f)) (hs : outOfService s (0x2510 + 16 * p + f) = false) :
    s.writeThrough c (0x2510 + 16 * p + f) m d =
      hookPg (s.storeWord (0x2510 + 16 * p + f) m d) p f m (Nat.land m d) := by
  rw [through_high hp hs (by omega)]
  have e1 : ¬ 0x2510 + 16 * p + f < 0x2500 := by omega
  have e2 : ¬ 0x2510 + 16 * p + f < 0x2510 := by omega
  have e3 : 0x2510 + 16 * p + f < 0x2800 := by omega
  have e4 : (0x2510 + 16 * p + f - 0x2510) / 16 = p := by omega
  have e5 : (0x2510 + 16 * p + f) % 16 = f := by omega
  simp only [hookHigh, e1, e2, e3, e4, e5, if_true, if_false]

theorem through_tk {t f : Nat} (ht : t < 4) (hf : f < 256) (hp : plainAddr (0x2800 + 256 * t + f)) (hs : outOfService s (0x2800 + 256 * t + f) = false) :
    s.writeThrough c (0x2800 + 256 * t + f) m d =
      hookTk s (s.storeWord (0x2800 + 256 * t + f) m d) t f m (Nat.land m d) := by
  rw [through_high hp hs (by omega)]
  have e1 : ¬ 0x2800 + 256 * t + f < 0x2500 := by omega
  have e2 : ¬ 0x2800 + 256 * t + f < 0x2510 := by omega
  have e3 : ¬ 0x2800 + 256 * t + f < 0x2800 := by omega
  have e4 : 0x2800 + 256 * t + f < 0x3000 := by omega
  have e5 : (0x2800 + 256 * t + f - 0x2800) / 256 = t := by omega
  have e6 : (0x2800 + 256 * t + f) % 256 = f := by omega
  simp only [hookHigh, e1, e2, e3, e4, e5, e6, if_true, if_false]

theorem through_eth {n f : Nat} (hn : n < 8) (hf : f < 256) (hp : plainAddr (0x3100 + 256 * n + f)) (hs : outOfService s (0x3100 + 256 * n + f) = false) :
    s.writeThrough c (0x3100 + 256 * n + f) m d =
      hookEth s (s.storeWord (0x3100 + 256 * n + f) m d) n f (Nat.land m d) := by
  rw [through_high hp hs (by omega)]
  have e1 : ¬ 0x3100 + 256 * n + f < 0x2500 := by omega
  have e2 : ¬ 0x3100 + 256 * n + f < 0x2510 := by omega
  have e3 : ¬ 0x3100 + 256 * n + f < 0x2800 := by omega
  have e4 : ¬ 0x3100 + 256 * n + f < 0x3000 := by omega
  have e5 : ¬ 0x3100 + 256 * n + f < 0x3020 := by omega
  have e6 : ¬ 0x3100 + 256 * n + f < 0x3100 := by omega
  have e7 : 0x3100 + 256 * n + f < 0x3C00 := by omega
  have e8 : (0x3100 + 256 * n + f - 0x3100) / 256 = n := by omega
  have e9 : (0x3100 + 256 * n + f) % 256 = f := by omega
  simp only [hookHigh, e1, e2, e3, e4, e5, e6, e7, e8, e9, if_true, if_false]

theorem through_ring {k f : Nat} (hf : f < 16) (hp : plainAddr (0x3D00 + 16 * k + f)) (hs : outOfService s (0x3D00 + 16 * k + f) = false) :
    s.writeThrough c (0x3D00 + 16 * k + f) m d =
      hookRing (s.storeWord (0x3D00 + 16 * k + f) m d) c k f m (Nat.land m d) := by
  rw [through_high hp hs (by omega)]
  have e1 : ¬ 0x3D00 + 16 * k + f < 0x2500 := by omega
  have e2 : ¬ 0x3D00 + 16 * k + f < 0x2510 := by omega
  have e3 : ¬ 0x3D00 + 16 * k + f < 0x2800 := by omega
  have e4 : ¬ 0x3D00 + 16 * k + f < 0x3000 := by omega
  have e5 : ¬ 0x3D00 + 16 * k + f < 0x3020 := by omega
  have e6 : ¬ 0x3D00 + 16 * k + f < 0x3100 := by omega
  have e7 : ¬ 0x3D00 + 16 * k + f < 0x3C00 := by omega
  have e8 : ¬ 0x3D00 + 16 * k + f < 0x3D00 := by omega
  have e9 : (0x3D00 + 16 * k + f - 0x3D00) / 16 = k := by omega
  have e10 : (0x3D00 + 16 * k + f) % 16 = f := by omega
  simp only [hookHigh, e1, e2, e3, e4, e5, e6, e7, e8, e9, e10, if_false]

end Sys2Proof.Machine
end

