-- ==== Sys2Proof/Laws/HostFrames.lean ====
section
/-! SUPPORT. Frames of SPI and I2C: what the module does with one, said by its layout, its CRC and its words. -/
namespace Sys2Proof.Machine

theorem known_frameLen (bs : List Byte) :
    (decide (5 ≤ bs.length) && decide (1 ≤ (bs.getD 0 0).toNat) && decide ((bs.getD 0 0).toNat ≤ 3) &&
      decide ((bs.getD 3 0).toNat ≤ 32)) = (frameLen .spi bs).isSome := by
  unfold frameLen
  dsimp only
  split
  next h => simp only [Option.isSome_none, Bool.and_eq_false_iff, decide_eq_false_iff_not]; omega
  next h =>
    have : 5 ≤ bs.length ∧ 1 ≤ (bs.getD 0 0).toNat ∧ (bs.getD 0 0).toNat ≤ 3 ∧ (bs.getD 3 0).toNat ≤ 32 := by omega
    simp only [this, decide_true, Bool.and_self]
    split <;> (try split) <;> (try split) <;> rfl

/-- Where the CRC of a frame's header or body stands. -/
def crcEnd (bs : List Byte) : Nat :=
  if (((bs.getD 0 0).toNat == 1 || (bs.getD 0 0).toNat == 2) && (bs.getD 3 0).toNat != 0) = true then 5
  else 5 + 4 * (bs.getD 3 0).toNat

theorem frame_crcBad (bs : List Byte) :
    ((decide (5 ≤ bs.length) && decide (1 ≤ (bs.getD 0 0).toNat) && decide ((bs.getD 0 0).toNat ≤ 3) &&
      decide ((bs.getD 3 0).toNat ≤ 32)) && decide (crcEnd bs ≤ bs.length) &&
      crc8 (bs.take (crcEnd bs - 1)) != (bs.getD (crcEnd bs - 1) 0).toNat) = frameCrcBad bs := by
  have hk := known_frameLen bs
  rw [hk]
  unfold frameCrcBad frameWords crcEnd
  dsimp only
  cases h : (frameLen .spi bs).isSome with
  | false => simp
  | true =>
    rw [h] at hk
    simp only [Bool.and_eq_true, decide_eq_true_eq] at hk
    generalize (bs.getD 0 0).toNat = cmd at *
    generalize (bs.getD 3 0).toNat = len at *
    obtain rfl | rfl | rfl : cmd = 1 ∨ cmd = 2 ∨ cmd = 3 := by omega
    · cases len <;> simp <;> congr 1
    · cases len <;> simp <;> congr 1
    · simp [Nat.add_comm, Nat.succ_le_iff]

theorem frame_bad (c : Ctx) (bs : List Byte) (hc : c = .spi ∨ c = .i2c) :
    (!(decide (5 ≤ bs.length) && decide (1 ≤ (bs.getD 0 0).toNat) && decide ((bs.getD 0 0).toNat ≤ 3) &&
      decide ((bs.getD 3 0).toNat ≤ 32)) ||
      bs.length != (if ((((bs.getD 0 0).toNat == 1 || (bs.getD 0 0).toNat == 2) && (bs.getD 3 0).toNat != 0) &&
          c != .i2c) = true then 7 + (if (bs.getD 0 0).toNat = 1 then 4 else 2) * (bs.getD 3 0).toNat else crcEnd bs) ||
      ((bs.getD 3 0).toNat != 0 && overflows (natBE ((bs.drop 1).take 2)) (bs.getD 3 0).toNat)) = !frameSound c bs := by
  have hk := known_frameLen bs
  rw [hk]
  unfold frameSound frameWords frameAddr crcEnd
  generalize overflows (natBE ((bs.drop 1).take 2)) (bs.getD 3 0).toNat = ov
  unfold frameLen at *
  dsimp only at *
  generalize (bs.getD 0 0).toNat = cmd at *
  generalize (bs.getD 3 0).toNat = len at *
  generalize bs.length = n at *
  by_cases h : n < 5 ∨ cmd = 0 ∨ 3 < cmd ∨ 32 < len
  · simp [h]
  · have h5 : 5 ≤ n := by omega
    have h6 : ¬ n < 5 := by omega
    have h8 : ¬ 32 < len := by omega
    obtain rfl | rfl | rfl : cmd = 1 ∨ cmd = 2 ∨ cmd = 3 := by omega
    all_goals rcases hc with rfl | rfl
    all_goals by_cases h0 : len = 0
    all_goals simp [h6, h8, h0, bne, Bool.beq_eq_decide_eq, @eq_comm _ n]

/-- A frame, judged by its layout and its CRC (R397, R398). -/
theorem frame_judged (s : State) (c : Ctx) (bs : List Byte) (hc : c = .spi ∨ c = .i2c) :
    s.frame c bs =
      (let cmd := (bs.getD 0 0).toNat
       let read := (cmd == 1 || cmd == 2) && frameWords bs != 0
       let wb := if cmd = 1 then 4 else 2
       let lead := readLead s c
       let t := (s.when (frameCrcBad bs) fun s => s.frameCrc c).when (!frameSound c bs) State.frameErr
       if frameCrcBad bs || !frameSound c bs then
         (t.returned c (if read then lead ++ readBytes wb (List.replicate (frameWords bs) 0) else lead.take 1)).statusPut c
           (statusByte t c (if frameCrcBad bs then 1 else 2) false (padBits s))
       else if frameWords bs = 0 then (t.returned c (lead.take 1)).statusPut c (statusByte t c 0 false (padBits s))
       else if read then
         let r := t.readBurst (frameWords bs) c (frameAddr bs) 0
         (r.2.2.returned c (lead ++ readBytes wb r.2.1)).statusPut c (statusByte r.2.2 c r.1 false (padBits s))
       else
         let r := t.writeBurst c (frameAddr bs) (accessWords (frameWords bs) (bs.drop 4))
         (r.2.2.returned c (lead.take 1)).statusPut c (statusByte r.2.2 c r.1 r.2.1 (padBits s))) := by
  rw [← frame_crcBad bs, ← frame_bad c bs hc]
  rfl

/-- The fields of a STATUS byte. -/
theorem status_res (s t : State) (c : Ctx) (res : Nat) (st : Bool) :
    statusByte s c res st (padBits t) / 32 = res ∧ statusByte s c res st (padBits t) / 16 = 2 * res + st.toNat := by
  unfold statusByte padBits
  cases st <;> cases (txnAt s c).isOpen <;> cases (t.pads.irqLow.any id) <;> cases t.pads.faultLow <;> simp <;> omega

theorem prevStatus_put (s : State) (c : Ctx) (b : Nat) : prevStatus (s.statusPut c b) c = b := by
  unfold prevStatus State.statusPut State.accUp
  split <;> simp_all

end Sys2Proof.Machine
end

