-- ==== Sys2Proof/WellFormed.lean ====
section
/-! DEFINITION. When a command is well formed: its indices name things the module has, and its words fit.  A command that is
not has no effect (its meaning checks the index again). -/
namespace Sys2Proof

/-- Bounds of the indices a command can carry. -/
def refOk (k : Nat) : Bool := decide (k < 24)
def trkOk (k : Nat) : Bool := decide (k < 25)
def domOk (d : Nat) : Bool := decide (d < 6)
def synOk (k : Nat) : Bool := decide (k < 7)
def outOk (n : Nat) : Bool := decide (n < 40)
def pgOk (p : Nat) : Bool := decide (p < 8)
def tkOk (t : Nat) : Bool := decide (t < 4)
def portOk (n : Nat) : Bool := decide (n < 8)
def instOk (i : Nat) : Bool := decide (i < 4)
def capOk (i : Nat) : Bool := decide (i < 16)
def ringOk (k : Nat) : Bool := decide (k < 16)
def expOk (x : Nat) : Bool := decide (x < 2)
def slotOk (w : Nat) : Bool := decide (w < 4)
def srcOk (src : Nat) : Bool := decide (src < 128)
def halfOk (i : Nat) : Bool := decide (i < 2)
def eightOk (i : Nat) : Bool := decide (i < 8)
def winOk (i : Nat) : Bool := decide (i < 64)
def railOk (r : Nat) : Bool := decide (r < 8)

/-- A register address has 16 bits (R387). -/
def addrOk (a : Nat) : Bool := decide (a < 65536)

/-- The mask and the data of an access word have 16 bits each (R389). -/
def wordOk (mask data : Nat) : Bool := decide (mask < 65536) && decide (data < 65536)

/-- The cascade context has no port of its own (R414). -/
def ctxOk (c : Ctx) : Bool := decide (c ≠ .cas)

/-- The strap pads ID (R399) and role (R360). -/
def strapOk (id role : Nat) : Bool := decide (id < 8) && decide (role < 4)

/-- A 7-bit I2C address (R399). -/
def i2cOk (addr : Nat) : Bool := decide (addr < 128)

/-- The seven die sensors have a reading each (R543). -/
def tempsOk (x : Temps) : Bool := decide (x.dies.length = 7)

/-- The command is well formed. -/
def Instr.wf (i : Instr) : Bool :=
  match i with
  | .epochEdge _ _ => true
  | .collectorRelease => true
  | .pulseOnTimeEdge k _ => refOk k
  | .wtrExpire k => refOk k
  | .windsockSample k => refOk k
  | .tdcCalibrationDone k _ => trkOk k
  | .losDetect k => refOk k
  | .losClear k _ => refOk k
  | .inCfgWrite c k i mask data => ctxOk c && refOk k && winOk i && wordOk mask data
  | .roleWrite c k mask data => ctxOk c && refOk k && wordOk mask data
  | .nominalWrite c k mask data => ctxOk c && refOk k && wordOk mask data
  | .stagedSettingApply c a mask data => ctxOk c && addrOk a && wordOk mask data
  | .requal c k mask data => ctxOk c && refOk k && wordOk mask data
  | .forceFailWrite c k mask data => ctxOk c && refOk k && wordOk mask data
  | .wtrWrite c k mask data => ctxOk c && refOk k && wordOk mask data
  | .w1cClear c a mask data => ctxOk c && addrOk a && wordOk mask data
  | .selectCopy c a mask data => ctxOk c && addrOk a && wordOk mask data
  | .latchingRead c a => ctxOk c && addrOk a
  | .todMessage _ _ => true
  | .todLoss => true
  | .todEnableWrite c mask data => ctxOk c && wordOk mask data
  | .inDelayWrite c k mask data => ctxOk c && trkOk k && wordOk mask data
  | .snapshotArm c mask data => ctxOk c && wordOk mask data
  | .peakClr c a mask data => ctxOk c && addrOk a && wordOk mask data
  | .cntClr c a mask data => ctxOk c && addrOk a && wordOk mask data
  | .domainSnapshot => true
  | .manualSelection c d mask data => ctxOk c && domOk d && wordOk mask data
  | .slotWrite c d i mask data => ctxOk c && domOk d && eightOk i && wordOk mask data
  | .modeWrite c d mask data => ctxOk c && domOk d && wordOk mask data
  | .boReset c d mask data => ctxOk c && domOk d && wordOk mask data
  | .offsetWrite c d mask data => ctxOk c && domOk d && wordOk mask data
  | .holdoverSecond => true
  | .hoBudgetUpdate d => domOk d
  | .ovenStateChange _ => true
  | .ovenEnWrite c mask data => ctxOk c && wordOk mask data
  | .accelerometerFault => true
  | .accRecovery => true
  | .loadFactory c mask data => ctxOk c && wordOk mask data
  | .applyStaged c mask data => ctxOk c && wordOk mask data
  | .compEnWrite c mask data => ctxOk c && wordOk mask data
  | .modelLearnUpdate _ => true
  | .synEnable c k mask data => ctxOk c && synOk k && wordOk mask data
  | .synDisable c k mask data => ctxOk c && synOk k && wordOk mask data
  | .update c k mask data => ctxOk c && synOk k && wordOk mask data
  | .applyInstant k => synOk k
  | .glideComplete k => synOk k
  | .recal c k mask data => ctxOk c && synOk k && wordOk mask data
  | .lockDeclared k _ _ => synOk k
  | .lossOfLock k _ _ => synOk k
  | .relockOverrun k => synOk k
  | .lockTimeout k => synOk k
  | .bypassTransfer n => outOk n
  | .bandTableStore c k mask data => ctxOk c && synOk k && wordOk mask data
  | .bandTableIndex c k mask data => ctxOk c && synOk k && wordOk mask data
  | .lockaSelWrite c mask data => ctxOk c && wordOk mask data
  | .outputEnable c n mask data => ctxOk c && outOk n && wordOk mask data
  | .outputDisable c n mask data => ctxOk c && outOk n && wordOk mask data
  | .startEdge n => outOk n
  | .stepWrite c n mask data => ctxOk c && outOk n && wordOk mask data
  | .dlyWrite c n mask data => ctxOk c && outOk n && wordOk mask data
  | .divWrite c n mask data => ctxOk c && outOk n && wordOk mask data
  | .bypDivWrite c n mask data => ctxOk c && outOk n && wordOk mask data
  | .driverFault n => outOk n
  | .driverProbe c n mask data => ctxOk c && outOk n && wordOk mask data
  | .driverProbeEnd n _ => outOk n
  | .pgEnable c p mask data => ctxOk c && pgOk p && wordOk mask data
  | .pgPeriodWrite c p mask data => ctxOk c && pgOk p && wordOk mask data
  | .pgOffsetWrite c p mask data => ctxOk c && pgOk p && wordOk mask data
  | .pgAlign c p mask data => ctxOk c && pgOk p && wordOk mask data
  | .pgFrameEdge p => pgOk p
  | .tkEnable c t mask data => ctxOk c && tkOk t && wordOk mask data
  | .tkDisable c t mask data => ctxOk c && tkOk t && wordOk mask data
  | .tkInputLoss t => tkOk t
  | .tkClipAlarm t => tkOk t
  | .tkRearm c t mask data => ctxOk c && tkOk t && wordOk mask data
  | .tkLoad c t mask data => ctxOk c && tkOk t && wordOk mask data
  | .tkCapture c t mask data => ctxOk c && tkOk t && wordOk mask data
  | .tkIncrementWrite c t mask data => ctxOk c && tkOk t && wordOk mask data
  | .tkSrcWrite c t mask data => ctxOk c && tkOk t && wordOk mask data
  | .leapSecond t => tkOk t
  | .linkUp n _ => portOk n
  | .linkFailure n => portOk n
  | .ethSpeedRoleWrite c n mask data => ctxOk c && portOk n && wordOk mask data
  | .tc10SleepReq c n mask data => ctxOk c && portOk n && wordOk mask data
  | .tc10SleepAcceptRx n _ => portOk n
  | .tc10SleepRx n => portOk n
  | .tc10WakeReq c n mask data => ctxOk c && portOk n && wordOk mask data
  | .tc10WakeRx n => portOk n
  | .frameDiscard n _ => portOk n
  | .ptpSyncReceive n _ _ _ => portOk n
  | .ptpFollowUpReceive n _ _ _ => portOk n
  | .ptpDelayReqReceive n _ _ => portOk n
  | .ptpDelayRespReceive n _ _ _ _ => portOk n
  | .ptpPdelayReqReceive n _ _ _ => portOk n
  | .ptpPdelayRespReceive n _ _ _ _ _ => portOk n
  | .ptpPdelayRespFupReceive n _ _ _ _ => portOk n
  | .ptpAnnounceReceive n _ _ => portOk n
  | .ptpSignalingReceive n _ _ => portOk n
  | .ptpManagementReceive n _ _ _ _ => portOk n
  | .syncTx n _ => portOk n
  | .announceTx n => portOk n
  | .delayReqTx n _ => portOk n
  | .pdelayReqTx n _ => portOk n
  | .syncReceiptTimeout n => portOk n
  | .announceReceiptTimeout n => portOk n
  | .followUpMissing n => portOk n
  | .delayRespMissing n => portOk n
  | .bmcaRun i _ => instOk i
  | .ptpInstanceEnable c i mask data => ctxOk c && instOk i && wordOk mask data
  | .portInstanceChange c n mask data => ctxOk c && portOk n && wordOk mask data
  | .pdRestart c n mask data => ctxOk c && portOk n && wordOk mask data
  | .keySlotSelect c mask data => ctxOk c && wordOk mask data
  | .keyDataWrite c mask data => ctxOk c && wordOk mask data
  | .keyCommit c mask data => ctxOk c && wordOk mask data
  | .keyErase c mask data => ctxOk c && wordOk mask data
  | .edgeCapture i _ _ => capOk i
  | .ringWrite k _ => ringOk k
  | .ringRead c k => ctxOk c && ringOk k
  | .ringReadRestart c k mask data => ctxOk c && ringOk k && wordOk mask data
  | .ringConfigWrite c k mask data => ctxOk c && ringOk k && wordOk mask data
  | .ringFlush c k mask data => ctxOk c && ringOk k && wordOk mask data
  | .ringCntClr c k mask data => ctxOk c && ringOk k && wordOk mask data
  | .captureCntClr c mask data => ctxOk c && wordOk mask data
  | .seqClr c mask data => ctxOk c && wordOk mask data
  | .exportEnable c x mask data => ctxOk c && expOk x && wordOk mask data
  | .exportTake x => expOk x
  | .exportFlushTimeout x => expOk x
  | .casChainInstant _ => true
  | .casForwardFrame _ _ => true
  | .casReturnFrame _ _ => true
  | .bcastDeadline => true
  | .bcastApply => true
  | .casLinkDown _ => true
  | .casRoleWrite c mask data => ctxOk c && wordOk mask data
  | .casRecal c mask data => ctxOk c && wordOk mask data
  | .casTakeover => true
  | .casYield c mask data => ctxOk c && wordOk mask data
  | .casRefWtrExpire => true
  | .spiWrite _ => true
  | .spiRead _ => true
  | .spiRead16 _ => true
  | .spiPing _ => true
  | .frameError _ _ => true
  | .frameCrcError _ _ => true
  | .i2cWrite addr _ => i2cOk addr
  | .i2cRead addr _ => i2cOk addr
  | .i2cTimeout => true
  | .hildoRequest n _ => portOk n
  | .registerWrite c a mask data => ctxOk c && addrOk a && wordOk mask data
  | .scrubVisit a _ _ _ => addrOk a
  | .txnOpen c mask data => ctxOk c && wordOk mask data
  | .txnCommit c mask data => ctxOk c && wordOk mask data
  | .txnAbort c mask data => ctxOk c && wordOk mask data
  | .txnApply w => slotOk w
  | .txnLate w => slotOk w
  | .powerUp _ id role => strapOk id role
  | .resetNAssert => true
  | .resetNRelease _ id role => strapOk id role
  | .recordWaitExpire => true
  | .imageLoadDone => true
  | .startupBistDone _ => true
  | .breezeStop c mask data => ctxOk c && wordOk mask data
  | .store c mask data => ctxOk c && wordOk mask data
  | .pageWriteDone _ => true
  | .storeDone => true
  | .pageRead c mask data => ctxOk c && wordOk mask data
  | .pageWrite c mask data => ctxOk c && wordOk mask data
  | .protectWrite c mask data => ctxOk c && wordOk mask data
  | .cntInc c mask data => ctxOk c && wordOk mask data
  | .counterIncrementAck _ => true
  | .marginScrub _ _ => true
  | .powerGo c mask data => ctxOk c && wordOk mask data
  | .wakePad _ => true
  | .rtcAlarm => true
  | .rtcTick => true
  | .pmReqWrite c i mask data => ctxOk c && halfOk i && wordOk mask data
  | .uvWarning _ => true
  | .inputUv _ => true
  | .turnOff _ => true
  | .overvoltage _ => true
  | .railFault r => railOk r
  | .holdupEnd _ _ => true
  | .holdupRestart _ id role => strapOk id role
  | .tempWarning x => tempsOk x
  | .tempLimit x => tempsOk x
  | .thermalTrip x => tempsOk x
  | .tripClear x => tempsOk x
  | .severeLatchClear c mask data => ctxOk c && wordOk mask data
  | .pendClear c mask data => ctxOk c && wordOk mask data
  | .pendClr c mask data => ctxOk c && wordOk mask data
  | .faultCountClear c mask data => ctxOk c && wordOk mask data
  | .evtClassWrite c src i mask data => ctxOk c && srcOk src && halfOk i && wordOk mask data
  | .forceInject c src mask data => ctxOk c && srcOk src && wordOk mask data
  | .safeNFall => true
  | .safeNRise => true
  | .watchdogExpire => true
  | .sequencerRestartDone => true
  | .clockFault _ => true
  | .mtbRestart => true
  | .bistRequest c mask data => ctxOk c && wordOk mask data
  | .bistAbort c mask data => ctxOk c && wordOk mask data
  | .backgroundPass => true
  | .bistTestEnd _ => true
  | .lcGo c mask data => ctxOk c && wordOk mask data
  | .lcTransitionDone _ => true
  | .unsealKeyCommit c mask data => ctxOk c && wordOk mask data
  | .sealClose c mask data => ctxOk c && wordOk mask data
  | .sealingWindowExpire => true
  | .unsealReq c mask data => ctxOk c && wordOk mask data
  | .unsealGo c mask data => ctxOk c && wordOk mask data
  | .tamper => true
  | .wipe c mask data => ctxOk c && wordOk mask data
  | .sramScrubPass _ _ _ _ => true
  | .phyFault n _ => portOk n
  | .poweredHour => true
  | .uvWarnClear _ => true
  | .inputUvArm _ => true
  | .ovClear _ => true
  | .railRecovery r => railOk r
  | .tempRecovery x => tempsOk x
  | .clockFaultEnd => true

end Sys2Proof
end

