-- ==== Sys2Proof/Tests/Slice0.lean ====
section
/-! SUPPORT. Tests: the well-formedness checks refuse, the hypotheses of every statement can be met, and single steps on small
states give what the spec's examples and tables give. -/
namespace Sys2Proof.Tests
set_option Elab.async false
open Sys2Proof.Machine

/-- A module in RUN with an image loaded and everything else as after reset. -/
def run : State := { State.reset with pwr := { Power.reset with st := .run }, cfg := { Cfg.reset with loaded := true } }

/-- `run` at MTB time t ns. -/
def runAt (t : Nat) : State := { run with mtb := BitVec.ofNat 64 t }

/-- A register of `run` set. -/
def withReg (s : State) (a n : Nat) : State := s.setReg a n

/-! ### Ill-formed commands are refused -/

theorem test_wf_ref : Instr.wf (.wtrExpire 24) = false := by decide +kernel
theorem test_wf_trk : Instr.wf (.tdcCalibrationDone 25 0) = false := by decide +kernel
theorem test_wf_dom : Instr.wf (.hoBudgetUpdate 6) = false := by decide +kernel
theorem test_wf_syn : Instr.wf (.applyInstant 7) = false := by decide +kernel
theorem test_wf_out : Instr.wf (.startEdge 40) = false := by decide +kernel
theorem test_wf_pg : Instr.wf (.pgFrameEdge 8) = false := by decide +kernel
theorem test_wf_tk : Instr.wf (.leapSecond 4) = false := by decide +kernel
theorem test_wf_port : Instr.wf (.linkFailure 8) = false := by decide +kernel
theorem test_wf_inst : Instr.wf (.bmcaRun 4 0) = false := by decide +kernel
theorem test_wf_cap : Instr.wf (.edgeCapture 16 true 0) = false := by decide +kernel
theorem test_wf_ring : Instr.wf (.ringWrite 16 false) = false := by decide +kernel
theorem test_wf_exp : Instr.wf (.exportTake 2) = false := by decide +kernel
theorem test_wf_slot : Instr.wf (.txnApply 4) = false := by decide +kernel
theorem test_wf_src : Instr.wf (.forceInject .seq 128 1 1) = false := by decide +kernel
theorem test_wf_half : Instr.wf (.pmReqWrite .seq 2 1 1) = false := by decide +kernel
theorem test_wf_eight : Instr.wf (.slotWrite .seq 0 8 1 1) = false := by decide +kernel
theorem test_wf_win : Instr.wf (.inCfgWrite .seq 0 64 1 1) = false := by decide +kernel
theorem test_wf_rail : Instr.wf (.railFault 8) = false := by decide +kernel
theorem test_wf_addr : Instr.wf (.registerWrite .spi 65536 1 1) = false := by decide +kernel
theorem test_wf_word : Instr.wf (.registerWrite .spi 0 1 65536) = false ∧ Instr.wf (.registerWrite .spi 0 65536 1) = false := by
  decide +kernel
theorem test_wf_ctx : Instr.wf (.registerWrite .cas 0 1 1) = false := by decide +kernel
theorem test_wf_strap : Instr.wf (.powerUp ⟨[], [], false⟩ 8 0) = false ∧ Instr.wf (.powerUp ⟨[], [], false⟩ 0 4) = false := by
  decide +kernel
theorem test_wf_i2c : Instr.wf (.i2cRead 128 []) = false := by decide +kernel
theorem test_wf_temps : Instr.wf (.tempWarning ⟨0, 0, 0, 0, []⟩) = false := by decide +kernel

/-! ### Steps, writes and frames: the hypotheses can be met -/

theorem witness_step : { run with pending := [.domainSnapshot] }.pending = .domainSnapshot :: [] := rfl

theorem witness_idle :
    (runAt 24998).pending = [] ∧ heldRunning (runAt 24998) = false ∧ clocked (runAt 24998) = true ∧ (runAt 24998).evq = [] ∧
    ((runAt 24998).now + 1) % 2 ^ 64 % 25000 = 24999 ∧ (∀ n, n < 16 → (run.outAt n).busy = false) ∧
    heldRunning { run with pads := { run.pads with resetLow := true } } = true ∧
    heldRunning { run with clockStop := true } = false ∧ clocked { run with clockStop := true } = false := by decide +kernel

theorem witness_settled : run.Settled ∧ ∃ t, step run = .next t := ⟨⟨by decide +kernel, by decide +kernel, by decide +kernel⟩, _, rfl⟩

theorem witness_settle : run.bist.active = [] ∧ run.acc.late = [] := ⟨rfl, rfl⟩

/-- A write that meets no obstacle, as a check. -/
def direct (s : State) (c : Ctx) (a m d : Nat) : Bool :=
  (((reach s c && !(txnAt s c).isOpen) && decide (0 < m ∧ m < 65536 ∧ d < 65536)) && ((!inOwn a && mapped a) &&
    decide (lockOf s c a m d = none))) && ((decide (strobeSlots s c a m d = []) && !outOfService s a) &&
    (decide (priorMask s (rankOf c) a = 0 ∧ lostMask s a m = 0) && s.cyc.fixed.all fun x => x.1 != a))

theorem direct_ok {s : State} {c : Ctx} {a m d : Nat} (h : direct s c a m d = true) : DirectWrite s c a m d := by
  simp only [direct, Bool.and_eq_true, decide_eq_true_eq, Bool.not_eq_true', List.all_eq_true, bne_iff_ne] at h
  obtain ⟨⟨⟨⟨h1, h2⟩, h3, h4, h5⟩, ⟨h6, h7⟩, h8⟩, ⟨h9, h10⟩, ⟨h11, h12⟩, h13⟩ := h
  exact ⟨h1, h2, ⟨h3, h4⟩, h5, h6, h7, h8, h9, h10, h11, h12, h13⟩

theorem witness_write : writeRow (.synEnable .spi 6 0x8000 0x8000) = some (.spi, SYN.CTRL 6, 0x8000, 0x8000) ∧
    DirectWrite run .spi (SYN.CTRL 6) 0x8000 0x8000 :=
  ⟨by decide +kernel, direct_ok (by decide +kernel)⟩

/-- `run` with a transaction of these entries open in the SPI context. -/
def opened (es : List Entry) : State := run.txnUp .spi fun x => { x with isOpen := true, id := 7, entries := es }

theorem witness_write_open :
    (txnAt (opened []) .spi).isOpen = true ∧ mapped 0xFFFF = false ∧ (lockOf (opened []) .spi 148 0xFFFF 1).isSome = true ∧
    mapped 148 = true ∧ lockOf (opened []) .spi (SYN.CTRL 6) 1 1 = none ∧ mapped (SYN.CTRL 6) = true ∧
    256 ≤ (txnAt (opened (List.replicate 256 ⟨0, 1, 1, 0⟩)) .spi).entries.length ∧
    (txnAt (opened (List.replicate 255 ⟨0, 1, 1, 0⟩)) .spi).entries.length < 256 := by decide +kernel

theorem witness_write_closed :
    inOwn 148 = false ∧ (txnAt run .spi).isOpen = false ∧ strobeSlots run .spi 148 1 1 = [] ∧ lockOf run .spi 148 1 1 = some 1 ∧
    strobeSlots run .spi 0xFFFF 1 65535 = [] ∧ inOwn 0xFFFF = false := by decide +kernel

/-- Two writes of one cycle, and a hardware update of a field in the cycle of its write (R410). -/
theorem witness_land :
    let s := run.noteWrite (rankOf .spi + 1) 148 1 1
    let u := run.monUp 23 fun m => { m with st := .failed }
    without 1 (priorMask s (rankOf .spi) 148) = 0 ∧ without 3 (priorMask s (rankOf .spi) 148) = 2 ∧ lostMask s 148 2 = 0 ∧
    s.cyc.fixed = [] ∧ lostMask u (INM.QSTAT 23) 65535 ≠ 0 ∧ lostMask run (INM.QSTAT 23) 65535 = 0 := by decide +kernel

theorem witness_stored :
    heldBits run SYS.SYS_EVT (Nat.land (Nat.land 65535 65535) (typeMask (· == .w1c) SYS.SYS_EVT)) = 0 ∧ run.cyc.incs = [] ∧
    (regAt REG.FRAME_ERR_CNT).map (·.fields) = some [⟨15, 0, .cnt, 0, false⟩] ∧
    heldBits run REG.FRAME_ERR_CNT (Nat.land (Nat.land 65535 5) (typeMask (· == .w1c) REG.FRAME_ERR_CNT)) = 0 := by decide +kernel

/-- SPI frames with a good CRC-8 (R392): a write of one word, a read and a 16-bit read of one word, a ping; a sound frame
with a bad CRC; a frame that ends too soon. -/
def wrFrame : List Byte := [3, 0x00, 0x10, 1, 0xFF, 0xFF, 0, 0] ++ [BitVec.ofNat 8 (crc8 [3, 0x00, 0x10, 1, 0xFF, 0xFF, 0, 0])]
def rdFrame (cmd len : Byte) (pad : Nat) : List Byte :=
  [cmd, 0xFF, 0xE0, len] ++ [BitVec.ofNat 8 (crc8 [cmd, 0xFF, 0xE0, len])] ++ List.replicate pad 0

theorem witness_frame_error :
    answers run = true ∧ run.bit REG.IF_CFG_I2C_EN = true ∧ frameSound .spi [] = false ∧ frameCrcBad [] = false ∧
    frameSound .i2c [0, 0, 0, 0] = false ∧ frameCrcBad [0, 0, 0, 0] = false ∧
    answers (run.setFld REG.IF_CFG_I2C_TOUT 1) = true ∧ (run.setFld REG.IF_CFG_I2C_TOUT 1).bit REG.IF_CFG_I2C_EN = true ∧
    (run.setFld REG.IF_CFG_I2C_TOUT 1).fld REG.IF_CFG_I2C_TOUT ≠ 0 := by decide +kernel

theorem witness_frame_crc :
    frameSound .spi [1, 0, 0, 0, 0] = true ∧ frameCrcBad [1, 0, 0, 0, 0] = true ∧ frameSound .i2c [2, 0, 0, 32, 0] = true ∧
    frameCrcBad [2, 0, 0, 32, 0] = true ∧ frameWords [2, 0, 0, 32, 0] ≠ 0 := by decide +kernel

theorem witness_ping :
    frameSound .spi (rdFrame 1 0 0) = true ∧ frameCrcBad (rdFrame 1 0 0) = false ∧ frameWords (rdFrame 1 0 0) = 0 := by decide +kernel

theorem witness_write_frame :
    frameSound .spi wrFrame = true ∧ frameSound .i2c wrFrame = true ∧ frameCrcBad wrFrame = false ∧ frameWords wrFrame = 1 ∧
    (wrFrame.getD 0 0).toNat = 3 ∧ i2cMine run 0x58 = true := by decide +kernel

theorem witness_read_frame :
    frameSound .spi (rdFrame 1 32 130) = true ∧ frameCrcBad (rdFrame 1 32 130) = false ∧
    frameSound .spi (rdFrame 2 1 4) = true ∧ frameCrcBad (rdFrame 2 1 4) = false ∧ frameSound .i2c (rdFrame 2 1 0) = true ∧
    frameWords (rdFrame 2 1 4) = 1 := by decide +kernel

theorem witness_read_frame_word :
    let f : List Byte := [2, 0x00, 0x10, 1] ++ [BitVec.ofNat 8 (crc8 [2, 0x00, 0x10, 1])] ++ List.replicate 4 0
    frameSound .spi f = true ∧ frameCrcBad f = false ∧ frameAddr f = 0x10 ∧ mapped 0x10 = true ∧ fromShadow 0x10 = false ∧
    frameAddr f ≠ CAP.SRC_STAT ∧ isPort (frameAddr f) = false := by decide +kernel

theorem witness_reads : reach run .spi = true ∧ mapped 0x10 = true ∧ fromShadow 0x10 = false ∧ latches 0x10 ≠ [] ∧
    mapped 0xFFFF = false ∧ run.bit REG.REG_CTRL_REC_HOLD = false := by decide +kernel

theorem witness_txn_control :
    reach run .spi = true ∧ lockOf run .spi REG.TXN_CTRL 0xE000 0x8000 = none ∧ Nat.land 0xE000 0x8000 / 8192 = 4 ∧
    (txnAt run .spi).isOpen = false ∧ (txnAt (opened []) .spi).isOpen = true ∧
    lockOf (opened []) .spi REG.TXN_CTRL 0xE000 0x2000 = none ∧ Nat.land 0xE000 0x2000 / 8192 % 2 = 1 ∧
    lockOf run .spi REG.TXN_CTRL 0xE000 0x4000 = none ∧ Nat.land 0xE000 0x2000 / 8192 = 1 ∧
    Nat.land 0xE000 0x4000 / 8192 = 2 := by decide +kernel

theorem witness_txn_commit_now :
    lockOf (opened []) .spi REG.TXN_CTRL 0x5F80 0x4000 = none ∧ bcWanted (opened []) .spi = false ∧
    commitBad 0 0 (winWide (opened []) .spi REG.TXN_NS 2) = false ∧ (txnAt (opened []) .spi).doomOvf = false ∧
    (txnAt (opened []) .spi).doomLock = false ∧ badSyn (opened []) [] 0 0 = none ∧ applyCheck (opened []) .spi [] 0 0 = none := by
  decide +kernel

theorem witness_txn_commit_wait :
    lockOf (opened []) .spi REG.TXN_CTRL 0x5F80 (0x4000 + 1 * 1024 + 5 * 128) = none ∧
    commitBad 1 5 (winWide (opened []) .spi REG.TXN_NS 2) = false ∧ badSyn (opened []) [] 1 5 = none ∧
    pointGone (opened []) 1 5 (winWide (opened []) .spi REG.TXN_SEC 3) (winWide (opened []) .spi REG.TXN_NS 2) = false ∧
    freeSlot (opened []) = some 0 := by decide +kernel

theorem witness_txn_commit_doomed :
    (txnAt ((opened []).txnUp .spi fun x => { x with doomOvf := true }) .spi).doomOvf = true ∧
    (txnAt ((opened []).txnUp .spi fun x => { x with doomLock := true }) .spi).doomLock = true ∧
    (freeSlot ((List.range 4).foldl (fun t w => t.slotUp w fun x => { x with busy := true }) (opened []))) = none := by decide +kernel

/-- `run` with a transaction waiting in slot 3 for generator 0, its frame seen or not, come at 0 with a timeout of 1 ms. -/
def waits (hit : Bool) (es : List Entry) (t : Nat) : State :=
  (runAt t).slotUp 3 fun x => { x with busy := true, at' := 2, arg := 0, id := 9, entries := es, timeout := 1, hit := hit }

theorem witness_txn_point :
    clocked (waits true [] 0) = true ∧ (slotOf (waits true [] 0) 3).busy = true ∧
    pointCome (waits true [] 0) (slotOf (waits true [] 0) 3) = true ∧ applyCheck (waits true [] 0) .spi [] 2 0 = none ∧
    applyCheck (waits true [⟨148, 1, 1, crc8 (bytesBE 2 148 ++ bytesBE 2 1 ++ bytesBE 2 1)⟩] 0) .spi
      [⟨148, 1, 1, crc8 (bytesBE 2 148 ++ bytesBE 2 1 ++ bytesBE 2 1)⟩] 2 0 = some 4 := by decide +kernel

theorem witness_txn_late :
    let s := waits false [] 1000000
    pointCome s (slotOf s 3) = false ∧ (slotOf s 3).bc = false ∧ 0 < (slotOf s 3).timeout ∧
    (slotOf s 3).came + (slotOf s 3).timeout * 1000000 ≤ s.now := by decide +kernel

/-- Port 7 up, with Hildo enabled on it, and a request of one READ there. -/
def hildoOn : State :=
  ((run.setFld REG.HILDO_CFG_EN 1).setFld REG.HILDO_CFG_PORTS 0x80 |>.setFld (ETH.ETH_CFG_HILDO_EN 7) 1).ethUp 7 fun x =>
    { x with link := true }
def hildoHead : List Byte := [1, 1, 0, 1, 5, 0, 0, 0] ++ [1, 1, 0x10, 0, 0, 0, 0, 0]
def hildoPay (bad : Nat) : List Byte := hildoHead ++ bytesLE 4 (crc32c hildoHead + bad) ++ List.replicate 26 0
def hildoFrame (bad : Nat) : List Byte :=
  let b := List.replicate 6 0 ++ [2, 0, 0, 0, 0, 1] ++ bytesBE 2 34997 ++ hildoPay bad
  b ++ bytesLE 4 (fcs32 b)

theorem witness_hildo :
    answers hildoOn = true ∧ hildoPassed hildoOn 7 (hildoFrame 0) = some ([2, 0, 0, 0, 0, 1], hildoPay 0) ∧
    hildoOn.bit REG.HILDO_CFG_EN = true ∧ bitsOf (hildoOn.fld REG.HILDO_CFG_PORTS) 7 7 = 1 ∧
    ((hildoPay 0).getD 1 0).toNat = 1 ∧ ((hildoPay 0).getD 3 0).toNat = 1 ∧ (hildoPay 0).length = 46 ∧
    crc32c ((hildoPay 0).take 16) = natLE (((hildoPay 0).drop 16).take 4) ∧ ((hildoPay 0).getD 0 0).toNat = 1 ∧
    ((hildoPay 0).getD 2 0).toNat = hildoOn.pads.id % 8 ∧ askedWords 1 ((hildoPay 0).drop 8) ≤ 256 ∧
    hildoOn.acc.hSeq ≠ some (natLE (((hildoPay 0).drop 4).take 4)) := by decide +kernel

theorem witness_hildo_bad :
    hildoPassed hildoOn 7 (hildoFrame 1) = some ([2, 0, 0, 0, 0, 1], hildoPay 1) ∧
    crc32c ((hildoPay 1).take 16) ≠ natLE (((hildoPay 1).drop 16).take 4) := by decide +kernel

theorem witness_hildo_again :
    let s := fun (crc : Nat) => hildoOn.accUp fun x => { x with hSeq := some 5, hCrc := crc }
    natLE (((hildoPay 0).drop 4).take 4) = 5 ∧ hildoPassed (s 0) 7 (hildoFrame 0) = some ([2, 0, 0, 0, 0, 1], hildoPay 0) ∧
    (s (crc32c hildoHead)).acc.hSeq = some 5 ∧ crc32c hildoHead = (s (crc32c hildoHead)).acc.hCrc ∧
    natLE (((hildoPay 0).drop 16).take 4) = crc32c hildoHead ∧ (s 0).acc.hSeq = some 5 ∧
    natLE (((hildoPay 0).drop 16).take 4) ≠ (s 0).acc.hCrc := by decide +kernel

theorem witness_scrub :
    voteField 0x1000 14 = some { hi := 15, lo := 14, ty := .rw, reset := 0, vote := true } ∧ (3 : Nat) < 2 ^ (15 + 1 - 14) ∧
    ¬ ((0 : Nat) = 0 ∧ (0 : Nat) = 3) ∧ majority 0 0 3 = some (bitsOf (readPlain run .seq 0x1000) 15 14) ∧
    majority 0 1 3 = none := by decide +kernel

/-! ### Inputs, domains, synthesisers, outputs, time keepers: the hypotheses can be met -/

theorem witness_epoch : clocked (runAt 24999) = true ∧ (runAt 24999).now + 25000 < 2 ^ 64 := by decide +kernel

/-- Reference k of `s` with a nominal of 1 Hz. -/
def pps (s : State) (k : Nat) : State :=
  (((s.setReg (INM.NOM_NUM k) 1).setReg (INM.NOM_NUM k + 1) 0).setReg (INM.NOM_DEN k) 1).applyEff (INM.NOM_NUM k) 5

theorem witness_los :
    let s := (runAt 250).monUp 15 fun m => { m with st := .valid }
    clocked s = true ∧ (s.monAt 15).st ≠ .absent ∧ (s.monAt 15).los = false ∧ losDue s 15 = true ∧
    losDue ((runAt 249).monUp 15 fun m => { m with st := .valid }) 15 = false ∧ (run.monAt 15).st = .absent := by decide +kernel

theorem witness_los_tod :
    let s := (runAt 250).monUp 0 fun m => { m with st := .wait }
    let s := { s with tod := { s.tod with next := some (0, 5, none) } }
    (s.monAt 0).st = .wait ∧ (s.monAt 0).los = false ∧ (s.tod.next.map (·.1)) = some 0 ∧ losDue s 0 = true := by decide +kernel

theorem witness_los_clear :
    let s := (run.monUp 0 fun m => { m with st := .failed, los := true }).trkUp 0 fun t => { t with active := true, reanchor := true }
    let u := (run.monUp 23 fun m => { m with st := .failed, los := true }).trkUp 23 fun t => { t with active := true, reanchor := true }
    (s.monAt 0).st ≠ .absent ∧ (s.monAt 0).los = true ∧ (s.trkAt 0).active = true ∧ (s.trkAt 0).reanchor = true ∧
    isPulse s 0 = false ∧ (u.ethAt 7).link = false ∧ ((u.ethUp 7 fun x => { x with link := true }).ethAt 7).link = true ∧
    ((pps s 0).monAt 0).los = true ∧ isPulse (pps s 0) 0 = true := by decide +kernel

theorem witness_wtr :
    let s := fun (b : Bool) => run.monUp 23 fun m => { m with st := .wait, ripe := b }
    wtrDone (s true) 23 = true ∧ wtrDone (s false) 23 = false := by decide +kernel

theorem witness_pulse :
    let s := (pps run 15).monUp 15 fun m => { m with st := .valid }
    clocked s = true ∧ (s.monAt 15).st ≠ .absent ∧ isPulse s 15 = true ∧ (s.trkAt 15).active = false ∧
    ((s.trkUp 15 fun t => { t with active := true, anchored := true, reanchor := false, stamp := 9 }).trkAt 15).stamp = 9 ∧
    (s.trkAt 15).anchored = false := by decide +kernel

theorem witness_windsock :
    let s := run.monUp 0 fun m => { m with st := .valid, wsStart := some 0 }
    let u := s.monUp 0 fun m => { m with wsEnd := some 0 }
    wsDue s 0 = false ∧ wsDue u 0 = true ∧ (u.monAt 0).wsStart = some 0 ∧ (u.monAt 0).wsBad = false ∧
    ((u.monUp 0 fun m => { m with wsBad := true }).monAt 0).wsBad = true := by decide +kernel

/-- `run` with the ToD receiver on, reference 0 at 1 Hz and its on-time edge at 1 s; a binary frame for that second. -/
def todOn : State :=
  (((pps (runAt 1001000000) 0).setFld SYS.TOD_CFG_EN 1).setFld SYS.TOD_CFG_LABEL 0).monUp 0 fun m =>
    { m with lastEdge := some 1000000000000, edged := true }
def todBody : List Byte := [0xA5, 0x5A, 1, 1, 100, 0, 0, 0, 0, 0, 37, 0, 0, 0]
def todFrame : List Byte := todBody ++ bytesLE 2 (crc16 todBody)

/-- A ZDA sentence of 00:01:03 on 1 January 1970, and the same with another checksum digit. -/
def zda (h : Byte) : List Byte :=
  [0x24, 0x47, 0x50, 0x5A, 0x44, 0x41, 0x2C, 0x30, 0x30, 0x30, 0x31, 0x30, 0x33, 0x2C, 0x30, 0x31, 0x2C, 0x30, 0x31, 0x2C, 0x31,
   0x39, 0x37, 0x30, 0x2C, 0x2C, 0x2A, 0x34, h, 0x0D, 0x0A]

theorem witness_tod :
    todFormat [] = none ∧ (run.setFld SYS.TOD_CFG_EN 0).bit SYS.TOD_CFG_EN = false ∧
    clocked todOn = true ∧ todOn.bit SYS.TOD_CFG_EN = true ∧ fmtTakes todOn 2 = true ∧ pairOk todOn = true ∧
    todFormat todFrame = some 2 ∧ crc16 ((todBody ++ [0, 0]).take 14) ≠ natLE ((todBody ++ [0, 0]).drop 14) ∧
    crc16 (todFrame.take 14) = natLE (todFrame.drop 14) ∧ todFrame.length = 16 ∧ (todFrame.getD 2 0).toNat = 1 ∧
    (todFrame.getD 3 0).toNat = 1 ∧ (todFrame.getD 13 0).toNat = 0 ∧ (todOn.monAt (pairRef todOn)).edged = true ∧
    (todOn.monAt (pairRef todOn)).lastEdge = some 1000000000000 ∧ todOn.bit SYS.TOD_CFG_LABEL = false ∧
    (1000000000000 : Nat) + 1000000000 ≤ 1001000000000 ∧
    1990000000000 + 10000000000 ≤ (1000000000000 : Nat) + 1000000000000 * nomDen todOn (pairRef todOn) /
      max 1 (nomNum todOn (pairRef todOn)) ∧ todOn.tod.prevSec = none := by decide +kernel

theorem witness_tod_nmea :
    let s := todOn.setFld SYS.TOD_CFG_FMT 3
    todFormat (zda 0x35) = some 0 ∧ fmtTakes s 0 = true ∧ nmeaSumOk (zda 0x35) = true ∧ nmeaUtc false (zda 0x35) = some 63 ∧
    nmeaSumOk (zda 0x36) = false := by decide +kernel

theorem witness_tod_loss :
    let s := { todOn with tod := { todOn.tod with acceptAt := some 0 }, mtb := 3000000000 }
    s.tod.acceptAt = some 0 ∧ 0 + max 1 (s.fld SYS.TOD_CFG2_LOSS_S) * 1000000000 ≤ s.now ∧
    todOn.tod.acceptAt = none := by decide +kernel

theorem witness_snapshot :
    { run with coll := { run.coll with stage := 1 } }.coll.stage ≤ 1 ∧ 2 ≤ ({ run with coll := { run.coll with stage := 2 } } : State).coll.stage ∧
    domsHeld ((run.toDecided).runTo 2000) = false ∧ domsHeld (run.bistUp fun b => { b with active := [(43, 1, 0)] }) = true ∧
    domMode (run.setFld (DOM.SEL_CTRL_MODE 5) 3) 5 = 3 := by decide +kernel

theorem witness_holdover :
    let s := (runAt 2000000000).domUp 5 fun x => { x with st := .holdover, hoStart := 0, hoTime := 1, secN := 40000, secNo := 1 }
    (s.domAt 5).st = .holdover ∧ (s.domAt 5).hoStart + ((s.domAt 5).hoTime + 1) * 1000000000 ≤ s.now ∧
    (s.domAt 5).secNo ≠ s.now / 1000000000 ∧ (s.domAt 0).secNo = 0 ∧ run.now / 1000000000 = (run.domAt 0).secNo ∧
    (run.domAt 5).st ≠ .holdover := by decide +kernel

theorem witness_oscillator :
    clocked run = true ∧ ovenOn run = true ∧ run.loa.accFaulted = false ∧
    { run with loa := { run.loa with accFaulted := true } }.loa.accFaulted = true ∧ run.seq.restarting = false ∧
    run.bit LOA.COMP_CTRL_LEARN_EN = true ∧ run.loa.learnDom = 7 ∧
    learnOk run run.loa.learnDom = false ∧ (run.loa.oven = .cold ∧ run.loa.tRes < 9200) := by decide +kernel

/-- Domain 0 of `run` fit to learn from, with an hour but one second of it learned. -/
def learning : State :=
  let s := ((runAt 2000000000).domUp 0 fun x => { x with st := .locked, selRef := 5, secN := 40000, secNo := 1, secBad := false }).monUp 5 fun m =>
    { m with st := .valid }
  { s with loa := { s.loa with learnDom := 0, learnSecs := 3599, oven := .settled } }

theorem witness_learning :
    learnOk learning learning.loa.learnDom = true ∧ learning.loa.learnDom < 6 ∧ learning.seq.restarting = false ∧
    (learning.domAt 0).secNo ≠ learning.now / 1000000000 ∧ (learning.domAt 0).secN = 40000 ∧
    (learning.domAt 0).secBad = false ∧ 3599 ≤ learning.loa.learnSecs := by decide +kernel

/-- Synthesiser 0 of `run` in a state, entered at 0, at time t. -/
def synIn (st : SynState) (t : Nat) : State := (runAt t).synUp 0 fun y => { y with st := st }

theorem witness_lock :
    ((synIn .locking 0).synAt 0).st = .locking ∧ ((synIn .locking 0).synAt 0).strobe = false ∧
    ((synIn .locking 0).synAt 0).glideLost = false ∧ ((synIn .locking 0).synAt 0).recal = false ∧ (run.synAt 6).st = .off ∧
    synLocked (synIn .locked 0) 0 = true ∧ synLocked (synIn .glide 0) 0 = true ∧ synLocked run 0 = false ∧
    outSyn run 0 = 7 ∧ outSyn (run.setFld (OUT.CFG_SRC_SYN 39) 0) 39 = 0 := by decide +kernel

/-- Windows of synthesiser 0 with the count that its N names, and a bad one; the detector's result after them. -/
theorem witness_windows :
    let s := (synIn .locking 10000000).setFld (SYN.CTRL_LD_MODE 0) 0
    let k := ldK s 0
    let w := ldWin s 0
    let c := (pfdHz (s.synAt 0).pfd * (s.synAt 0).nNow * w) / (32000000 * 2 ^ 48)
    winGood s 0 c = true ∧ winGood s 0 0 = false ∧ (List.replicate k c).length * (w * 1000) ≤ s.now - (s.synAt 0).winAt ∧
    List.replicate k c ≠ [] ∧ lockInd (s.synDetect 0 (List.replicate k c) false 0) 0 = true ∧
    lockInd (s.synDetect 0 [0] false 0) 0 = false ∧ lossInd s 0 [0] false 0 = true ∧ lossInd s 0 [c] false 0 = false := by
  decide +kernel

theorem witness_lock_times :
    ((synIn .relock 300000).synAt 0).st = .relock ∧
    ((synIn .relock 300000).synAt 0).since + relockBound (synIn .relock 300000) 0 ≤ (synIn .relock 300000).now ∧
    ¬ ((synIn .relock 299999).synAt 0).since + relockBound (synIn .relock 299999) 0 ≤ (synIn .relock 299999).now ∧
    ((synIn .locking 2000000).synAt 0).since + lockTimeout (synIn .locking 2000000) 0 ≤ (synIn .locking 2000000).now ∧
    ¬ ((synIn .locking 1999999).synAt 0).since + lockTimeout (synIn .locking 1999999) 0 ≤ (synIn .locking 1999999).now := by
  decide +kernel

/-- Synthesiser 0 locked with an update on its way, and one band that covers the plan, or none. -/
def planned (band : Bool) (pfd : Nat) : State :=
  let s := (synIn .locked 0).synUp 0 fun y =>
    { y with update := true, pfd := pfd, cur := some 0, nBase := shadowN run 0, nNew := shadowN run 0,
             table := vup y.table 0 fun _ => ⟨0, 12500000, 0, band⟩ }
  s.setFld (SYN.BT_CTRL_COUNT 0) 1

theorem witness_plan_none :
    ((planned false 0).synAt 0).update = true ∧ synLocked (planned false 0) 0 = true ∧
    bandSelect (planned false 0) 0 (shadowPfd (planned false 0) 0) (shadowN (planned false 0) 0) (some 0) = none := by
  decide +kernel

theorem witness_plan :
    bandSelect (planned true 0) 0 (shadowPfd (planned true 0) 0) (shadowN (planned true 0) 0) (some 0) = some 0 ∧
    ((planned true 0).synAt 0).cur = some 0 ∧ shadowPfd (planned true 0) 0 = ((planned true 0).synAt 0).pfd ∧
    shadowN (planned true 0) 0 = ((planned true 0).synAt 0).nCur ∧
    (run.cyc.again.contains ((SYN.CTRL_UPDATE 0).addr, (SYN.CTRL_UPDATE 0).lo)) = false ∧
    (({ run with cyc := { run.cyc with again := [((SYN.CTRL_UPDATE 0).addr, (SYN.CTRL_UPDATE 0).lo)] } } : State).cyc.again.contains
      ((SYN.CTRL_UPDATE 0).addr, (SYN.CTRL_UPDATE 0).lo)) = true ∧
    sameBand (planned true 0) 0 0 = true ∧ shadowPfd (planned true 1) 0 ≠ ((planned true 1).synAt 0).pfd ∧ run.reg (SYN.GLIDE 0) ≠ 0 ∧
    ((run.setReg (SYN.GLIDE 0) 0).reg (SYN.GLIDE 0)) = 0 := by decide +kernel

theorem witness_glide_end :
    ((synIn .glide 0).synAt 0).st = .glide ∧ ((synIn .glide 0).synAt 0).nCur = ((synIn .glide 0).synAt 0).nNew := by
  decide +kernel

/-- Output n of `run` changed. -/
def outIn (n : Nat) (f : Output → Output) : State := run.outUp n f

theorem witness_bypass :
    let s := (((outIn 39 fun o => { o with st := .gated }).setFld (OUT.CTRL_BYP_SRC 39) 2).setFld (OUT.CFG_SRC_SYN 39) 0).setReg
      (OUT.BYP_DIV 39) 2
    let s := { s.applyEff (OUT.BYP_DIV 39) 2 with mtb := 1000000 }
    (s.outAt 39).st = .gated ∧ (s.outAt 39).noByp = false ∧ synLocked s (outSyn s 39) = false ∧ bypReady s 39 = true ∧
    (s.outAt 39).gatedAt + min 10000 (s.fld (SYN.BYP_WAIT_BYP_WAIT (outSyn s 39))) * 1000 ≤ s.now ∧
    (run.outAt 39).st ≠ .gated := by decide +kernel

/-- Output 39 of `run` aligning on synthesiser 0, locked, 2 µs after an edge, its grid edge w units away. -/
def aligning (w : Nat) : State :=
  let s := (((synIn .locked 2000).synUp 0 fun y => { y with nBase := shadowN run 0, nNew := shadowN run 0, cur := some 0 }).outUp 39
    fun o => { o with st := .aligning, fresh := false, resume := true, div := 250, wait := w }).setFld (OUT.CFG_SRC_SYN 39) 0
  { s with coll := { s.coll with stage := 2 } }

theorem witness_start_edge :
    let near := aligning (5 * ((run.synAt 0).rate))
    let far := aligning (30000 * ((run.synAt 0).rate))
    mayStartEdge near 39 = true ∧ near.now % 25000 + startNs near 39 < 25000 ∧ (near.outAt 39).resume = true ∧
    overLimit near 39 0 250 = false ∧ overLimit near 39 0 1 = true ∧ isPulseOut near 39 = false ∧
    mayStartEdge far 39 = true ∧ ¬ far.now % 25000 + startNs far 39 < 25000 ∧
    (near.outAt 39).drvFault = false ∧ (run.outAt 39).fresh = true ∧ (run.outAt 39).st = .off ∧
    ((outIn 0 fun o => { o with probing := true }).outAt 0).probing = true ∧ (run.outAt 0).probing = false := by decide +kernel

theorem witness_start_run :
    let s := aligning (5 * ((run.synAt 0).rate))
    let p := s.runEpoch (s.now % 25000 + startNs s 39 - 1)
    let u := p.runEpoch (p.now % 25000 + startNs p 39)
    1 < startNs s 39 ∧ mayStartEdge p 39 = true ∧ mayStartEdge u 39 = true ∧ (u.outAt 39).counting = false := by decide +kernel

theorem witness_frame_edge :
    let s := (run.pgUp 7 fun g => { g with st := .running }).tkUp 0 fun k =>
      { k with st := .free, time := (run.pgAt 7).edge (run.pgAt 7).nextK }
    (s.pgAt 7).st ≠ .idle ∧ (s.tkAt (pgTk s 7)).st ≠ .stopped ∧
    (s.pgAt 7).edge (s.pgAt 7).nextK ≤ (s.tkAt (pgTk s 7)).time ∧ (s.pgAt 7).edge (s.pgAt 7).nextK ≠ (s.pgAt 7).after ∧
    (s.pgAt 7).trail = none ∧
    (let u := ((s.setFld (OUT.CFG_MODE 16) 1).setFld (OUT.CTRL_PG_SEL 16) 7).outUp 16 fun o => { o with st := .run, counting := true }
     isPulseOut u 16 = true ∧ u.fld (OUT.CTRL_PG_SEL 16) = 7 ∧ (u.outAt 16).counting = true ∧
     pgBound ((u.tkUp (pgTk u 7) fun k => { k with dom := 0 }).setFld (OUT.CFG_SRC_SYN 16) 0) 16 = true ∧
     pgBound ((u.tkUp (pgTk u 7) fun k => { k with dom := 1 }).setFld (OUT.CFG_SRC_SYN 16) 0) 16 = false) ∧
    (run.pgAt 7).st = .idle ∧ 0 < (run.pgAt 7).num ∧ 0 < (run.pgAt 7).den := by decide +kernel

theorem witness_tk_loss :
    let s := fun (t : Nat) => (runAt t).tkUp 3 fun k => { k with st := .track, lossFrom := 0 }
    ((s 0).tkAt 3).st = .track ∧ ((s 3000000000).tkAt 3).heard + tkLoss (s 3000000000) 3 ≤ (s 3000000000).now ∧
    ¬ ((s 2999999999).tkAt 3).heard + tkLoss (s 2999999999) 3 ≤ (s 2999999999).now ∧ run.seq.restarting = false := by
  decide +kernel

theorem witness_tk_clip :
    let s := (runAt 10000000000).tkUp 3 fun k => { k with clipped := true, clipSince := some 0 }
    (s.tkAt 3).clipped = true ∧ (s.tkAt 3).clipDone = false ∧ (s.tkAt 3).clipSince = some 0 ∧
    s.fld (TK.SERVO_CFG_CLIP_S 3) ≠ 0 ∧ 0 + s.fld (TK.SERVO_CFG_CLIP_S 3) * 1000000000 ≤ s.now ∧
    (run.tkAt 3).clipped = false := by decide +kernel

/-- Time keeper 3 of `run` at second x of TAI, with leap flags. -/
def leaps (x : Int) (l61 l59 : Nat) (q : Option Nat) : State :=
  ((run.setFld (TK.LEAP_LEAP61 3) l61).setFld (TK.LEAP_LEAP59 3) l59).tkUp 3 fun k =>
    { k with time := x * 1000000000 * 2 ^ 80, leap60 := q }

theorem witness_leap :
    run.bit (TK.LEAP_LEAP61 3) = run.bit (TK.LEAP_LEAP59 3) ∧ (leaps 86400 1 0 none).bit (TK.LEAP_LEAP61 3) = true ∧
    (leaps 86400 1 0 none).bit (TK.LEAP_LEAP59 3) = false ∧
    (tkSec (leaps 86400 1 0 none) 3 - toSigned 16 ((leaps 86400 1 0 none).reg (TK.UTC_OFS 3))) % 86400 = 0 ∧
    (leaps 86400 1 0 none).softWrote (utcField 3) = false ∧ (leaps 86400 1 0 none).softWrote (TK.LEAP_LEAP61 3) = false ∧
    (leaps 86400 1 0 none).softWrote (TK.LEAP_LEAP59 3) = false ∧ ((leaps 86400 1 0 none).tkAt 3).leap60 = none ∧
    ((leaps 86401 1 0 (some 86400)).tkAt 3).leap60 = some 86400 ∧ (86400 : Int) < tkSec (leaps 86401 1 0 (some 86400)) 3 ∧
    (leaps 86399 0 1 none).bit (TK.LEAP_LEAP59 3) = true ∧
    (tkSec (leaps 86399 0 1 none) 3 - toSigned 16 ((leaps 86399 0 1 none).reg (TK.UTC_OFS 3))) % 86400 = 86399 := by
  decide +kernel

/-! ### Ethernet, PTP, capture, cascade: the hypotheses can be met -/

/-- Port 7 of `run` enabled; with its link up. -/
def port (f : EthPort → EthPort) : State := (run.setFld (ETH.ETH_CFG_EN 7) 1).ethUp 7 f

theorem witness_link :
    ((port id).ethAt 7).link = false ∧ ((port id).ethAt 7).tc10 ≠ 2 ∧ (port id).bit (ETH.ETH_CFG_EN 7) = true ∧
    (port id).fld (ETH.ETH_CFG_SPEED 7) ≤ 4 ∧ macOn (port id) = true ∧ (port id).unitOut (33 + 7) = false ∧
    ((port fun x => { x with link := true }).ethAt 7).link = true ∧
    ((port fun x => { x with tc10 := 1 }).ethAt 7).tc10 = 1 ∧
    frameFate (port id) 7 [1, 2, 3, 4] = some .fcs := by decide +kernel

theorem crcStepR_lt (n r : Nat) (h : r < 2 ^ 32) : crcStepR 0xEDB88320 n r < 2 ^ 32 := by
  induction n generalizing r with
  | zero => exact h
  | succ n ih =>
    unfold crcStepR
    split
    · exact ih _ (Nat.xor_lt_two_pow (by omega) (by decide))
    · exact ih _ (by omega)

theorem fcs32_lt (bs : List Byte) : fcs32 bs < 2 ^ 32 := by
  have h : ∀ (bs : List Byte) (r : Nat), r < 2 ^ 32 →
      bs.foldl (fun r b => crcStepR 0xEDB88320 8 (Nat.xor r b.toNat)) r < 2 ^ 32 := by
    intro bs
    induction bs with
    | nil => intro r h; exact h
    | cons b bs ih => intro r h; exact ih _ (crcStepR_lt 8 _ (Nat.xor_lt_two_pow h (by omega)))
  exact Nat.xor_lt_two_pow (h bs _ (by decide)) (by decide)

theorem fcsOk_of_fcs (b : List Byte) : fcsOk (b ++ bytesLE 4 (fcs32 b)) = true := by
  have h := fcs32_lt b
  have l : (bytesLE 4 (fcs32 b)).length = 4 := rfl
  simp only [fcsOk, List.length_append, l, Nat.add_sub_cancel, List.drop_left, List.take_left, beq_iff_eq]
  simp [bytesLE, natLE, List.range_succ]
  omega

/-- A frame of 60 bytes to no address of the module, with its FCS; and one with a byte more than the longest frame. -/
def stray (n : Nat) : List Byte := let b := List.replicate n (0 : Byte); b ++ bytesLE 4 (fcs32 b)

theorem witness_discard :
    fcsOk (stray 60) = true ∧ frameFate (port id) 7 (stray 60) = some .outside ∧ hildoMine (port id) 7 (stray 60) = false := by
  decide +kernel

theorem witness_discard_long : fcsOk (stray 1519) = true ∧ 1522 < (stray 1519).length :=
  ⟨fcsOk_of_fcs _, by
    rw [stray, List.length_append, List.length_replicate]
    exact Nat.lt_of_lt_of_eq (by decide : 1522 < 1519 + 4) rfl⟩

theorem witness_tc10 :
    let s := ((port fun x => { x with link := true }).setFld (ETH.ETH_CFG_TC10_EN 7) 1).setFld (ETH.ETH_CFG_SLEEP_ACCEPT 7) 1
    s.bit (ETH.ETH_CFG_TC10_EN 7) = true ∧ s.bit (ETH.ETH_CFG_SLEEP_ACCEPT 7) = true ∧ (s.ethAt 7).link = true ∧
    tc10Wakes s 7 = false ∧ run.bit (ETH.ETH_CFG_TC10_EN 7) = false ∧ macOn { run with pwr := { run.pwr with st := .park } } = false ∧
    clocked { run with pwr := { run.pwr with st := .park } } = true := by decide +kernel

/-- Port 7 of instance 3 with its link up, under a profile (0 gPTP, 1 E2E), at time t. -/
def ptpPort (prof t : Nat) (f : EthPort → EthPort) : State :=
  let s := ((((runAt t).setFld (ETH.ETH_CFG_EN 7) 1).setFld (PTI.INST_CTRL_EN 3) 1).setFld (PTI.INST_CTRL_PROFILE 3) prof).setFld
    (PTI.INST_CTRL_MGMT_EN 3) 1
  (s.ptpUp 3 fun x => { x with en := true }).ethUp 7 fun x => f { x with link := true, inst := 3, pst := .listening }

/-- A header that instance 3 accepts. -/
def hdr : PtpHdr :=
  { wrap := bytesBE 6 0x011B19000000 ++ List.replicate 6 0 ++ bytesBE 2 0x88F7, len := 1522, fcs := true,
    domain := run.fld (PTI.INST_PORTS_DOMAIN 3), seq := 65535, srcId := 9, srcPort := 1, corr := 0, twoStep := true,
    logInt := 0, good := true, auth := none }

theorem witness_ptp_taken :
    let s := ptpPort 0 0 id
    clocked s = true ∧ (s.ethAt 7).link = true ∧ macOn s = true ∧ s.bit (ETH.ETH_CFG_EN 7) = true ∧ ptpOn s 7 = true ∧
    hdr.fcs = true ∧ hdr.len ≤ 1522 ∧ wrapOk s 7 0 hdr = true ∧ wrapOk s 7 13 hdr = true ∧
    wrapOk s 7 0 { hdr with wrap := hdr.wrap.drop 1 } = false ∧ ptpOn (s.ptpUp 3 fun x => { x with en := false }) 7 = false ∧
    hdr.domain = s.fld (PTI.INST_PORTS_DOMAIN (portInst s 7)) ∧ hdr.good = true ∧ authOk s (portInst s 7) hdr = true ∧
    (s.ethAt 7).pst ≠ .disabled ∧ ((ptpPort 0 0 fun x => { x with link := false }).ethAt 7).link = false ∧
    { hdr with domain := 256 }.domain ≠ s.fld (PTI.INST_PORTS_DOMAIN 3) ∧ { hdr with good := false }.good = false := by
  decide +kernel

theorem witness_ptp_sync :
    let s := ptpPort 0 1000 fun x =>
      { x with pst := .slave, pdValid := true, sync := some ⟨65535, (9, 1), some 0, 0, 0, 1000⟩, rxSync := -3 }
    (s.ethAt 7).pst.follows = true ∧ hdr.twoStep = true ∧ (s.ethAt 7).sync = some ⟨65535, (9, 1), some 0, 0, 0, 1000⟩ ∧
    s.now ≤ 1000 + logNs (s.ethAt 7).rxSync ∧ (s.ethAt 7).pdValid = true ∧ ((ptpPort 0 0 id).ethAt 7).sync = none := by
  decide +kernel

theorem witness_ptp_delay :
    let s := ptpPort 1 0 fun x => { x with pst := .master }
    let u := ptpPort 1 0 fun x => { x with pst := .uncalibrated, dreq := some ⟨65535, some 0, 0⟩, lastSync := some 0 }
    (s.ethAt 7).pst = .master ∧ isE2e s 3 = true ∧ keyMissing s 3 = false ∧ (u.ethAt 7).pst.follows = true ∧
    isE2e u 3 = true ∧ (u.ethAt 7).dreq = some ⟨65535, some 0, 0⟩ ∧ (u.ethAt 7).lastSync.isSome = true := by decide +kernel

theorem witness_ptp_pdelay :
    let s := fun (t : Nat) => ptpPort 0 t fun x => { x with pdreq := some ⟨65535, some 0, 0⟩, pdresp := some ⟨65535, (9, 1), 0, some 0, 0⟩ }
    isE2e (s 0) 3 = false ∧ keyMissing (s 0) 3 = false ∧ ((s 0).ethAt 7).pdreq = some ⟨65535, some 0, 0⟩ ∧
    ((s 0).ethAt 7).pdresp = some ⟨65535, (9, 1), 0, some 0, 0⟩ ∧ (s (reqNs (s 0) 7)).now ≤ 0 + reqNs (s 0) 7 := by decide +kernel

theorem witness_ptp_others :
    let s := ptpPort 0 0 id
    let u := ptpPort 1 0 id
    hdr.srcId ≠ clockIdentity s ∧ (s.ethAt 7).foreign.length < 8 ∧ (254 : Nat) < 255 ∧ isGptp s 3 = true ∧ isGptp u 3 = false ∧
    u.bit (PTI.INST_CTRL_MGMT_EN 3) = true ∧ (u.ptpAt 3).mgmt = [] ∧ keyMissing u 3 = false ∧
    (MgmtAsk.defaultDs ≠ .other) := by decide +kernel

theorem witness_ptp_sends :
    let m := ptpPort 0 0 fun x => { x with pst := .master }
    let late := ptpPort 0 0 fun x => { x with pst := .master, syncTxAt := some 1, annTxAt := some 1, reqTxAt := some 1 }
    let e := ptpPort 1 0 fun x => { x with pst := .uncalibrated }
    macOn m = true ∧ ptpOn m 7 = true ∧ (m.ethAt 7).pst = .master ∧ dueSince (m.ethAt 7).syncTxAt (syncNs m 7) m.now = true ∧
    dueSince (late.ethAt 7).syncTxAt (syncNs late 7) late.now = false ∧ dueSince (m.ethAt 7).annTxAt (annNs m 7) m.now = true ∧
    dueSince (late.ethAt 7).annTxAt (annNs late 7) late.now = false ∧ canSend m 7 = true ∧ isE2e m 3 = false ∧
    dueSince (m.ethAt 7).reqTxAt (reqNs m 7) m.now = true ∧ (m.ethAt 7).pdreq = none ∧ isE2e e 3 = true ∧
    (e.ethAt 7).pst.follows = true ∧ canSend e 7 = true ∧ dueSince (e.ethAt 7).reqTxAt (reqNs e 7) e.now = true ∧
    (e.ethAt 7).dreq = none ∧ dueSince (late.ethAt 7).reqTxAt (reqNs late 7) late.now = false := by decide +kernel

theorem witness_ptp_timeouts :
    let s := fun (t : Nat) => ptpPort 1 t fun x => { x with pst := .slave, rxSync := -7, rxAnn := -7 }
    let late := syncTimeouts (s 0) 3 * logNs (-7)
    let lateA := annTimeouts (s 0) 3 * logNs (-7)
    let b := (s lateA).setFld (PTI.INST_CTRL_BMCA_EN 3) 1
    ((s late).ethAt 7).syncAt + late ≤ (s late).now ∧ ¬ ((s (late - 1)).ethAt 7).syncAt + late ≤ (s (late - 1)).now ∧
    ((s late).ethAt 7).syncTo = false ∧ bmcaOn b 3 = true ∧ ptpOn b 7 = true ∧ (b.ethAt 7).annTo = false ∧
    (b.ethAt 7).annAt + lateA ≤ b.now ∧ (s (lateA - 1)).now < ((s (lateA - 1)).ethAt 7).annAt + lateA := by decide +kernel

theorem witness_ptp_missing :
    let s := fun (t : Nat) => ptpPort 1 t fun x =>
      { x with pst := .slave, rxSync := -7, sync := some ⟨0, (9, 1), some 0, 0, 0, 0⟩, dreq := some ⟨0, some 0, 0⟩, pdMiss := 2, pdValid := true }
    let t := reqNs (s 0) 7
    0 + logNs ((s (logNs (-7))).ethAt 7).rxSync ≤ (s (logNs (-7))).now ∧
    ((s t).ethAt 7).dreq.or ((s t).ethAt 7).pdreq = some ⟨0, some 0, 0⟩ ∧ 0 + reqNs (s t) 7 ≤ (s t).now ∧
    2 ≤ ((s t).ethAt 7).pdMiss ∧ ((s t).ethAt 7).pdValid = true ∧ (s (t - 1)).now < 0 + reqNs (s (t - 1)) 7 ∧
    (run.ethAt 7).sync = none ∧ (run.ethAt 7).dreq = none ∧ (run.ethAt 7).pdreq = none := by decide +kernel

theorem witness_bmca :
    let s := (ptpPort 1 0 id).setFld (PTI.INST_CTRL_BMCA_EN 3) 1
    (s.ptpAt 3).en = true ∧ bmcaOn s 3 = true ∧ macOn s = true ∧ (run.ptpAt 3).en = false ∧ s.seq.restarting = false := by
  decide +kernel

/-- Capture source 15 enabled on rising edges, its pad a plain input; a ring 15 of n records with room for m. -/
def captures (last : Option Nat) (kept : Nat) : State :=
  (run.setFld (INM.IN_CFG_ROLE 15) 1).srcUp 15 fun c => { c with cfg := 0x8F00, last := last, kept := kept, dec := 2 }
def ringOf (n m : Nat) (buf : List CapRec) : State :=
  (run.ringUp 15 fun r => { r with recs := List.replicate n [1], size := m }).capUp fun c => { c with buf := buf }

theorem witness_capture :
    srcEn (captures none 0) 15 = true ∧ capOn (captures none 0) = true ∧ noInput (captures none 0) 15 = false ∧
    edgeSeen (capSrc (captures none 0) 15).cfg true = true ∧ edgeSeen (capSrc (captures none 0) 15).cfg false = false ∧
    (capSrc (captures (some 5) 2) 15).last = some 5 ∧ (40004 : Nat) < 5 + 40000 ∧ ¬ (40005 : Nat) < 5 + 40000 ∧
    (capSrc (captures none 2) 15).kept % max 1 (capSrc (captures none 2) 15).dec = 0 ∧
    (capSrc (captures none 1) 15).kept % max 1 (capSrc (captures none 1) 15).dec ≠ 0 := by decide +kernel

theorem witness_ring :
    let r : CapRec := ⟨[7], 15, 49, true⟩
    (run.cap.buf.find? fun r => r.ring == 15) = none ∧ ((ringOf 1 2 [r]).cap.buf.find? fun r => r.ring == 15) = some r ∧
    (ringAt (ringOf 1 2 [r]) 15).next = none ∧ (ringAt (ringOf 1 2 [r]) 15).recs.length < (ringAt (ringOf 1 2 [r]) 15).size ∧
    (ringAt (ringOf 2 2 [r]) 15).size ≤ (ringAt (ringOf 2 2 [r]) 15).recs.length ∧ (ringAt (ringOf 2 2 [r]) 15).size ≠ 0 := by
  decide +kernel

theorem witness_ring_read :
    reach run .spi = true ∧ (rdBuf run .spi 15).pos = 0 ∧ (ringAt (ringOf 1 2 []) 15).recs = [1] :: [] ∧
    (ringAt run 15).recs = [] ∧ (rdBuf (run.rdUp .spi 15 fun _ => ⟨15, [1]⟩) .spi 15).pos = 15 := by decide +kernel

/-- Export channel 1 running on port 7, ring 15 in its mask with a record. -/
def exports (n t : Nat) : State :=
  let s := ((((ringOf 1 2 []).setFld (CAP.EXP_CFG_EN 1) 1).setFld (CAP.EXP_CFG_PORT 1) 7).setFld (ETH.ETH_CFG_HILDO_EN 7) 1).setReg
    (CAP.EXP_MASK 1) 0x8000
  let s := (s.ethUp 7 fun x => { x with link := true }).expUp 1 fun e => { e with recs := List.replicate n [1], firstAt := 0 }
  { s with mtb := BitVec.ofNat 64 t }

theorem witness_export :
    expRuns run 1 = false ∧ expRuns (exports 45 0) 1 = true ∧ expNext (exports 45 0) 1 = some 15 ∧
    (ringAt (exports 45 0) 15).recs = [1] :: [] ∧ 45 ≤ (vat (exports 45 0).cap.exp 1).recs.length ∧
    (vat (exports 44 0).cap.exp 1).recs.length < 45 ∧ (exports 45 0).seq.restarting = false := by decide +kernel

theorem witness_export_flush :
    let w := min 1000 (max 1 (run.fld (CAP.EXP_CFG_FLUSH_US 1))) * 1000
    (vat (exports 1 w).cap.exp 1).recs ≠ [] ∧ (vat (exports 1 w).cap.exp 1).firstAt + w ≤ (exports 1 w).now ∧
    expRuns (exports 1 w) 1 = true ∧ ¬ (vat (exports 1 (w - 1)).cap.exp 1).firstAt + w ≤ (exports 1 (w - 1)).now := by
  decide +kernel

/-- A cascade of role r with both ends able to run, its block changed. -/
def casc (r t : Nat) (f : Cas → Cas) : State :=
  let s := ((runAt t).setFld CAS.CAS_CFG_EN 1).setFld CAS.CAS_CFG_DN_DOM 5
  s.casUp fun c => f { c with role := r, setEn := true }

/-- A frame of 250 bytes with a good CRC, of number 0, and one with a bad CRC. -/
def casFrame : List Byte := List.replicate 246 0 ++ bytesLE 4 (crc32c (List.replicate 245 0))

theorem witness_cascade_frames :
    dnOn run = false ∧ upOn run = false ∧ dnOn (casc 2 0 id) = true ∧ upOn (casc 2 0 id) = true ∧ frameGood casFrame = true ∧
    frameGood (casFrame.take 249) = false ∧ ((casc 2 0 fun c => { c with dn := 1, dnGood := 15 }).cas.dnGood = 15) ∧
    (casc 2 0 fun c => { c with up := 2 }).cas.up = 2 ∧ natLE ((casFrame.drop 1).take 4) < frameMod := by decide +kernel

theorem witness_cascade_down :
    let s := fun (t : Nat) => casc 2 t fun c => { c with up := 2, dn := 1 }
    (s 3000).cas.up ≠ 0 ∧ (s 3000).cas.upAt + 3000 ≤ (s 3000).now ∧ (s 2999).now < (s 2999).cas.upAt + 3000 ∧
    (s 2999).cas.upBad < 16 ∧ (s 3000).cas.dn ≠ 0 ∧ (s 3000).cas.dnAt + 3000 ≤ (s 3000).now ∧ (s 0).cas.role = 2 ∧
    run.cas.up = 0 ∧ run.cas.dn = 0 := by decide +kernel

theorem witness_takeover :
    let s := fun (t : Nat) => casc 2 t fun c => { c with deputy := true, pos := 1 }
    takeoverDue (s (takeoverNs (s 0))) = true ∧ takeoverDue (s (takeoverNs (s 0) - 1)) = false := by decide +kernel

theorem witness_broadcast :
    let s := fun (st : Nat) => casc 1 0 fun c => { c with bc := { c.bc with st := st, fa := 0, kind := 0 }, frameNo := 0, gone := [(0, 0)] }
    let late := casc 1 0 fun c => { c with bc := { c.bc with st := 1, fa := 20 }, frameNo := 5 }
    let past := fun (u : State) => u.cas.bc.st = 1 ∧
      frameAhead ((u.cas.bc.fa + frameMod - 20) % frameMod) u.cas.frameNo = true
    past late ∧ ¬ past run ∧ (s 1).cas.bc.st = 1 ∧ bcDue (s 1) = true ∧ (s 3).cas.bc.st = 3 ∧ bcDue (s 3) = true ∧
    run.cas.bc.st = 0 ∧
    applyCheck (s 3) (slotOf (s 3) (s 3).cas.bc.slot).ctx (slotOf (s 3) (s 3).cas.bc.slot).entries 0 0 = none := by
  decide +kernel

theorem witness_ref32 :
    let s := casc 2 0 fun c => { c with ref := .wait, up := 2, rxCal := true, clear := 2 }
    s.cas.ref = .wait ∧ casFail s = 0 ∧ casWaited s = true ∧ run.cas.ref = .absent := by decide +kernel


/-! ### Supervision, self-test, life cycle, memory, supply, starts, storage, faults: the hypotheses can be met -/

theorem witness_alive :
    alive run = true ∧ clocked run = true ∧ run.clockStop = false ∧ { run with clockStop := true }.clockStop = true ∧
    alive { run with clockStop := true } = true ∧ (txnAt run .seq).isOpen = false ∧
    (txnAt (run.txnUp .seq fun x => { x with isOpen := true }) .seq).isOpen = true := by decide +kernel

/-- `run` with a background pass due, the units of BG_MASK word 0 given, and the ring banks' sources on or off. -/
def bgDue (mask : Nat) : State :=
  let s := (((run.setFld BIST.BG_CTRL_EN 1).setReg (BIST.BG_MASK 0) mask).setReg (BIST.BG_MASK 1) 0).setReg (BIST.BG_MASK 2) 0
  { s with bist := { s.bist with done := true, hoursLeft := 0 } }

theorem witness_background :
    let s := bgDue 0x0030
    (bgMay s = true ∧ s.bist.hoursLeft = 0 ∧ s.bist.bgLeft = []) ∧ s.bist.active = [] ∧ s.bist.queued = none ∧
    ¬ (bgMay run = true ∧ run.bist.hoursLeft = 0 ∧ run.bist.bgLeft = []) ∧
    ((List.range 43).filter fun u => bitsOf (s.reg (BIST.BG_MASK (u / 16))) (u % 16) (u % 16) == 1) = [] ++ 4 :: [5] ∧
    isIdle s 4 = true ∧ isIdle ((bgDue 0x2000).monUp 3 fun m => { m with st := .valid }) 13 = false := by decide +kernel

/-- A test of unit 4 in service at hand; one of start-up. -/
def inTest : State := run.bistUp fun b => { b with active := [(4, 1, 0)] }
def ended (n : Nat) (sig : Bool) : TestResult := ⟨4, n, sig, true, 0, 0⟩

theorem witness_bist_end :
    inTest.bist.active.find? (fun x => x.1 == 4) = some (4, 1, 0) ∧ inTest.bist.queued = none ∧ inTest.bist.bgLeft = [] ∧
    0 < sparesLeft inTest 4 ∧ sparesLeft (inTest.memUp fun m => { m with soft := vup m.soft 4 fun _ => 99 }) 4 = 0 ∧
    verdictOf 4 (ended 81920 true) = .pass ∧ verdictOf 4 (ended 81920 false) = .fail ∧
    verdictOf 4 (ended 81921 true) = .fail ∧ verdictOf 4 (ended 81919 true) = .incomplete ∧
    (run.bistUp fun b => { b with full := false }).bist.full = false ∧ run.bist.done = false ∧ run.bist.full = true ∧
    run.bist.active.find? (fun x => x.1 == 4) = none := by decide +kernel

/-- A fuse transition to q under way; the seal window open until 5 ns; `run` in FIELD with the sealing flag clear. -/
def fusing (q : LcState) : State := run.lcUp fun l => { l with busy := some q }

theorem witness_fuse :
    run.lc.busy = none ∧ (fusing .field).lc.busy = some .field ∧ (fusing .field).bist.active = [] ∧
    lcMoves (lcState (fusing .field)) .field = true ∧ (fusing .field).nvs.sealFlag = false ∧
    lcMoves (lcState (fusing .sealed)) .sealed = false ∧ lcState (fusing .ret) = .provision ∧
    lcMoves (lcState (fusing .ret)) .ret = true := by decide +kernel

theorem witness_seal_window :
    let s := fun (t : Nat) => (runAt t).lcUp fun l => { l with sealing := some 5 }
    (s 5).lc.sealing = some 5 ∧ 5 ≤ (s 5).now ∧ (s 4).now < 5 ∧ run.lc.sealing = none ∧ (s 0).lc.sealing.isSome = true := by
  decide +kernel

theorem witness_phy :
    (run.ethAt 7).phyFault = false ∧ ((run.ethUp 7 fun x => { x with phyFault := true }).ethAt 7).phyFault = true ∧
    run.pwr.st ≠ .off := by decide +kernel

theorem witness_supply :
    alive run = true ∧ uvwTh run ≤ 6000 ∧ 3600 ≤ uvwTh run ∧ run.pwr.uvWarn = false ∧ run.pwr.ov = false ∧
    bitsOf run.pwr.railBad 7 7 = 0 ∧ (run.pwrUp fun p => { p with uvWarn := true, ov := true }).pwr.ov = true ∧
    bitsOf (run.pwrUp fun p => { p with railBad := 0x80 }).pwr.railBad 7 7 = 1 := by decide +kernel

/-- `run` in hold-up with an operation. -/
def holding (o : NvsOp) (is : List Nat) : State :=
  { run with pwr := { run.pwr with holdup := true }, nvs := { run.nvs with op := o, incs := is } }

theorem witness_holdup :
    (vat (run.pwrUp fun p => { p with brz := vup p.brz 3 fun b => { b with active := true } }).pwr.brz 3).active = true ∧
    (run.pwrUp fun p => { p with armed := true }).pwr.armed = true ∧ run.pwr.armed = false ∧ run.pwr.holdup = false ∧
    alive (holding .idle []) = true ∧ (holding .idle []).pwr.holdup = true ∧ (holding .idle []).nvs.op = .idle ∧
    (holding .idle []).nvs.incs = [] ∧ (holding .idle [3]).nvs.incs ≠ [] ∧
    opPage (holding (.page 255 [1]) []) = some (255, [1]) ∧ opPage (holding .idle []) = none ∧
    (holding (.page 255 [1]) []).nvs.op ≠ .idle := by decide +kernel

/-- Temperatures: every die at d, the case at c, in 0.01 °C. -/
def temps (d c : Int) : Temps := ⟨0, 0, c, 0, List.replicate 7 d⟩

theorem witness_temperature :
    let at' := fun (d : Int) => run.sense ⟨none, some (temps d 2000), none⟩
    clocked run = true ∧ run.thm.trip = false ∧ 15500 ≤ tempOf (at' 15500) (hotDie (at' 15500)) ∧
    tempOf (at' 15499) (hotDie (at' 15499)) < 15500 ∧ tempOf (at' 13999) (hotDie (at' 13999)) < 14000 ∧
    14000 ≤ tempOf (at' 14000) (hotDie (at' 14000)) ∧
    ({ run with thm := { run.thm with trip := true } } : State).thm.trip = true ∧ run.pwr.st ≠ .keep ∧
    warnTh run 0 ≤ tempOf (at' 13500) 0 ∧ limitTh run 0 ≤ tempOf (at' 14500) 0 ∧ tempOf (at' 13300) 0 ≤ warnTh run 0 - 200 ∧
    tempOf (at' 14499) 0 < limitTh run 0 ∧ bitsOf run.thm.warn 0 0 = 0 ∧ bitsOf run.thm.limit 7 7 = 0 := by decide +kernel

theorem witness_start :
    (let s := { holding .idle [] with pads := { run.pads with resetLow := true } }
     s.pwr.st ≠ .off ∧ s.pads.resetLow = true ∧ s.pwr.holdup = true) ∧
    (run.pwrUp fun p => { p with st := .off }).pwr.st = .off ∧ imageError [] = some (1, 0) ∧
    seqDead run = false ∧ alive run = true ∧ run.pwr.holdup = false ∧ alive (holding .idle []) = true ∧ storing run = false ∧
    ({ run with pads := { run.pads with resetLow := true } } : State).pads.resetLow = true ∧ run.pwr.st ≠ .off := by
  decide +kernel

/-- A module in start-up whose records are applied up to byte r of the register section given, with the persist map given. -/
def loading (sec pmap : List Byte) (next : Option Nat) : State :=
  let bs : List Byte := List.replicate 16 0 ++ bytesLE 4 64 ++ bytesLE 4 sec.length ++ bytesLE 4 (64 + sec.length) ++
    bytesLE 4 pmap.length ++ List.replicate 32 0 ++ sec ++ pmap
  { State.reset with cfg := { Cfg.reset with lst := .apply, next := next, flash := ⟨bs, bs, true⟩, len := bs.length } }

theorem witness_record_wait :
    let s := loading [0, 3, 100, 0] [] (some 0)
    let u := loading [3, 100, 0] [] (some 0)
    clocked s = true ∧ s.cfg.next = some 0 ∧ s.cfg.lst = .apply ∧ s.cfg.waitTo ≤ s.now ∧ regSection s ≠ [] ∧
    recAt (regSection s) 0 = (1, .stop) ∧ recAt (regSection u) 0 = (3, .wait 100) ∧
    recAt (regSection (loading [9] [] (some 0))) 0 = (0, .bad) ∧ recAt (regSection s) 4 = (0, .bad) ∧ run.cfg.next = none := by
  decide +kernel

theorem witness_image_done :
    let s := loading [0] [] none
    (s.cfg.lst = .apply ∧ s.cfg.next = none ∧ s.bist.done = false) ∧ pmapError s.cfg.flash.pass2 = none ∧
    imgLE s.cfg.flash.pass2 36 4 = 0 ∧ storedEntries s = [] ∧ hasModel s = false ∧
    pmapError (loading [0] [0, 0, 0, 0] none).cfg.flash.pass2 = some 65 ∧
    ({ run with cfg := { run.cfg with lst := .done } } : State).cfg.lst = .done ∧ run.pwr.st ≠ .boot := by decide +kernel

theorem witness_startup_done :
    State.reset.pwr.st = .boot ∧ State.reset.bist.done = false ∧ clocked State.reset = true ∧ State.reset.cfg.lst ≠ .done ∧
    State.reset.thm.trip = false ∧ State.reset.nvs.shadow = none ∧
    seqDead State.reset = false ∧ State.reset.pwr.deferred = false ∧ (unitAt State.reset 12).unusable = false ∧
    ({ State.reset with cfg := { State.reset.cfg with lst := .error } } : State).cfg.lst = .error ∧
    shadowOk ({ State.reset with nvs := { Nvs.reset with shadow := some ⟨Vector.replicate 16 (some 3), (none, none), 0, 0⟩ } }
      : State) = true := by decide +kernel

/-- `run` with an operation, increments and a scrub due. -/
def nvsIn (o : NvsOp) (is : List Nat) (due : Bool) : State :=
  { run with nvs := { run.nvs with op := o, incs := is, scrubReq := due } }

theorem witness_nvs :
    run.cyc.again = [] ∧ alive (nvsIn .idle [] false) = true ∧ (nvsIn .idle [] false).nvs.op = .idle ∧ (nvsIn (.page 255 [1]) [] false).nvs.pend = none ∧
    (nvsIn (.page 255 [1]) [] false).nvs.op = .page 255 [1] ∧ (nvsIn (.page 255 [1]) [] false).nvs.storeNext = none ∧
    (nvsIn (.store [(192, [1])] 0 false false 0) [] false).nvs.op = .store ((192, [1]) :: []) 0 false false 0 ∧
    (nvsIn (.store [] 1 true false 0) [] false).nvs.op = .store [] 1 true false 0 ∧ (nvsIn .idle [15, 0] false).nvs.incs = [15, 0] ∧
    (((nvsIn .idle [] true).nvs.scrubReq = true ∨ (nvsIn .idle [] true).nvs.hoursLeft = 0) ∧
      (nvsIn .idle [] true).nvs.op = .idle ∧ (nvsIn .idle [] true).pwr.holdup = false) ∧
    (nvsIn .idle [] false).nvs.scrubReq = false ∧ (nvsIn .idle [] false).nvs.hoursLeft ≠ 0 := by decide +kernel

/-- The module in state p since 0 at time t, with the WAKE pad (high) and the RTC (alarm 1 s) as sources. -/
def sleeping (p : PState) (t : Nat) : State :=
  let s := ((((runAt t).setFld PWR.WAKE_CFG_WAKE_EN 1).setFld PWR.WAKE_CFG_WAKE_POL 1).setFld PWR.WAKE_CFG_RTC_EN 1).setReg
    PWR.RTC_ALARM 1
  let s := (s.setReg (PWR.RTC_ALARM + 1) 0).applyEff PWR.RTC_ALARM 2
  s.pwrUp fun x => { x with st := p }

theorem witness_wake :
    padWakes (sleeping .park 0) true = true ∧ padWakes (sleeping .park 0) false = false ∧ padWakes (sleeping .run 0) true = false ∧
    padWakes (sleeping .dormant 0) true = true ∧ padWakes (sleeping .nap 0) true = true ∧
    rtcWakes (sleeping .keep 1000000000) = true ∧ rtcWakes (sleeping .keep 999999999) = false ∧
    (sleeping .park 0).bist.queued = none ∧ rtcWakes (sleeping .dormant 1000000000) = true ∧ alive (sleeping .dormant 0) = true ∧ (sleeping .run 0).pwr.st ≠ .nap := by
  decide +kernel

/-- `run` at 10 ms with WARN events of source 127 counted at 0, THRESH_N n and WINDOW w ms; a WARN event of it. -/
def counting (n w : Nat) : State :=
  let s := ((runAt 10000000).setReg (clsAddr 127) (n * 256)).setReg (clsAddr 127 + 1) w
  { s with flt := vup s.flt 127 fun c => { c with warns := [0] } }
def warned : Event := ⟨127, .warn, true, false, 1, 0, 0, []⟩

theorem witness_window :
    threshNow (counting 2 0) 127 = 2 ∧ windowNow (counting 2 11) 127 = 11 ∧ (counting 2 0).cyc.wrote = [] ∧
    clsThresh (counting 2 0) 127 = 2 ∧ finalSev (counting 2 0) warned = .severe ∧ finalSev (counting 2 11) warned = .severe ∧
    finalSev (counting 2 10) warned = .warn ∧ finalSev (counting 1 10) warned = .severe ∧ finalSev (counting 0 0) warned = .warn ∧
    clsWindow (counting 2 65535) 127 = 65535 ∧ finalSev (counting 0 0) { warned with sev := .severe } = .severe ∧
    finalSev (counting 1 0) { warned with sev := .info } = .info ∧ (counting 2 0).fltAt 127 ≠ run.fltAt 127 := by decide +kernel

/-- `run` with a severe latch of source src. -/
def latched (src : Nat) : State :=
  { run.setFld SYS.FLT_SEL_SRC src with flt := vup run.flt src fun c => { c with sev := true, pend := true } }

theorem witness_latch :
    (latched 127).fld SYS.FLT_SEL_SRC = 127 ∧ ((latched 127).fltAt 127).sev = true ∧ latchHeld (latched 127) 127 = false ∧
    ((latched 3).pwrUp fun p => { p with clkFault := true }).fld SYS.FLT_SEL_SRC = 3 ∧
    latchHeld ((latched 3).pwrUp fun p => { p with clkFault := true }) 3 = true ∧ (run.fltAt 127).sev = false ∧
    goes 0x8000 SYS.FLT_SRC_CLEAR_REFUSED = false ∧ goes 0x8000 SYS.FLT_SRC_SEVERE = true ∧
    goes 0x8000 SYS.FLT_SRC_PEND = false ∧ goes 0x4000 SYS.FLT_SRC_PEND = true ∧ goes 0x4000 SYS.FLT_SRC_SEVERE = false := by
  decide +kernel

theorem witness_latch_write :
    DirectWrite run .i2c SYS.FLT_CTRL 0xFFFF 0xC000 ∧ DirectWrite run .hildo SYS.FLT_SRC 0x8000 0x8000 :=
  ⟨direct_ok (by decide +kernel), direct_ok (by decide +kernel)⟩

theorem witness_safe_states :
    (∀ n, n < 40 → covered run n = false ∧ (run.outAt n).st = .off) ∧
    covered ({ run with pads := { run.pads with safeLow := true } } : State) 39 = true ∧
    ((outIn 39 fun o => { o with st := .run }).outAt 39).st = .run ∧ outSafe run 39 ≠ 2 ∧
    outSafe (run.setFld (OUT.CTRL_SAFE 39) 2) 39 = 2 ∧ run.bist.active = [] ∧
    ((outIn 39 fun o => { o with st := .safe }).outAt 39).st = .safe := by decide +kernel

/-! ### What the spec's worked examples and tables give -/

/-- The state that a step ends in; the state itself where it does not. -/
def after (s : State) (i : Instr) : State :=
  match exec i s with
  | .next t => t
  | _ => s

def digits : List Byte := [0x31, 0x32, 0x33, 0x34, 0x35, 0x36, 0x37, 0x38, 0x39]

/-- The check values of R394 and R334. -/
theorem test_crc : crc8 digits = 0xDF ∧ crc32c digits = 0xE3069283 := by decide +kernel

/-- The addresses that R7, R71, R152, R268, R288 and R356 give as examples. -/
theorem test_addresses :
    DOM.SLOT 1 3 = 0x1104 ∧ INM.QSTAT 5 = 0x0958 ∧ INM.LIMIT 23 = 0x0DCC ∧ OUT.STAT 20 = 0x2288 ∧ TK.TK_STAT 2 = 0x2A01 ∧
    RING.USED 3 = 0x3D34 := by decide +kernel

/-- "One masked write on SPI": the frame sets DOM2.SEL_CTRL.PREF_SLOT to 1 and leaves the rest. -/
theorem test_spi_write :
    let s := run.setReg 0x1200 0x5A5A
    (after s (.spiWrite [0x03, 0x12, 0x00, 0x01, 0x0F, 0x00, 0x01, 0x00, 0x95])).reg 0x1200 = 0x515A ∧
    (after s (.spiWrite [0x03, 0x12, 0x00, 0x01, 0x0F, 0x00, 0x01, 0x00, 0x96])).reg 0x1200 = 0x5A5A := by decide +kernel

/-- SYN1 on the 12.5 GHz plan with the four entries of the example's table at 65 °C. -/
def example125 : State :=
  let s := (((run.setReg (SYN.N_INT 1) 78).setReg (SYN.N_FRAC 1) 0).setReg (SYN.N_FRAC 1 + 1) 0).setReg (SYN.N_FRAC 1 + 2) 0x2000
  let s := ((s.setFld (SYN.BT_CTRL_COUNT 1) 59).setReg (SYN.T_CAL 1) 2500).setFld (SYN.BAND_CFG_TUNE_HALF 1) 600
  let s := s.synUp 1 fun y =>
    { y with table := Vector.ofFn fun i =>
        if i.val = 55 then ⟨55, 12444000, -400, true⟩ else if i.val = 56 then ⟨56, 12488000, -400, true⟩
        else if i.val = 57 then ⟨57, 12532000, -400, true⟩ else if i.val = 58 then ⟨58, 12576000, -400, true⟩ else default }
  { s with thm := { s.thm with dies := List.replicate 7 6500 } }

/-- "A 156.25 MHz plan on 12.5 GHz": entry 57 is selected, 55 does not cover, and a VCO in band 56 stays there. -/
theorem test_band :
    let s := example125
    bandSelect s 1 0 (shadowN s 1) none = some 57 ∧ bandCovers s 1 55 0 (shadowN s 1) = false ∧
    bandSelect s 1 0 (shadowN s 1) (some 56) = some 56 ∧ bandCovers s 1 58 0 (shadowN s 1) = true ∧
    bandFc s 1 57 = 12511948800 * 1000000 := by decide +kernel

/-- "A holdover budget after 8 h": DOM2 one whole second before t seconds of holdover, with the values of the table. -/
def budget (t : Nat) : State :=
  let s := ((run.setReg (LOA.BANK_SIG_F 0) 6).setReg (LOA.BANK_SIG_T 0) 2).setReg (LOA.BANK_SIG_A 0) 50
  let s := ((s.setReg (DOM.HO_LIMIT 2) 1000).setReg (DOM.HO_LIMIT 2 + 1) 0).applyEff (DOM.HO_LIMIT 2) 2
  let s := s.applyEff (LOA.BANK_SIG_A 0) 3
  let s := s.domUp 2 fun x =>
    { x with st := .holdover, hoStart := 0, hoTime := t - 1, teEntry := 15000, hoSe := 2, grade := 3, dtcMax := 600 }
  { s with mtb := BitVec.ofNat 64 (t * 1000000000) }

theorem test_budget :
    ((after (budget 3600) (.hoBudgetUpdate 2)).domAt 2).hoTe = 91 ∧
    ((after (budget 28800) (.hoBudgetUpdate 2)).domAt 2).hoTe = 831 ∧
    ((after (budget 86400) (.hoBudgetUpdate 2)).domAt 2).hoTe = 3903 := by decide +kernel

theorem test_budget_limit :
    ((after (budget 33252) (.hoBudgetUpdate 2)).domAt 2).hoExp = false ∧
    ((after (budget 33253) (.hoBudgetUpdate 2)).domAt 2).hoExp = true ∧
    (after (budget 33253) (.hoBudgetUpdate 2)).bit (DOM.HO_STAT_EXPIRED 2) = true := by decide +kernel

/-- "Calibrating one hop": RT is 36,860 ps, and D 18,400 ps with ASYM_DN at −60 ps. -/
theorem test_hop :
    let body : List Byte := [0] ++ bytesLE 4 7 ++ List.replicate 15 0 ++ bytesLE 4 481600 ++ List.replicate 222 0
    let s := (casc 1 0 fun c => { c with dn := 2, gone := [(7, 0)] }).setReg CAS.ASYM_DN 0xFFC4
    let t := after s (.casReturnFrame 518460 (body ++ bytesLE 4 (crc32c (body.drop 1))))
    t.cas.rt = 36860 ∧ t.cas.ds = [18400] := by decide +kernel

/-- "A loss of lock that escalates": three events in the window of 1,000 ms are severe at the third, and word 4 of the
history's entries is what the example's table gives. -/
theorem test_escalates :
    let s := ((runAt 700000000).setReg (clsAddr 76) 0x0340).setReg (clsAddr 76 + 1) 1000
    let s := { s with flt := vup s.flt 76 fun c => { c with warns := [300000000, 0] } }
    let t := (s.classify ⟨76, .warn, true, true, 0, 0, 0, []⟩).classify ⟨77, .warn, true, false, 0, 0, 0, []⟩
    histWord t (histOf 77) 0 4 = 0x904D ∧ histWord t (histOf 76) 1 4 = 0xE04C ∧ (t.fltAt 76).sev = true ∧
    (t.fltAt 77).sev = false := by decide +kernel

/-- With nothing waiting the MTB counter moves on by 1 ns. -/
theorem test_idle_step : ∃ t, step (runAt 7) = .next t ∧ t.now = 8 := ⟨_, rfl, by decide +kernel⟩

/-- A word of no row: the table gives no row any bits. -/
theorem test_decode : Sys2Proof.decodeTableWord 16 0 = none ∧ (run.withFetchWord 16 0) = run := ⟨rfl, rfl⟩

/-- R468: seven ticks of the RTC are 213,623 ns and a remainder. -/
theorem test_rtc :
    let s := run.pwrUp fun p => { p with st := .nap }
    ((List.range 7).foldl (fun t _ => after t .rtcTick) s).now = 213623 := by decide +kernel

/-- R484: SAFE_N takes a running output to its safe state. -/
theorem test_safe_n :
    ((after (outIn 39 fun o => { o with st := .run }) .safeNFall).outAt 39).st = .safe ∧
    ((after (outIn 39 fun o => { o with st := .off }) .safeNFall).outAt 39).st = .off := by decide +kernel

/-- R480: a watchdog expiry restarts the sequencer and leaves the module in RUN. -/
theorem test_watchdog :
    (after run .watchdogExpire).seq.restarting = true ∧ (after run .watchdogExpire).pwr.st = .run ∧
    (after (after run .watchdogExpire) .sequencerRestartDone).seq.restarting = false := by decide +kernel

/-! ### The write rows -/

theorem witness_write_hyps :
    DirectWrite run .spi (INM.QUAL_CTRL 23) 0x4000 0x4000 ∧ DirectWrite run .i2c (OUT.CTRL 39) 0x8000 0x8000 ∧
    DirectWrite run .hildo (ETH.PORT_CTRL 7) 0x4000 0x4000 ∧ DirectWrite run .seq SYS.LC_CTRL 0x8700 0x8000 :=
  ⟨direct_ok (by decide +kernel), direct_ok (by decide +kernel), direct_ok (by decide +kernel), direct_ok (by decide +kernel)⟩

def monIn (q : QState) : State := { run with mon := vup run.mon 23 fun x => { x with st := q } }

theorem witness_timing_monitors :
    direct (monIn .valid) .spi (INM.QUAL_CTRL 23) 0x4000 0x4000 = true ∧ ((monIn .valid).monAt 23).st ≠ .absent ∧
    (run.monAt 23).st = .absent ∧ goes 0x4000 (INM.QUAL_CTRL_REQUAL 23) = true ∧
    goes 0x4000 (INM.QUAL_CTRL_CNT_CLR 23) = false ∧ forceFail (monIn .valid) 23 = false ∧
    forceFail ((monIn .valid).storeWord (INM.QUAL_CTRL 23) 0x4000 0x4000) 23 = false ∧
    forceFail ((monIn .valid).storeWord (INM.QUAL_CTRL 23) 0x8000 0x8000) 23 = true ∧
    goes 0x8000 (INM.QUAL_CTRL_REQUAL 23) = false ∧
    forceFail ((monIn .failed).setReg (INM.QUAL_CTRL 23) 0x8000) 23 = true ∧
    failing (((monIn .failed).setReg (INM.QUAL_CTRL 23) 0x8000).storeWord (INM.QUAL_CTRL 23) 0x8000 0) 23
      ((monIn .failed).monAt 23) = false ∧
    direct run .spi TRK.CTRL 0x2000 0x2000 = true ∧ goes 0x2000 TRK.CTRL_CNT_CLR = false ∧
    goes 0x4000 TRK.CTRL_CNT_CLR = true ∧ direct run .spi (TRK.IN_DELAY 23) 1 1 = true := by decide +kernel

def domIn (f : Domain → Domain) : State := { run with dom := vup run.dom 5 f }

theorem witness_timing_domains :
    direct run .spi (DOM.SEL_CTRL 5) 0x0080 0x0080 = true ∧ goes 0x0080 (DOM.SEL_CTRL_BO_RESET 5) = true ∧
    goes 0x0080 (DOM.SEL_CTRL_CNT_CLR 5) = false ∧
    (let u := run.storeWord (DOM.SEL_CTRL 5) 0x0080 0x0080
     domMode u 5 = domMode run 5 ∧ domPref u 5 = domPref run 5 ∧
     u.fld (DOM.SEL_CTRL_PREF_SLOT 5) = run.fld (DOM.SEL_CTRL_PREF_SLOT 5)) ∧
    domMode (run.storeWord (DOM.SEL_CTRL 5) 0xC000 0x8000) 5 = 2 ∧ domMode run 5 = 0 ∧ goes 0x8000 (DOM.SEL_CTRL_BO_RESET 5) = false ∧
    (let u := run.storeWord (DOM.SEL_CTRL 5) 0x0F00 0x0700
     domPref u 5 = some 7 ∧ u.fld (DOM.SEL_CTRL_PREF_SLOT 5) ≠ run.fld (DOM.SEL_CTRL_PREF_SLOT 5) ∧ domMode u 5 = 0) ∧
    (run.domAt 5).sel ≠ some 7 ∧ ((domIn fun x => { x with sel := some 7 }).domAt 5).sel = some 7 ∧
    direct run .spi (DOM.SLOT 5 7) 0x8000 0 = true ∧
    slotEn ((domIn fun x => { x with sel := some 7 }).storeWord (DOM.SLOT 5 7) 0x8000 0) 5 7 = false := by decide +kernel

def tkStop (q : TState) : State := { run with tk := vup run.tk 3 fun x => { x with st := q } }

theorem witness_timing_keepers :
    direct run .spi (TK.TK_CTRL 3) 0xF000 0x8000 = true ∧ hits 0xF000 (TK.TK_CTRL_EN 3) = true ∧
    (let u := run.storeWord (TK.TK_CTRL 3) 0xF000 0x8000
     u.bit (TK.TK_CTRL_EN 3) = true ∧ u.fld (TK.TK_CTRL_DOM 3) = 0 ∧ tkSrc u 3 = tkSrc run 3) ∧
    (run.storeWord (TK.TK_CTRL 3) 0xF000 0xE000).fld (TK.TK_CTRL_DOM 3) = 6 ∧ (run.tkAt 3).st = .stopped ∧ run.pwr.st ≠ .boot ∧
    (run.storeWord (TK.TK_CTRL 3) 0x8000 0).bit (TK.TK_CTRL_EN 3) = false ∧ ((tkStop .track).tkAt 3).st ≠ .stopped ∧
    hits 0x0180 (TK.TK_CTRL_EN 3) = false ∧ goes 0x0100 (TK.TK_CTRL_REARM 3) = true ∧ goes 0x0080 (TK.TK_CTRL_LOAD 3) = true ∧
    goes 0x0180 (TK.TK_CTRL_CAPTURE 3) = false ∧ goes 0x0180 (TK.TK_CTRL_CNT_CLR 3) = false ∧
    goes 0x0080 (TK.TK_CTRL_REARM 3) = false ∧ goes 0x0100 (TK.TK_CTRL_LOAD 3) = false ∧
    run.effWide (TK.LD_NS 3) 2 < 1000000000 ∧
    ({ run with eff := run.eff.set (TK.LD_NS 3 + 1) 0xFFFF } : State).effWide (TK.LD_NS 3) 2 ≥ 1000000000 ∧
    tkSrc (run.setReg (TK.TK_CTRL 3) 0x0A00) 3 = 5 ∧
    tkSrc ((run.setReg (TK.TK_CTRL 3) 0x0A00).storeWord (TK.TK_CTRL 3) 0x0E00 0) 3 = 0 ∧
    direct run .spi (TK.INC_FRAC 3 + 2) 0xFFFF 1 = true := by decide +kernel

theorem witness_output_writes :
    direct run .spi (OUT.CTRL 39) 0x8000 0x8000 = true ∧ hits 0x8000 (OUT.CTRL_EN 39) = true ∧
    goes 0x8000 (OUT.CTRL_CNT_CLR 39) = false ∧ outEn (run.storeWord (OUT.CTRL 39) 0x8000 0x8000) 39 = true ∧
    outEn (run.storeWord (OUT.CTRL 39) 0x8000 0) 39 = false ∧ (run.outAt 39).st = .off ∧ run.pwr.st = .run ∧
    outValid (run.storeWord (OUT.CTRL 39) 0x8000 0x8000) 39 = false ∧
    outValid ((run.setReg (OUT.CFG 39) 0x0100).storeWord (OUT.CTRL 39) 0x8000 0x8000) 39 = true ∧ (run.outAt 39).div = 0 ∧
    isPulseOut ((run.setReg (OUT.CFG 39) 0x0100).storeWord (OUT.CTRL 39) 0x8000 0x8000) 39 = false ∧
    ((outIn 39 fun o => { o with st := .off, div := 4 }).outAt 39).div ≠ 0 ∧
    ((outIn 39 fun o => { o with st := .run }).outAt 39).st ≠ .off ∧
    direct run .spi (OUT.STEP 39) 65535 0xFFFE = true ∧ direct run .spi (OUT.DIV 39 + 1) 0xFFFF 0 = true ∧
    (run.storeWord (OUT.DIV 39 + 1) 0xFFFF 0).wide (OUT.DIV 39) 2 ≠ 1 ∧
    ((run.setReg (OUT.DIV 39) 1).storeWord (OUT.DIV 39 + 1) 0xFFFF 0).wide (OUT.DIV 39) 2 = 1 ∧
    direct run .spi (OUT.EVT 39) 0x2000 0x2000 = true ∧ goes 0x2000 (OUT.EVT_DRV_FAULT 39) = true := by decide +kernel

def pgIn (q : PgState) : State := { run with pg := vup run.pg 7 fun x => { x with st := q } }

theorem witness_pulse_writes :
    direct run .spi (PG.PG_CTRL 7) 0x8000 0x8000 = true ∧ hits 0x8000 (PG.PG_CTRL_EN 7) = true ∧
    goes 0x8000 (PG.PG_CTRL_ALIGN 7) = false ∧ (run.storeWord (PG.PG_CTRL 7) 0x8000 0x8000).bit (PG.PG_CTRL_EN 7) = true ∧
    (run.storeWord (PG.PG_CTRL 7) 0x8000 0).bit (PG.PG_CTRL_EN 7) = false ∧ (run.pgAt 7).st = .idle ∧
    ((pgIn .running).pgAt 7).st ≠ .idle ∧ periodOk (pgNum run 7) (pgDen run 7) = true ∧
    periodOk (pgNum { run with eff := run.eff.set (PG.PER_NUM 7 + 1) 0 |>.set (PG.PER_NUM 7) 1 } 7) 1 = false ∧
    hits 0x0F80 (PG.PG_CTRL_EN 7) = false ∧ goes 0x0800 (PG.PG_CTRL_ALIGN 7) = true ∧
    (let s := { pgIn .running with cap := { run.cap with src := vup run.cap.src 0 fun x => { x with cfg := 0x8000 } } }
     let u := s.storeWord (PG.PG_CTRL 7) 0x0F80 0x0800
     srcEn u (u.fld (PG.PG_CTRL_ALIGN_SRC 7)) = true ∧ srcTk u (u.fld (PG.PG_CTRL_ALIGN_SRC 7)) = pgTk u 7) ∧
    direct run .spi (PG.OFFSET 7 + 2) 0xFFFF 1 = true := by decide +kernel

def synSt (q : SynState) : State := { run with syn := vup run.syn 6 fun x => { x with st := q } }

theorem witness_synth_writes :
    direct run .spi (SYN.CTRL 6) 0x8000 0x8000 = true ∧ hits 0x8000 (SYN.CTRL_EN 6) = true ∧
    goes 0x8000 (SYN.CTRL_CNT_CLR 6) = false ∧ goes 0x8000 (SYN.CTRL_UPDATE 6) = false ∧ goes 0x8000 (SYN.CTRL_RECAL 6) = false ∧
    (run.storeWord (SYN.CTRL 6) 0x8000 0).bit (SYN.CTRL_EN 6) = false ∧
    (run.storeWord (SYN.CTRL 6) 0x8000 0x8000).bit (SYN.CTRL_EN 6) = true ∧ (run.synAt 6).st = .off ∧
    synPowered (run.storeWord (SYN.CTRL 6) 0x8000 0x8000) 6 = true ∧
    bandCount (run.storeWord (SYN.CTRL 6) 0x8000 0x8000) 6 = 0 ∧ ((synSt .glide).synAt 6).st ≠ .off ∧
    hits 0x4200 (SYN.CTRL_EN 6) = false ∧ goes 0x4000 (SYN.CTRL_UPDATE 6) = true ∧ goes 0x0200 (SYN.CTRL_RECAL 6) = true ∧
    synLocked (synSt .locking) 6 = false ∧ direct run .spi (SYN.BT_DATA2 6) 0xFFFF 1 = true := by decide +kernel

theorem witness_network_writes :
    direct run .spi (ETH.PORT_CTRL 7) 0x7000 0x4000 = true ∧ goes 0x4000 (ETH.PORT_CTRL_CNT_CLR 7) = false ∧
    goes 0x4000 (ETH.PORT_CTRL_PD_RESTART 7) = true ∧ goes 0x2000 (ETH.PORT_CTRL_SLEEP_REQ 7) = true ∧
    goes 0x1000 (ETH.PORT_CTRL_WAKE_REQ 7) = true ∧ direct run .spi PTP.KEY_DATA 65535 7 = true ∧
    direct run .spi PTP.KEY_CTRL 0x00C0 0x0080 = true ∧ goes 0x0080 PTP.KEY_CTRL_COMMIT = true ∧
    goes 0x0040 PTP.KEY_CTRL_ERASE = true ∧ goes 0x0080 PTP.KEY_CTRL_ERASE = false ∧ run.ptpc.keyBuf.length ≠ 16 ∧
    ({ run with ptpc := { run.ptpc with keyBuf := List.replicate 16 7 } } : State).ptpc.keyBuf.length = 16 ∧
    direct run .spi (RING.RCFG 15) 0x0006 0x0004 = true ∧ hits 0x0006 (RING.RCFG_SIZE 15) = false ∧
    hits 0x0006 (RING.RCFG_BASE 15) = false ∧ goes 0x0004 (RING.RCFG_FLUSH 15) = true ∧
    goes 0x0004 (RING.RCFG_CNT_CLR 15) = false ∧ goes 0x0002 (RING.RCFG_CNT_CLR 15) = true ∧
    direct run .spi (RING.RD_CTRL 15) 0x8000 0x8000 = true ∧ goes 0x8000 (RING.RD_CTRL_RD_RESTART 15) = true ∧
    direct run .spi CAP.CAP_CTRL 0xE000 0xC000 = true ∧ goes 0xC000 CAP.CAP_CTRL_PEAK_CLR = false ∧
    goes 0xC000 CAP.CAP_CTRL_CNT_CLR = true ∧ goes 0xC000 CAP.CAP_CTRL_SEQ_CLR = true ∧
    direct run .spi CAS.CAS_CTRL 0x4000 0x4000 = true ∧ goes 0x4000 CAS.CAS_CTRL_CNT_CLR = false ∧
    goes 0x4000 CAS.CAS_CTRL_YIELD = true ∧ goes 0x4000 CAS.CAS_CTRL_RECAL = false ∧ goes 0x2000 CAS.CAS_CTRL_RECAL = true ∧
    ({ run with cas := { run.cas with role := 3 } } : State).cas.role = 3 ∧ run.cas.role ≠ 3 := by decide +kernel

/-- `run` in FIELD. -/
def inField : State := { run with lc := { run.lc with provFuse := true, fieldFuse := true } }

theorem witness_lifecycle_writes :
    direct inField .spi SYS.LC_CTRL 0x8700 0x8300 = true ∧ lcState inField = .field ∧ inField.lc.busy = none ∧
    (let u := (inField.setReg SYS.LC_CONFIRM 0xA503).storeWord SYS.LC_CTRL 0x8700 0x8300
     u.fld SYS.LC_CTRL_TARGET = 3 ∧ LcState.ofCode 3 = some .sealed) ∧
    inField.reg SYS.LC_CONFIRM ≠ 0xA503 ∧ (unitAt inField 12).unusable = false ∧
    ({ run with lc := { run.lc with busy := some .field } } : State).lc.busy ≠ none ∧ lcMoves (lcState run) .sealed = false ∧
    run.lc.sealing = none ∧ keyOk run = false ∧ goes 0x8300 SYS.LC_CTRL_GO = true ∧ goes 0x8300 SYS.LC_CTRL_CLOSE = false ∧
    goes 0x8300 SYS.LC_CTRL_KEY_COMMIT = false ∧ goes 0x8300 SYS.LC_CTRL_UNSEAL_REQ = false ∧
    goes 0x8300 SYS.LC_CTRL_UNSEAL_GO = false ∧ goes 0x4000 SYS.LC_CTRL_CLOSE = true ∧ goes 0x4000 SYS.LC_CTRL_GO = false ∧
    goes 0x0880 SYS.LC_CTRL_KEY_COMMIT = true ∧ goes 0x2000 SYS.LC_CTRL_UNSEAL_REQ = true ∧
    goes 0x1000 SYS.LC_CTRL_UNSEAL_GO = true ∧ run.lc.nonceAt = none ∧ lcState run ≠ .sealed ∧
    (run.storeWord SYS.LC_CTRL 0x0880 0x0880).bit SYS.LC_CTRL_KEY_HALF = true ∧
    ({ run with lc := { run.lc with sealing := some 5, nonceAt := some 0 } } : State).lc.sealing ≠ none := by decide +kernel

theorem witness_system_writes :
    direct run .spi (clsAddr 127) 4 4 = true ∧ direct run .spi (clsAddr 127 + 1) 0xFFFF 5 = true ∧ bitsOf 4 2 2 = 1 ∧
    clsThresh (run.storeWord (clsAddr 127) 0xFFF8 0x0500) 127 ≠ clsThresh run 127 ∧
    clsWindow (run.storeWord (clsAddr 127 + 1) 0xFFFF 5) 127 ≠ clsWindow run 127 ∧
    direct run .spi BIST.BIST_CTRL 0x8000 0x8000 = true ∧ goes 0x8000 BIST.BIST_CTRL_RUN = true ∧
    goes 0x8000 BIST.BIST_CTRL_ABORT = false ∧ goes 0x8000 BIST.BIST_CTRL_CNT_CLR = false ∧
    ({ run with bist := { run.bist with queued := some 3 } } : State).bist.queued.isSome = true ∧
    direct run .spi MEM.WIPE_CTRL 0x8000 0x8000 = true ∧ goes 0x8000 MEM.WIPE_CTRL_WIPE = true ∧
    direct run .spi CFG.CFG_CTRL 0x4000 0x4000 = true ∧ goes 0x4000 CFG.CFG_CTRL_STORE = true ∧
    goes 0x4000 CFG.CFG_CTRL_CNT_CLR = false ∧ storing run = false ∧ storing (holding (.store [] 0 false false 0) []) = true ∧
    ({ run with cfg := { run.cfg with loaded := false } } : State).cfg.loaded = false := by decide +kernel

theorem witness_storage_writes :
    direct run .spi NVS.NVS_CTRL 0x2000 0x2000 = true ∧ goes 0x2000 NVS.NVS_CTRL_PAGE_WRITE = true ∧
    goes 0x2000 NVS.NVS_CTRL_CNT_INC = false ∧ goes 0x2200 NVS.NVS_CTRL_CNT_CLR = false ∧
    goes 0x2200 NVS.NVS_CTRL_PAGE_READ = false ∧ goes 0x2200 NVS.NVS_CTRL_SCRUB_NOW = false ∧ run.nvs.op = .idle ∧
    run.fld NVS.PAGE_SEL_PAGE < 19 ∧ (run.setReg NVS.PAGE_SEL 0xFFFF).fld NVS.PAGE_SEL_PAGE > 191 ∧
    (run.setFld NVS.PAGE_SEL_PAGE 191).fld NVS.PAGE_SEL_PAGE = 191 ∧ protOf (run.setFld NVS.PAGE_SEL_PAGE 191) 191 = false ∧
    protOf (run.setFld NVS.PROTECT_BP 3) 191 = true ∧ run.pwr.holdup = false ∧ goes 0x0200 NVS.NVS_CTRL_CNT_INC = true ∧
    goes 0x0200 NVS.NVS_CTRL_PAGE_WRITE = false ∧ run.nvs.userInc = none ∧
    direct run .spi NVS.PROTECT 0xC000 0x4000 = true ∧ hits 0xC000 NVS.PROTECT_BP = true ∧
    direct run .spi PWR.PS_CTRL 0xF000 0x1000 = true ∧ goes 0x1000 PWR.PS_CTRL_GO = true ∧
    pTarget (run.storeWord PWR.PS_CTRL 0xF000 0x1000) = .run ∧ run.pwr.st.rung.isSome = true ∧
    pTarget (run.storeWord PWR.PS_CTRL 0xF000 0x3000) = .park ∧ run.bist.done = false ∧
    direct run .spi LOA.COMP_CTRL 0x0080 0x0080 = true ∧ goes 0x0080 LOA.COMP_CTRL_LOAD_FACTORY = true ∧
    goes 0x0100 LOA.COMP_CTRL_APPLY_STAGED = true ∧ goes 0x0100 LOA.COMP_CTRL_LOAD_FACTORY = false ∧
    goes 0x0180 LOA.COMP_CTRL_CNT_CLR = false ∧ (run.flag (LOA.BANK_STAT_VALID 1)).bit (LOA.BANK_STAT_VALID 1) = true ∧
    direct run .spi SYS.BRZ_CTRL 0x8000 0x8000 = true ∧ goes 0x8000 SYS.BRZ_CTRL_STOP = true := by decide +kernel

end Sys2Proof.Tests
end

section
/-! Starts and RESET_N (O48): the registers after a reset, what every step of a start leaves alone, the load that fails in
pass 1, and the four rows (R14, R424, R432, R433, R453, R454, R539, R555). -/
namespace Sys2Proof.Machine

/-! ### Registers after a reset (R14) -/

/-- A store cut down to some addresses finds what it found there, and nothing elsewhere. -/
theorem Store.find_filter {α : Type} (q : Nat → Bool) (a : Nat) (r : List (Nat × α)) :
    Store.find a (r.filter fun x => q x.1) = if q a then Store.find a r else none := by
  induction r with
  | nil => simp [Store.find]
  | cons p r ih =>
    obtain ⟨b, x⟩ := p
    by_cases hab : a = b
    · subst hab
      cases hq : q a <;> simp [hq, Store.find, ih]
    · cases hq : q b <;> simp [hq, Store.find, ih, hab]

theorem VoteStore.get_filter (q : Nat → Bool) (a : Nat) (r : VoteStore) :
    VoteStore.get (r.filter fun x => q x.1) a = if q a then r.get a else resetWord a := by
  unfold VoteStore.get
  rw [Store.find_filter]
  cases q a <;> rfl

/-- Writes of other registers leave a register alone. -/
theorem reg_foldl_setReg_ne {a b : Nat} (w : Nat → Nat) (l : List Nat) (s : State) (h : ∀ i ∈ l, a ≠ b + i) :
    (l.foldl (fun t i => t.setReg (b + i) (w i)) s).reg a = s.reg a := by
  induction l generalizing s with
  | nil => rfl
  | cons i l ih =>
    rw [List.foldl_cons, ih _ fun j hj => h j (List.mem_cons_of_mem i hj), reg_setReg_ne (h i List.mem_cons_self)]

theorem applyEff_reg (s : State) (b n a : Nat) : (s.applyEff b n).reg a = s.reg a := by
  unfold State.applyEff
  rw [foldl_keeps fun t : State => t.reg a]
  exact fun _ _ => rfl

theorem activeLoad_reg_ne (s : State) (w : Nat → Nat) {a : Nat} (h : ¬ (0x0720 ≤ a ∧ a < 0x0740)) :
    (s.activeLoad w).reg a = s.reg a := by
  unfold State.activeLoad
  rw [applyEff_reg]
  refine reg_foldl_setReg_ne w _ s fun i hi => ?_
  have := List.mem_range.mp hi
  omega

theorem activeLoad_pads (s : State) (w : Nat → Nat) : (s.activeLoad w).pads = s.pads := by
  unfold State.activeLoad State.applyEff
  rw [foldl_keeps fun t : State => t.pads, foldl_keeps fun t : State => t.pads] <;> exact fun _ _ => rfl

/-- Outside the ACTIVE bank and block protection a reset of the registers keeps the FACTORY bank only. -/
theorem regsReset_reg (s : State) {a : Nat} (h : ¬ (0x0720 ≤ a ∧ a < 0x0740)) (hp : a ≠ NVS.PROTECT) :
    s.regsReset.reg a = if 0x0740 ≤ a ∧ a < 0x0760 then s.reg a else (resetWord a).toNat := by
  unfold State.regsReset
  dsimp only
  rw [activeLoad_reg_ne _ _ h, State.setFld, reg_setReg_ne (a := NVS.PROTECT_BP.addr) hp]
  have hf := VoteStore.get_filter (fun b => decide (0x0740 ≤ b) && decide (b < 0x0760)) a s.regs
  simp only [State.reg, hf, Bool.and_eq_true, decide_eq_true_eq]
  split <;> rfl

/-! ### What a start resets and keeps -/

theorem reinit_reg (s : State) (cause a : Nat) : (s.reinit cause).reg a = s.regsReset.reg a := by
  unfold State.reinit
  generalize s.regsReset = t
  rfl

theorem reinit_reg_outside_banks (s : State) (cause a : Nat) (h : ¬ (0x0720 ≤ a ∧ a < 0x0760)) (hp : a ≠ NVS.PROTECT) :
    (s.reinit cause).reg a = (resetWord a).toNat := by
  rw [reinit_reg, regsReset_reg s (by omega) hp, if_neg (by omega)]

theorem reinit_reg_factory (s : State) (cause a : Nat) (h1 : 0x0740 ≤ a) (h2 : a < 0x0760) :
    (s.reinit cause).reg a = s.reg a := by
  have hp : NVS.PROTECT < 0x0740 := by decide
  rw [reinit_reg, regsReset_reg s (by omega) (by omega), if_pos ⟨h1, h2⟩]

@[simp] theorem reinit_pads (s : State) (cause : Nat) : (s.reinit cause).pads = s.pads := by
  have h : s.regsReset.pads = s.pads := activeLoad_pads _ _
  unfold State.reinit
  rw [← h]
  generalize s.regsReset = t
  rfl

@[simp] theorem reinit_mtb (s : State) (cause : Nat) : (s.reinit cause).mtb = if cause = 1 then 0 else s.mtb := rfl
@[simp] theorem reinit_pwr (s : State) (cause : Nat) : (s.reinit cause).pwr = s.pwr.restart cause := rfl
@[simp] theorem reinit_cfg (s : State) (cause : Nat) :
    (s.reinit cause).cfg = { Cfg.reset with flash := s.cfg.flash } := rfl
@[simp] theorem reinit_nvs (s : State) (cause : Nat) :
    (s.reinit cause).nvs = s.nvs.restart (cause == 1) (cause == 1 || cause == 3) := rfl

theorem unusable_reinit (s : State) (cause u : Nat) : (unitAt (s.reinit cause) u).unusable = (unitAt s u).unusable := by
  show (vat (s.bist.units.map Unit3.restart) u).unusable = (vat s.bist.units u).unusable
  unfold vat
  split
  · rw [Vector.getElem_map]
    rfl
  · rfl

theorem seqDead_reinit (s : State) (cause : Nat) : seqDead (s.reinit cause) = seqDead s := by
  simp only [seqDead, unusable_reinit]

/-- Power-up ends a STORE of before; any other start leaves it running (R441). -/
theorem storing_reinit (s : State) (cause : Nat) : storing (s.reinit cause) = (cause != 1 && storing s) := by
  cases h : cause == 1 <;> simp only [storing, reinit_nvs, Nvs.restart, bne, h] <;> rfl

/-! ### The steps of a start (R453, R454) -/

/-- What every step of a start but the load leaves alone. -/
def startPart (s : State) :=
  (s.pwr.st, s.pwr.cause, s.mtb, s.pads, s.cfg, s.bist, s.nvs.ctr, s.nvs.op, s.nvs.storeNext)

/-- A step of a start: it leaves `startPart` alone, and counter increments and events only join their queues. -/
structure StartStep (s t : State) : Prop where
  part : startPart t = startPart s
  incs : s.nvs.incs <+: t.nvs.incs
  evq : s.evq <+: t.evq

namespace StartStep

theorem of_same {s t : State} (part : startPart t = startPart s) (incs : t.nvs.incs = s.nvs.incs) (evq : t.evq = s.evq) :
    StartStep s t :=
  ⟨part, ⟨[], (List.append_nil _).trans incs.symm⟩, ⟨[], (List.append_nil _).trans evq.symm⟩⟩

theorem refl (s : State) : StartStep s s := of_same rfl rfl rfl

theorem trans {s t u : State} (h : StartStep s t) (k : StartStep t u) : StartStep s u :=
  ⟨k.part.trans h.part, h.incs.trans k.incs, h.evq.trans k.evq⟩

theorem foldl {α : Type} {f : State → α → State} (h : ∀ t x, StartStep t (f t x)) (l : List α) (s : State) :
    StartStep s (l.foldl f s) := by
  induction l generalizing s with
  | nil => exact refl s
  | cons x l ih => exact (h s x).trans (ih (f s x))

theorem setReg (s : State) (a n : Nat) : StartStep s (s.setReg a n) := of_same rfl rfl rfl

theorem flag (s : State) (f : Field) : StartStep s (s.flag f) := of_same rfl rfl rfl

theorem flagIf (s : State) (c : Bool) (f : Field) : StartStep s (s.flagIf c f) := by
  unfold State.flagIf
  split
  · exact flag s f
  · exact refl s

theorem raise (s : State) (src : Nat) (sev : Severity) (c r w : Nat) (o : List Nat) :
    StartStep s (s.raise src sev c r w o) := ⟨rfl, ⟨[], List.append_nil _⟩, ⟨_, rfl⟩⟩

theorem cfgEvent (s : State) (src : Nat) (sev : Severity) : StartStep s (s.cfgEvent src sev) := raise s _ _ _ _ _ _

theorem nvsEvent (s : State) (src : Nat) (sev : Severity) (c p : Nat) : StartStep s (s.nvsEvent src sev c p) :=
  raise s _ _ _ _ _ _

theorem countInc (s : State) (k : Nat) : StartStep s (s.countInc k) := by
  unfold State.countInc
  split
  · exact ⟨rfl, ⟨_, rfl⟩, ⟨[], List.append_nil _⟩⟩
  · exact refl s

theorem pageChecked (s : State) (p : Nat) : StartStep s (s.pageChecked p) := by
  have reported (t : State) (h : StartStep s t) (f : Field) (c : Nat) : StartStep s ((t.flag f).nvsEvent 24 .warn c p) :=
    (h.trans (flag t f)).trans (nvsEvent _ _ _ _ _)
  unfold State.pageChecked
  dsimp only
  split
  · refine reported _ ?_ _ _
    exact of_same rfl rfl rfl
  · split
    · refine reported _ ?_ _ _
      exact of_same rfl rfl rfl
    · exact refl s

theorem pagesRead (s : State) (l : List Nat) : StartStep s (s.pagesRead l) := foldl pageChecked l s

theorem nvsScan (s : State) : StartStep s s.nvsScan := by
  unfold State.nvsScan
  refine trans ?_ (foldl (fun t p => ((flag t _).trans (countInc _ 3)).trans (nvsEvent _ _ _ _ p)) _ _)
  exact of_same rfl rfl rfl

theorem brzStart (s : State) : StartStep s s.brzStart := by
  unfold State.brzStart
  refine trans ?_ (foldl (fun t i => setReg t _ _) _ _)
  exact of_same rfl rfl rfl

theorem ovenTo (s : State) (q : Oven) : StartStep s (s.ovenTo q) := by
  unfold State.ovenTo
  split
  · exact refl s
  · exact ((flagIf s _ _).trans (raise _ _ _ _ _ _ _)).trans (of_same rfl rfl rfl)

theorem ovenUpdate (s : State) : StartStep s s.ovenUpdate := by
  refine trans ?_ (ovenTo s.ovenTrack _)
  exact of_same rfl rfl rfl

end StartStep

theorem storing_of_startPart {s t : State} (h : startPart t = startPart s) : storing t = storing s := by
  have ⟨hop, hnext⟩ : t.nvs.op = s.nvs.op ∧ t.nvs.storeNext = s.nvs.storeNext := by
    simp_all only [startPart, Prod.mk.injEq, and_self]
  simp only [storing, hop, hnext]

theorem seqDead_of_startPart {s t : State} (h : startPart t = startPart s) : seqDead t = seqDead s := by
  have hb : t.bist = s.bist := by simp_all only [startPart, Prod.mk.injEq]
  simp only [seqDead, unitAt, hb]

/-- A start comes to the load with BOOT counted and its event of source 0 raised; nothing else of `startPart` has moved. -/
theorem start_eq_loadTry (s : State) (cause : Nat) : ∃ t : State, s.start cause = t.loadTry ∧
    startPart t = startPart (s.reinit cause) ∧ (s.reinit cause).nvs.incs ++ [0] <+: t.nvs.incs ∧
    ⟨0, .info, true, false, cause, 0, 0, []⟩ ∈ t.evq := by
  have counted : ((s.reinit cause).countInc 0).nvs.incs = (s.reinit cause).nvs.incs ++ [0] := rfl
  have scanned : StartStep ((s.reinit cause).countInc 0)
      ((((s.reinit cause).countInc 0).pwrUp fun p => { p with pg := true }).nvsScan.pagesRead [0, 192]) := by
    refine .trans ?_ ((StartStep.nvsScan _).trans (StartStep.pagesRead _ _))
    exact .of_same rfl rfl rfl
  generalize hu : State.pagesRead _ _ = u at scanned
  have raised := StartStep.raise u 0 .info cause 0 0 []
  have readied := (StartStep.brzStart (u.raise 0 .info cause)).trans (StartStep.ovenUpdate _)
  refine ⟨(u.raise 0 .info cause).brzStart.ovenUpdate, by rw [← hu]; rfl, ?_, ?_, ?_⟩
  · rw [readied.part, raised.part, scanned.part, (StartStep.countInc _ 0).part]
  · rw [← counted]
    exact scanned.incs.trans (raised.incs.trans readied.incs)
  · exact readied.evq.subset (by simp)

/-! ### A load that fails in pass 1 (R432, R433) -/

/-- What a load error of pass 1 leaves: its code and offset, and otherwise a step of a start. -/
theorem loadFail_pass1 (s : State) (code ofs : Nat) :
    StartStep (s.cfgUp fun c => { c with
        lst := .error, err := code, errOfs := ofs, released := true, next := none, bootQual := false,
        loadTime := (s.now - c.began) / 100000 })
      (s.loadFail code ofs false) := by
  unfold State.loadFail
  simp only [Bool.false_eq_true, if_false]
  generalize s.cfgUp _ = t
  have noted := ((StartStep.countInc t 7).trans (.flag _ CFG.CFG_EVT_LOAD_ERR)).trans (.cfgEvent _ 9 .warn)
  split
  · exact (noted.trans (.flag _ CFG.CFG_EVT_IMG_CRC)).trans (.cfgEvent _ 10 .warn)
  · exact noted

/-- A load that may begin, of an image that breaks a rule of pass 1, ends in ERROR with that rule's code and offset. -/
theorem loadTry_pass1_error (s : State) {e : Nat × Nat} (he : imageError s.cfg.flash.pass1 = some e)
    (hi : s.cfg.lst = .idle) (hs : storing s = false) (hq : seqDead s = false) :
    ∃ u : State, StartStep u s.loadTry ∧ u = { s with cfg := u.cfg } ∧
      u.cfg.lst = .error ∧ u.cfg.err = e.1 ∧ u.cfg.errOfs = e.2 ∧ u.cfg.loaded = s.cfg.loaded := by
  have hb : s.loadTry = s.loadBegin := by simp [State.loadTry, hi, hs, hq]
  rw [hb]
  simp only [State.loadBegin, he]
  exact ⟨_, loadFail_pass1 _ e.1 e.2, rfl, rfl, rfl, rfl, rfl⟩

/-- A start with a usable sequencer bank and no STORE of before, whose image breaks a rule of pass 1. -/
theorem start_pass1_error {s t : State} {cause : Nat} {e : Nat × Nat} (ht : s.start cause = t)
    (he : imageError s.cfg.flash.pass1 = some e) (hq : seqDead s = false) (hs : cause = 1 ∨ storing s = false) :
    t.pwr.st = .boot ∧ t.pwr.cause = cause ∧ t.mtb = (if cause = 1 then 0 else s.mtb) ∧ t.pads = s.pads ∧
      t.nvs.ctr = s.nvs.ctr ∧ (s.reinit cause).nvs.incs ++ [0] <+: t.nvs.incs ∧ t.cfg.lst = .error ∧ t.cfg.err = e.1 ∧
      t.cfg.errOfs = e.2 ∧ t.cfg.loaded = false ∧ ⟨0, .info, true, false, cause, 0, 0, []⟩ ∈ t.evq := by
  obtain ⟨v, hv, part, incs, evq⟩ := start_eq_loadTry s cause
  have hsv : storing v = false := by
    rw [storing_of_startPart part, storing_reinit]
    obtain rfl | hs := hs
    · rfl
    · rw [hs, Bool.and_false]
  have hqv : seqDead v = false := by rw [seqDead_of_startPart part, seqDead_reinit, hq]
  simp only [startPart, Prod.mk.injEq, reinit_pads, reinit_cfg, reinit_mtb, reinit_pwr, reinit_nvs] at part
  obtain ⟨hst, hcause, hmtb, hpads, hcfg, -, hctr, -⟩ := part
  have hflash : v.cfg.flash = s.cfg.flash := by rw [hcfg]
  have hidle : v.cfg.lst = .idle := by rw [hcfg]; rfl
  have hunloaded : v.cfg.loaded = false := by rw [hcfg]; rfl
  rw [← hflash] at he
  obtain ⟨u, load, hu, hlst, herr, hofs, hloaded⟩ := loadTry_pass1_error v he hidle hsv hqv
  rw [← hv, ht, hu] at load
  have kept := load.part
  simp only [startPart, Prod.mk.injEq] at kept
  obtain ⟨kst, kcause, kmtb, kpads, kcfg, -, kctr, -⟩ := kept
  rw [kcfg, kst, kcause, kmtb, kpads, kctr]
  exact ⟨hst, hcause, hmtb, hpads, hctr, incs.trans load.incs, hlst, herr, hofs, hloaded.trans hunloaded,
    load.evq.subset evq⟩

/-! ### The rows -/

/-- The module with the image of its flash and the strap pads as a start samples them (R360, R399, R453). -/
def State.sampled (s : State) (fl : Flash) (id role : Nat) : State :=
  { s with cfg := { s.cfg with flash := fl }, pads := { s.pads with id := id % 8, casRole := role % 4 } }

/-- POWER_UP and HOLDUP_RESTART of a module that is off (R453, R539). -/
theorem took_powerOn (s : State) (fl : Flash) (id role : Nat) (hoff : s.pwr.st = .off) :
    took (s.pwr.st == .off) s (s.powerOn fl id role) = .next ((s.sampled fl id role).start 1).settle := by
  have hp : s.powerOn fl id role = (s.sampled fl id role).start 1 := by simp [State.powerOn, hoff, State.sampled]
  rw [hoff, hp]
  exact took_true _ _

/-- Hold-up ignores RESET_N_ASSERT (R555). -/
theorem exec_resetNAssert_holdup (s : State) (ha : alive s = true) (hh : s.pwr.holdup = true) :
    exec .resetNAssert s = .next s.settle := by
  have hr : s.resetLow = s := by simp [State.resetLow, hh]
  show took (alive s) s s.resetLow = _
  rw [ha, hr, took_true]

/-- RESET_N_ASSERT outside hold-up (R14, R424). -/
theorem exec_resetNAssert_running (s : State) (ha : alive s = true) (hh : s.pwr.holdup = false) :
    exec .resetNAssert s = .next { s.reinit 2 with pads := { s.pads with resetLow := true } }.settle := by
  obtain ⟨hst, hlow⟩ : s.pwr.st ≠ .off ∧ s.pads.resetLow = false := by simpa [alive] using ha
  have hr : s.resetLow = { s.reinit 2 with pads := { s.pads with resetLow := true } } := by
    simp [State.resetLow, hst, hh, hlow]
  show took (alive s) s s.resetLow = _
  rw [ha, hr, took_true]

/-- What RESET_N_RELEASE changes of the pads. -/
def State.unheld (s : State) : State := { s with pads := { s.pads with resetLow := false } }

/-- RESET_N_RELEASE of a module held in reset: a start (R453), but in hold-up the pad alone (R555). -/
theorem exec_resetNRelease_held (s : State) (fl : Flash) (id role : Nat) (hst : s.pwr.st ≠ .off)
    (hlow : s.pads.resetLow = true) : exec (.resetNRelease fl id role) s =
      .next (if s.pwr.holdup then s.unheld else (s.unheld.sampled fl id role).start 2).settle := by
  have hok : (s.pwr.st != .off && s.pads.resetLow) = true := by simp [hst, hlow]
  have hr : s.resetHigh fl id role = if s.pwr.holdup then s.unheld else (s.unheld.sampled fl id role).start 2 := by
    simp [State.resetHigh, hlow, State.unheld, State.sampled]
  show took (s.pwr.st != .off && s.pads.resetLow) s _ = _
  rw [hok, hr, took_true]

/-- Settles O48: each row is a start or a reset of the registers, and a start whose image breaks a rule of pass 1 ends its load
at once. -/
theorem startRows : Obligations.StartRows := by
  unfold Obligations.StartRows
  refine ⟨fun s fl id role hoff => ?powerUp, fun s ha => ⟨exec_resetNAssert_holdup s ha, fun hh => ?assert⟩,
    fun s fl id role hst hlow => ?release⟩
  case powerUp =>
    -- Both commands run `powerOn`.
    refine (fun row => ⟨row, row⟩) ⟨_, took_powerOn s fl id role hoff, rfl, fun e he hq => ?_⟩
    obtain ⟨hst, hcause, hmtb, hpads, hctr, ⟨l, hincs⟩, hlst, herr, hofs, hloaded, hevq⟩ :=
      start_pass1_error (s := s.sampled fl id role) rfl he hq (.inl rfl)
    have hboot : (((s.sampled fl id role).start 1).nvs.incs).head? = some 0 := by rw [← hincs]; rfl
    exact ⟨hst, hcause, hmtb, congrArg Pads.id hpads, hctr, hboot, hlst, herr, hofs, hloaded, hevq⟩
  case assert =>
    exact ⟨_, exec_resetNAssert_running s ha hh, rfl, rfl, reinit_reg_outside_banks s 2, reinit_reg_factory s 2,
      rfl, rfl, rfl, rfl, rfl, rfl, rfl, rfl, rfl, rfl, rfl, rfl, rfl, rfl, rfl⟩
  case release =>
    rw [exec_resetNRelease_held s fl id role hst hlow]
    refine ⟨fun hh => by rw [if_pos hh]; rfl, fun hh => ⟨(s.unheld.sampled fl id role).start 2, ?_, rfl, fun e he hq hs => ?_⟩⟩
    · rw [hh, if_neg Bool.false_ne_true]
    · obtain ⟨hst, hcause, hmtb, hpads, hctr, -, hlst, herr, -, -, hevq⟩ :=
        start_pass1_error (s := s.unheld.sampled fl id role) rfl he hq (.inr hs)
      exact ⟨hst, hcause, hmtb, congrArg Pads.resetLow hpads, hctr, hlst, herr, hevq⟩

end Sys2Proof.Machine
end
